-- ==== Sys2Proof/Word.lean ====
section
/-! DEFINITION. Word types of the block: bytes, 64-bit registers, and keyed tables held as plain lists. -/
namespace Sys2Proof

/-- One byte. -/
abbrev Byte := BitVec 8

/-- One 64-bit register value (R12: every register is 64 bits wide). -/
abbrev W64 := BitVec 64

/-- A table held as plain data: (key, value) pairs with rising keys. -/
abbrev Tab (α : Type) := List (Nat × α)

end Sys2Proof
end

