-- ==== Sys2Proof/Config.lean ====
section
/-! DEFINITION. What the manual leaves to an implementation or states no value for: opaque constants with no body, so that no
proof can rest on a value of them (log entries name each). -/
namespace Sys2Proof.Config

/-- Contents of the 4 KiB service record firmware writes at a re-plan (R473 gives no layout; DESIGN CHOICE, log entry 14, as for the five that follow). -/
opaque serviceRecord : Nat → List Byte
/-- HMAC-SHA-384 check of a returned service record under the identity-derived key (R473). -/
opaque recordAuthentic : Nat → List Byte → Bool
/-- Plan of an island in an authentic service record (R473 gives no layout). -/
opaque recordPlan : List Byte → Nat → Nat
/-- Wear of an island in an authentic service record. -/
opaque recordWear : List Byte → Nat → Nat
/-- Powered hours of an island in an authentic service record. -/
opaque recordPowered : List Byte → Nat → Nat
/-- Powered hours that Cone drift implies (R473). -/
opaque driftHours : Int → Nat

/-- Which entry of a full cache set is replaced (R141: left to the implementation), by draw and number of entries (DESIGN CHOICE, log entries 13 and 52). -/
opaque victim : Nat → Nat → Nat
/-- A byte the manual leaves undefined, by draw and offset (DESIGN CHOICE, log entry 9). -/
opaque freeByte : Nat → Nat → Byte

/-- Where the allocator would place an allocation in its heap range, by draw and size (R122 gives no choice rule; DESIGN CHOICE, log entry 11). -/
opaque heapPlace : Nat → Nat → Nat
/-- Which free frame the allocator would take, by draw (R122 gives no choice rule within a die; DESIGN CHOICE, log entry 11). -/
opaque pickFrame : Nat → Nat

/-- Result of RCP (0), RSQRT (1), EXP2 (2) and LOG2 (3) on an FP32 operand, within the error of Table 09-9 (R243 gives no exact
value; DESIGN CHOICE, log entry 10). -/
opaque approx : Nat → Nat → Nat

/-- Hash of a fabric request or response that selects its port (R335 gives no function; DESIGN CHOICE, log entry 19). -/
opaque fabHash : Nat → Nat → Nat → Nat

/-- Rate code of a host link that is up, by pair port, and whether CXL.cache and CXL.mem were negotiated on it: link training is the link
controller's (R33, Table 05-19; DESIGN CHOICE, log entry 15). -/
opaque linkRate : Nat → Nat
opaque linkCache : Nat → Bool
opaque linkMem : Nat → Bool
/-- The generation count of a capability record, by its body (R128 states only that it is even between updates; DESIGN CHOICE, log entry 15). -/
opaque capGen : List Byte → Nat

/-- Verification of an ECDSA P-384 signature over a message, under the public key of a fused digest (R420, R464: the manual gives no key), and a
half's own signature by its identity (0) or alias (1) key (R403; DESIGN CHOICE, log entry 16, as for what follows). -/
opaque sigValid : Nat → List Byte → List Byte → Bool
opaque sign : Nat → Nat → List Byte → List Byte
/-- The last word of an internal array that DIAG reaches, and the contents of one (R422 gives neither). -/
opaque diagLast : Nat → Nat
opaque diagWord : Nat → Nat → Nat → Nat

/-- A fused certificate chain of a half (0) and its alias certificate (1) under a firmware digest (R403 gives their composition only). -/
opaque certChain : Nat → Nat → Nat → List Byte
/-- A SHA-384 measurement block whose message R406 does not lay out, by block and the values it covers. -/
opaque measureDigest : Nat → List Nat → List Byte

end Sys2Proof.Config
end

