-- ==== Sys2Proof/Machine/Bits.lean ====
section
/-! DEFINITION. Bit-field, byte-order and table helpers shared by every meaning (R8: little-endian; [msb:lsb] ranges). -/
namespace Sys2Proof.Machine

/-- Bits [hi:lo] of a number. -/
def bits (v hi lo : Nat) : Nat := (v >>> lo) % 2 ^ (hi + 1 - lo)

/-- Bit i of a number. -/
def bitAt (v i : Nat) : Bool := v.testBit i

/-- A number with its bits [hi:lo] replaced by x (x is cut to the width of the field). -/
def putBits (v hi lo x : Nat) : Nat :=
  v - (bits v hi lo) * 2 ^ lo + (x % 2 ^ (hi + 1 - lo)) * 2 ^ lo

/-- 1 for true, 0 for false. -/
def b2n (b : Bool) : Nat := if b then 1 else 0

/-- Bits [hi:lo] of a 64-bit register. -/
def fld (v : W64) (hi lo : Nat) : Nat := bits v.toNat hi lo

/-- A 64-bit register with bits [hi:lo] replaced. -/
def putFld (v : W64) (hi lo x : Nat) : W64 := BitVec.ofNat 64 (putBits v.toNat hi lo x)

/-- The number a list of bytes spells, byte 0 least significant (R8). -/
def leNat : List Byte → Nat
  | [] => 0
  | b :: bs => b.toNat + 256 * leNat bs

/-- The n little-endian bytes of a number (R8). -/
def leBytes : Nat → Nat → List Byte
  | 0, _ => []
  | n + 1, v => BitVec.ofNat 8 (v % 256) :: leBytes n (v / 256)

/-- The number bytes [hi:lo] of a byte list spell; a byte past the end counts as 0. -/
def byteFld (bs : List Byte) (hi lo : Nat) : Nat := leNat ((bs.drop lo).take (hi + 1 - lo))

/-- The value of a table at a key. -/
def Tab.look {α : Type} : Tab α → Nat → Option α
  | [], _ => none
  | (k, v) :: t, i => if k = i then some v else Tab.look t i

/-- The value of a table at a key, or a default. -/
def Tab.dflt {α : Type} (t : Tab α) (i : Nat) (d : α) : α := (Tab.look t i).getD d

/-- A table with the value at a key written, keys kept rising. -/
def Tab.put {α : Type} : Tab α → Nat → α → Tab α
  | [], i, x => [(i, x)]
  | (k, v) :: t, i, x =>
    if i < k then (i, x) :: (k, v) :: t
    else if i = k then (i, x) :: t
    else (k, v) :: Tab.put t i x

/-- A table without a key. -/
def Tab.del {α : Type} (t : Tab α) (i : Nat) : Tab α := t.filter (fun p => p.1 != i)

/-- A table with the value at a key rewritten where there is one. -/
def Tab.modify {α : Type} (t : Tab α) (i : Nat) (f : α → α) : Tab α :=
  t.map (fun p => if p.1 = i then (p.1, f p.2) else p)

/-- A table with the value at a key rewritten, starting from a default. -/
def Tab.upd {α : Type} (t : Tab α) (i : Nat) (d : α) (f : α → α) : Tab α :=
  Tab.put t i (f (Tab.dflt t i d))

/-- The first key from `lo` below `lo + n` that a table does not hold. -/
def Tab.free {α : Type} (t : Tab α) (lo n : Nat) : Option Nat :=
  ((List.range n).map (· + lo)).find? (fun k => (Tab.look t k).isNone)

/-- Index a is later than index b in the 32-bit free-running count (R87). -/
def later (a b : Nat) : Bool :=
  let d := (a + 2 ^ 32 - b % 2 ^ 32) % 2 ^ 32
  decide (1 ≤ d ∧ d ≤ 2 ^ 31 - 1)

/-- (a − b) mod 2^32. -/
def sub32 (a b : Nat) : Nat := (a + 2 ^ 32 - b % 2 ^ 32) % 2 ^ 32

/-- Quotient rounded up. -/
def ceilDiv (a b : Nat) : Nat := (a + b - 1) / b

/-- A value held at the nearer of two limits. -/
def clampTo (lo hi v : Nat) : Nat := if v < lo then lo else if hi < v then hi else v

/-- Round down to a multiple. -/
def alignDown (a n : Nat) : Nat := a / n * n

/-- Round up to a multiple. -/
def alignUp (a n : Nat) : Nat := (a + n - 1) / n * n

/-- A signed 16-bit reading of a number. -/
def int16 (v : Nat) : Int := if v % 65536 ≥ 32768 then (v % 65536 : Int) - 65536 else (v % 65536 : Int)

/-- Two half-open byte ranges meet. -/
def meets (a n b m : Nat) : Bool := decide (a < b + m) && decide (b < a + n)

/-- A list without its first element that passes a test. -/
def eraseFirst {α : Type} (p : α → Bool) : List α → List α
  | [] => []
  | x :: xs => if p x then xs else x :: eraseFirst p xs

end Sys2Proof.Machine
end

