-- ==== Sys2Proof/Machine/Num.lean ====
section
/-! DEFINITION. Arithmetic of the transform engines (R223 to R232, R240, R243): exact values, rounding, number formats, block scales,
stochastic draws and FP32 lane operations. -/
namespace Sys2Proof.Machine

/-- A decoded value: NaN, an infinity, or (−1)^neg × m × 2^e. -/
inductive Val where
  | nan
  | inf (neg : Bool)
  | fin (neg : Bool) (m : Nat) (e : Int)
  deriving DecidableEq, Repr

/-- A binary floating-point element format (Table 09-2). `kind`: 0 infinities and NaN as FP32; 1 E4M3; 2 no special codes. -/
structure FpFmt where
  ebits : Nat
  bias : Nat
  mbits : Nat
  kind : Nat := 0
  deriving DecidableEq, Repr

def fp32 : FpFmt := ⟨8, 127, 23, 0⟩
def bf16 : FpFmt := ⟨8, 127, 7, 0⟩
def fp16 : FpFmt := ⟨5, 15, 10, 0⟩
def e4m3 : FpFmt := ⟨4, 7, 3, 1⟩
def e5m2 : FpFmt := ⟨5, 15, 2, 0⟩
def e2m3 : FpFmt := ⟨2, 1, 3, 2⟩
def e3m2 : FpFmt := ⟨3, 3, 2, 2⟩
def e2m1 : FpFmt := ⟨2, 1, 1, 2⟩

def FpFmt.width (f : FpFmt) : Nat := 1 + f.ebits + f.mbits

/-- Decode an element (R224). -/
def FpFmt.decode (f : FpFmt) (c : Nat) : Val :=
  let s := bitAt c (f.ebits + f.mbits)
  let e := bits c (f.ebits + f.mbits - 1) f.mbits
  let m := c % 2 ^ f.mbits
  let top := 2 ^ f.ebits - 1
  if f.kind = 0 ∧ e = top then (if m = 0 then .inf s else .nan)
  else if f.kind = 1 ∧ e = top ∧ m = 2 ^ f.mbits - 1 then .nan
  else if e = 0 then .fin s m (1 - (f.bias : Int) - f.mbits)
  else .fin s (2 ^ f.mbits + m) ((e : Int) - f.bias - f.mbits)

/-- Code of the largest finite magnitude (Table 09-1, Table 09-2). -/
def FpFmt.maxCode (f : FpFmt) : Nat :=
  if f.kind = 0 then (2 ^ f.ebits - 1) * 2 ^ f.mbits - 1
  else if f.kind = 1 then 2 ^ (f.ebits + f.mbits) - 2
  else 2 ^ (f.ebits + f.mbits) - 1

/-- ⌊log2 (n / d)⌋ for positive n and d. -/
def log2Q (n d : Nat) : Int :=
  let l : Int := (Nat.log2 n : Int) - Nat.log2 d
  let ge (k : Int) : Bool := if 0 ≤ k then decide (d * 2 ^ k.toNat ≤ n) else decide (d ≤ n * 2 ^ (-k).toNat)
  if ge l then l else l - 1

/-- Rounding modes (R230): 0 nearest-even, 1 toward zero, 2 stochastic with the draw r (R231). -/
def roundK (mode r k rem den : Nat) : Nat :=
  if rem = 0 then k
  else if mode = 1 then k
  else if mode = 2 then (if r < 65536 * rem / den then k + 1 else k)
  else if den < 2 * rem then k + 1
  else if 2 * rem < den then k
  else if k % 2 = 0 then k else k + 1

/-- n / d × 2^e in units of 2^q: quotient, remainder and divisor. -/
def inUnits (n d : Nat) (e q : Int) : Nat × Nat × Nat :=
  let s := e - q
  let num := if 0 ≤ s then n * 2 ^ s.toNat else n
  let den := if 0 ≤ s then d else d * 2 ^ (-s).toNat
  (num / den, num % den, den)

/-- Magnitude n / d × 2^e rounded to a format with an unbounded exponent: the code it would have, the exponent field going on past
the format's largest; a code above `maxCode` is overflow. -/
def FpFmt.roundMag (f : FpFmt) (mode r n d : Nat) (e : Int) : Nat :=
  if n = 0 then 0
  else
    let emin : Int := 1 - f.bias
    let l := max (log2Q n d + e) emin
    let q := l - f.mbits
    let (k0, rem, den) := inUnits n d e q
    let k := roundK mode r k0 rem den
    k + (l - emin).toNat * 2 ^ f.mbits

/-- A magnitude exceeds a format's largest finite value. -/
def FpFmt.above (f : FpFmt) (n d : Nat) (e : Int) : Bool :=
  match f.decode f.maxCode with
  | .fin _ m x =>
    let s := e - x
    if 0 ≤ s then decide (m * d < n * 2 ^ s.toNat) else decide (m * d * 2 ^ (-s).toNat < n)
  | _ => false

/-- Round to FP32 (R229: nearest-even, subnormals kept). -/
def toF32 : Val → Nat
  | .nan => 0x7FC00000
  | .inf s => b2n s * 2 ^ 31 + 0x7F800000
  | .fin s m e =>
    let c := fp32.roundMag 0 0 m 1 e
    b2n s * 2 ^ 31 + (if fp32.maxCode < c then 0x7F800000 else c)

/-- The value of an FP32 number. -/
def ofF32 (c : Nat) : Val := fp32.decode c

/-- Encode into a floating-point element (R232, Table 09-4): the code, and whether the element counts as clamped or saturated. -/
def FpFmt.encode (f : FpFmt) (mode r : Nat) (sat : Bool) (v : Val) : Nat × Bool :=
  let sign (s : Bool) : Nat := b2n s * 2 ^ (f.ebits + f.mbits)
  let nanCode := if f.kind = 1 ∨ f = e5m2 then 0x7F else (2 ^ (f.ebits + 1) - 1) * 2 ^ (f.mbits - 1)
  let infCode (s : Bool) : Nat := if f.kind = 1 then 0x7F else sign s + (2 ^ f.ebits - 1) * 2 ^ f.mbits
  let fp8 := f = e4m3 ∨ f = e5m2
  match v with
  | .nan => (nanCode, false)
  | .inf s => if fp8 ∧ sat then (sign s + f.maxCode, true) else (infCode s, f.kind == 1)
  | .fin s m e =>
    let excess := mode = 2 ∧ f.above m 1 e
    let c := if excess then f.maxCode + 1 else f.roundMag mode r m 1 e
    if f.maxCode < c then (if sat then (sign s + f.maxCode, true) else (infCode s, true))
    else (sign s + c, false)

/-- Encode into INT8 or INT4 of `w` bits (Table 09-4). -/
def encodeInt (w mode r : Nat) (v : Val) : Nat × Bool :=
  let hi := 2 ^ (w - 1) - 1
  match v with
  | .nan => (0, false)
  | .inf s => (if s then 2 ^ (w - 1) else hi, true)
  | .fin s m e =>
    let (k0, rem, den) := inUnits m 1 e 0
    let lim := if s then hi + 1 else hi
    let out := mode = 2 ∧ (lim < k0 ∨ (k0 = lim ∧ rem ≠ 0))
    let k := roundK mode r k0 rem den
    if out ∨ lim < k then (if s then 2 ^ (w - 1) else hi, true)
    else (if s then (2 ^ w - k) % 2 ^ w else k, false)

/-- A two's complement value. -/
def decodeInt (w c : Nat) : Val :=
  if c % 2 ^ w < 2 ^ (w - 1) then .fin false (c % 2 ^ w) 0 else .fin true (2 ^ w - c % 2 ^ w) 0

/-- A value times 2^k. -/
def Val.shift (v : Val) (k : Int) : Val :=
  match v with
  | .fin s m e => .fin s m (e + k)
  | w => w

/-! ### Format codes (Table 09-1) -/

/-- Bits of an element. -/
def elemBits (f : Nat) : Nat :=
  if f = 0 then 32 else if f = 1 ∨ f = 2 then 16 else if f = 6 ∨ f = 0x0C ∨ f = 0x10 then 4
  else if f = 0x0A ∨ f = 0x0B then 6 else 8

/-- Defined format codes. -/
def fmtDefined (f : Nat) : Bool := decide (f ≤ 6) || (decide (8 ≤ f) && decide (f ≤ 0x0D)) || f == 0x10
/-- MX formats. -/
def fmtMx (f : Nat) : Bool := decide (8 ≤ f) && decide (f ≤ 0x0D)
/-- Elements of a block: 1 for unscaled formats. -/
def blockOf (f : Nat) : Nat := if fmtMx f then 32 else if f = 0x10 then 256 else 1

/-- The floating-point element of a format, if it has one. -/
def fmtFp (f : Nat) : Option FpFmt :=
  if f = 0 then some fp32 else if f = 1 then some bf16 else if f = 2 then some fp16
  else if f = 3 ∨ f = 8 then some e4m3 else if f = 4 ∨ f = 9 then some e5m2 else if f = 0x0A then some e2m3
  else if f = 0x0B then some e3m2 else if f = 0x0C ∨ f = 0x10 then some e2m1 else none

/-- emax of R228. -/
def fmtEmax (f : Nat) : Int :=
  if f = 8 then 8 else if f = 9 then 15 else if f = 0x0A then 2 else if f = 0x0B then 4
  else if f = 0x0C ∨ f = 0x10 then 2 else 0

/-- Bytes of n elements of a format, scales apart; 144 bytes per WQ-S4 block. -/
def arrayBytes (f n : Nat) : Nat := if f = 0x10 then n / 256 * 144 else (n * elemBits f + 7) / 8

/-- The code of element i in a packed array held as one little-endian number (R225). -/
def elemCode (f i v : Nat) : Nat := (v >>> (i * elemBits f)) % 2 ^ elemBits f

/-- Decode an element code apart from its scale (R224, R226). -/
def decodeElem (f c : Nat) : Val :=
  match fmtFp f with
  | some k => k.decode c
  | none => if f = 0x0D then (decodeInt 8 c).shift (-6) else decodeInt (elemBits f) c

/-- F(s) of a WQ-S4 sub-scale, in 1/32 (R227). -/
def subScale32 (s : Nat) : Nat := (4 + s % 4) * 2 ^ (3 - s / 4 % 4)

/-- Decode n elements from their bytes and, for MX, their scale bytes; every value is brought to FP32 (R229). -/
def decodeRun (f n : Nat) (elems scales : List Byte) : List Nat :=
  let v := leNat elems
  (List.range n).map (fun i =>
    if f = 0x10 then
      let blk := elems.drop (i / 256 * 144)
      let k := i % 256
      let c := (byteFld blk 127 0 >>> (4 * k)) % 16
      let s := (byteFld blk 135 128 >>> (4 * (k / 16))) % 16
      let sc := byteFld blk 136 136
      if sc = 255 then toF32 .nan
      else match e2m1.decode c with
        | .fin g m e => toF32 (.fin g (m * subScale32 s) (e - 5 + sc - 127))
        | w => toF32 w
    else if fmtMx f then
      let sc := byteFld scales (i / 32) (i / 32)
      if sc = 255 then toF32 .nan else toF32 ((decodeElem f (elemCode f i v)).shift ((sc : Int) - 127))
    else toF32 (decodeElem f (elemCode f i v)))

/-! ### Stochastic draws (R231): AES-128 in counter form -/

def aesSbox : List Nat :=
  [99, 124, 119, 123, 242, 107, 111, 197, 48, 1, 103, 43, 254, 215, 171, 118, 202, 130, 201, 125, 250, 89, 71, 240, 173, 212, 162, 175, 156, 164, 114, 192] ++
  [183, 253, 147, 38, 54, 63, 247, 204, 52, 165, 229, 241, 113, 216, 49, 21, 4, 199, 35, 195, 24, 150, 5, 154, 7, 18, 128, 226, 235, 39, 178, 117] ++
  [9, 131, 44, 26, 27, 110, 90, 160, 82, 59, 214, 179, 41, 227, 47, 132, 83, 209, 0, 237, 32, 252, 177, 91, 106, 203, 190, 57, 74, 76, 88, 207] ++
  [208, 239, 170, 251, 67, 77, 51, 133, 69, 249, 2, 127, 80, 60, 159, 168, 81, 163, 64, 143, 146, 157, 56, 245, 188, 182, 218, 33, 16, 255, 243, 210] ++
  [205, 12, 19, 236, 95, 151, 68, 23, 196, 167, 126, 61, 100, 93, 25, 115, 96, 129, 79, 220, 34, 42, 144, 136, 70, 238, 184, 20, 222, 94, 11, 219] ++
  [224, 50, 58, 10, 73, 6, 36, 92, 194, 211, 172, 98, 145, 149, 228, 121, 231, 200, 55, 109, 141, 213, 78, 169, 108, 86, 244, 234, 101, 122, 174, 8] ++
  [186, 120, 37, 46, 28, 166, 180, 198, 232, 221, 116, 31, 75, 189, 139, 138, 112, 62, 181, 102, 72, 3, 246, 14, 97, 53, 87, 185, 134, 193, 29, 158] ++
  [225, 248, 152, 17, 105, 217, 142, 148, 155, 30, 135, 233, 206, 85, 40, 223, 140, 161, 137, 13, 191, 230, 66, 104, 65, 153, 45, 15, 176, 84, 187, 22]

def xtime (a : Nat) : Nat := let b := 2 * a; if 256 ≤ b then Nat.xor (b - 256) 0x1B else b

def aesSub (l : List Nat) : List Nat := l.map (fun b => aesSbox.getD b 0)

def xorList (a b : List Nat) : List Nat := (a.zip b).map (fun p => Nat.xor p.1 p.2)

/-- Next round key (FIPS 197). -/
def aesNextKey (k : List Nat) (rcon : Nat) : List Nat :=
  let t := aesSub [k.getD 13 0, k.getD 14 0, k.getD 15 0, k.getD 12 0]
  let w0 := xorList (k.take 4) [Nat.xor (t.getD 0 0) rcon, t.getD 1 0, t.getD 2 0, t.getD 3 0]
  let w1 := xorList ((k.drop 4).take 4) w0
  let w2 := xorList ((k.drop 8).take 4) w1
  let w3 := xorList ((k.drop 12).take 4) w2
  w0 ++ w1 ++ w2 ++ w3

def aesShift (s : List Nat) : List Nat :=
  (List.range 16).map (fun i => s.getD ((i + 4 * (i % 4)) % 16) 0)

def aesMixCol (c : List Nat) : List Nat :=
  let a := c.getD 0 0
  let b := c.getD 1 0
  let d := c.getD 2 0
  let e := c.getD 3 0
  let f (p q r s : Nat) : Nat := Nat.xor (Nat.xor (xtime p) (Nat.xor (xtime q) q)) (Nat.xor r s)
  [f a b d e, f b d e a, f d e a b, f e a b d]

def aesMix (s : List Nat) : List Nat :=
  aesMixCol (s.take 4) ++ aesMixCol ((s.drop 4).take 4) ++ aesMixCol ((s.drop 8).take 4) ++ aesMixCol (s.drop 12)

/-- Rounds 1 to 10 from round n on. -/
def aesRounds : Nat → Nat → List Nat → List Nat → List Nat
  | 0, _, _, s => s
  | n + 1, rcon, k, s =>
    let k1 := aesNextKey k rcon
    let t := aesShift (aesSub s)
    aesRounds n (xtime rcon) k1 (xorList (if n = 0 then t else aesMix t) k1)

/-- AES-128 of a 16-byte block (FIPS 197). -/
def aes128 (key blk : List Nat) : List Nat := aesRounds 10 1 key (xorList blk key)

/-- The 16-bit draw of element n (R231). -/
def draw16 (seed salt n : Nat) : Nat :=
  let raw (w v : Nat) : List Nat := (leBytes w v).map (·.toNat)
  let o := aes128 (raw 8 seed ++ raw 8 salt) (raw 16 (n / 8))
  o.getD (2 * (n % 8)) 0 + 256 * o.getD (2 * (n % 8) + 1) 0

/-! ### Encoding runs of elements -/

/-- How a packet encodes: rounding mode, SAT, SEED and SALT. -/
structure EncMode where
  mode : Nat := 0
  sat : Bool := false
  seed : Nat := 0
  salt : Nat := 0
  deriving DecidableEq, Repr

def EncMode.drawOf (k : EncMode) (n : Nat) : Nat := if k.mode = 2 then draw16 k.seed k.salt n else 0

/-- Pack element codes (R225). -/
def packCodes (w : Nat) (cs : List Nat) : Nat := cs.foldr (fun c a => c + 2 ^ w * a) 0

/-- Largest finite magnitude of a run, as (m, e); none when every finite value is 0. -/
def maxMag (vs : List Val) : Option (Nat × Int) :=
  vs.foldl (fun a v => match v with
    | .fin _ m e => if m = 0 then a else match a with
      | none => some (m, e)
      | some (m0, e0) =>
        let s := e - e0
        if (if 0 ≤ s then decide (m0 < m * 2 ^ s.toNat) else decide (m0 * 2 ^ (-s).toNat < m)) then some (m, e) else a
    | _ => a) none

/-- One element of a block-scaled format, of value n/d × 2^e with a sign (R228 step 6). -/
def blockElem (f : Nat) (k : EncMode) (idx : Nat) (neg : Bool) (n d : Nat) (e : Int) : Nat × Bool :=
  let r := k.drawOf idx
  if f = 0x0D then
    let (k0, rem, den) := inUnits n d (e + 6) 0
    let lim := if neg then 128 else 127
    let out := k.mode = 2 ∧ (lim < k0 ∨ (k0 = lim ∧ rem ≠ 0))
    let q := roundK k.mode r k0 rem den
    let v := if out ∨ lim < q then lim else q
    (if neg then (256 - v) % 256 else v, decide (out ∨ lim < q))
  else
    let g := (fmtFp f).getD e2m1
    let sign := b2n neg * 2 ^ (g.ebits + g.mbits)
    if k.mode = 2 ∧ g.above n d e then (sign + g.maxCode, true)
    else
      let c := g.roundMag k.mode r n d e
      if g.maxCode < c then (sign + g.maxCode, true) else (sign + c, false)

/-- Encode one block of a block-scaled format: element codes, sub-scales, scale code and elements clamped (R228). -/
def encodeBlock (f : Nat) (k : EncMode) (base : Nat) (vs : List Val) : List Nat × List Nat × Nat × Nat :=
  let w := blockOf f
  let zeros := List.replicate 16 0
  let bad := vs.any (fun v => match v with
    | .fin _ _ _ => false
    | _ => true)
  if bad then (List.replicate w 0, zeros, 255, 0)
  else match maxMag vs with
    | none => (vs.map (fun v => match v with
        | .fin s _ _ => if f = 0x0D then 0 else b2n s * 2 ^ (elemBits f - 1)
        | _ => 0), zeros, 127, 0)
    | some (m, e) =>
      let x := max (-127) (min 127 (log2Q m 1 + e - fmtEmax f))
      let subs := if f = 0x10 then (List.range 16).map (fun j =>
          match maxMag ((vs.drop (16 * j)).take 16) with
          | none => 12
          | some (mj, ej) =>
            let ok (s : Nat) : Bool :=
              let t := ej - x
              if 0 ≤ t then decide (32 * mj * 2 ^ t.toNat ≤ 6 * subScale32 s) else decide (32 * mj ≤ 6 * subScale32 s * 2 ^ (-t).toNat)
            ([12, 13, 14, 15, 8, 9, 10, 11, 4, 5, 6, 7, 0, 1, 2, 3].find? ok).getD 3) else zeros
      let es := (List.range vs.length).map (fun i => match vs.getD i .nan with
        | .fin s n en =>
          if f = 0x10 then blockElem f k (base + i) s (n * 32) (subScale32 (subs.getD (i / 16) 0)) (en - x)
          else blockElem f k (base + i) s n 1 (en - x)
        | _ => (0, false))
      (es.map (·.1), subs, (x + 127).toNat, (es.filter (·.2)).length)

/-- Encode FP32 lane values from element index `base` on: element bytes, scale bytes and elements clamped or saturated. -/
def encodeRun (f : Nat) (k : EncMode) (base : Nat) (xs : List Nat) : List Byte × List Byte × Nat :=
  let vs := xs.map ofF32
  if blockOf f = 1 then
    let cs := (List.range vs.length).map (fun i =>
      let v := vs.getD i .nan
      let r := k.drawOf (base + i)
      match fmtFp f with
      | some g => g.encode k.mode r k.sat v
      | none => encodeInt (elemBits f) k.mode r v)
    (leBytes (arrayBytes f vs.length) (packCodes (elemBits f) (cs.map (·.1))), [], (cs.filter (·.2)).length)
  else
    let w := blockOf f
    (List.range (vs.length / w)).foldl (fun acc j =>
      let (es, subs, sc, n) := encodeBlock f k (base + j * w) ((vs.drop (j * w)).take w)
      if f = 0x10 then
        (acc.1 ++ leBytes 128 (packCodes 4 es) ++ leBytes 8 (packCodes 4 subs) ++ [BitVec.ofNat 8 sc] ++ leBytes 7 0, acc.2.1, acc.2.2 + n)
      else (acc.1 ++ leBytes (arrayBytes f w) (packCodes (elemBits f) es), acc.2.1 ++ [BitVec.ofNat 8 sc], acc.2.2 + n)) ([], [], 0)

/-! ### FP32 lane operations (R229, Table 09-9) -/

/-- Sum of two finite values, exactly; a zero sum is +0 unless both are −0. -/
def addFin (s1 : Bool) (m1 : Nat) (e1 : Int) (s2 : Bool) (m2 : Nat) (e2 : Int) : Val :=
  let e := min e1 e2
  let a : Int := (m1 * 2 ^ (e1 - e).toNat : Nat)
  let b : Int := (m2 * 2 ^ (e2 - e).toNat : Nat)
  let t := (if s1 then -a else a) + (if s2 then -b else b)
  if t = 0 then .fin (s1 && s2) 0 e else .fin (decide (t < 0)) t.natAbs e

def Val.add (a b : Val) : Val :=
  match a, b with
  | .fin s1 m1 e1, .fin s2 m2 e2 => addFin s1 m1 e1 s2 m2 e2
  | .inf s, .fin _ _ _ => .inf s
  | .fin _ _ _, .inf s => .inf s
  | .inf s, .inf t => if s = t then .inf s else .nan
  | _, _ => .nan

def Val.mul (a b : Val) : Val :=
  match a, b with
  | .fin s1 m1 e1, .fin s2 m2 e2 => .fin (s1 != s2) (m1 * m2) (e1 + e2)
  | .inf s, .inf t => .inf (s != t)
  | .inf s, .fin t m _ => if m = 0 then .nan else .inf (s != t)
  | .fin t m _, .inf s => if m = 0 then .nan else .inf (s != t)
  | _, _ => .nan

def Val.neg : Val → Val
  | .nan => .nan
  | .inf s => .inf (!s)
  | .fin s m e => .fin (!s) m e

def fAdd (a b : Nat) : Nat := toF32 ((ofF32 a).add (ofF32 b))
def fNeg (a : Nat) : Nat := toF32 (ofF32 a).neg
def fSub (a b : Nat) : Nat := toF32 ((ofF32 a).add (ofF32 b).neg)
def fMul (a b : Nat) : Nat := toF32 ((ofF32 a).mul (ofF32 b))
/-- a × b + c, rounded once. -/
def fFma (a b c : Nat) : Nat := toF32 (((ofF32 a).mul (ofF32 b)).add (ofF32 c))

/-- a < b, for values that are not NaN; −0 counts as below +0 where `zeros` is set. -/
def Val.lt (zeros : Bool) (a b : Val) : Bool :=
  match a, b with
  | .inf s, .inf t => s && !t
  | .inf s, .fin _ _ _ => s
  | .fin _ _ _, .inf t => !t
  | .fin s m _, .fin t n _ =>
    if m = 0 ∧ n = 0 then zeros && s && !t
    else match a.add b.neg with
      | .fin g k _ => g && k != 0
      | _ => false
  | _, _ => false

def Val.isNan : Val → Bool
  | .nan => true
  | _ => false
def Val.isFin : Val → Bool
  | .fin _ _ _ => true
  | _ => false

def fNan : Nat := 0x7FC00000
/-- Larger and smaller of two (Table 09-9). -/
def fMax (a b : Nat) : Nat :=
  if (ofF32 a).isNan || (ofF32 b).isNan then fNan else if (ofF32 a).lt true (ofF32 b) then b else a
def fMin (a b : Nat) : Nat :=
  if (ofF32 a).isNan || (ofF32 b).isNan then fNan else if (ofF32 b).lt true (ofF32 a) then b else a
def fAbs (a : Nat) : Nat := if (ofF32 a).isNan then fNan else a % 2 ^ 31
/-- ⌊a⌋. -/
def fFloor (a : Nat) : Nat :=
  match ofF32 a with
  | .fin s m e =>
    if 0 ≤ e then a
    else
      let d := 2 ^ (-e).toNat
      toF32 (.fin s (if s then (m + d - 1) / d else m / d) 0)
  | .nan => fNan
  | .inf _ => a
/-- a > 0. -/
def fPos (a : Nat) : Bool := (Val.fin false 0 0).lt false (ofF32 a)
/-- Quotient of 256 by a positive finite number, rounded to nearest-even. -/
def fDiv256 (a : Nat) : Nat :=
  match ofF32 a with
  | .fin _ m e =>
    let c := fp32.roundMag 0 0 256 (max m 1) (-e)
    if fp32.maxCode < c then 0x7F800000 else c
  | _ => fNan

/-- A table (Table 09-7): LO, STEP_INV, OUTSIDE, and 256 (A, B) pairs. -/
structure PwlTable where
  lo : Nat := 0
  stepInv : Nat := 0
  outside : Bool := false
  seg : List (Nat × Nat) := []
  deriving DecidableEq, Repr

/-- A table from its 2,064 bytes; none where it is refused (R240). -/
def parseTable (bs : List Byte) : Option PwlTable :=
  let si := byteFld bs 7 4
  if ¬ (ofF32 si).isFin ∨ ¬ fPos si ∨ byteFld bs 15 9 ≠ 0 ∨ 1 < byteFld bs 8 8 then none
  else some { lo := byteFld bs 3 0, stepInv := si, outside := byteFld bs 8 8 == 1,
              seg := (List.range 256).map (fun s => (byteFld bs (19 + 8 * s) (16 + 8 * s), byteFld bs (23 + 8 * s) (20 + 8 * s))) }

/-- An FP32 number's integer part as a segment number, 0 to 255. -/
def segOf (u : Nat) : Nat :=
  match ofF32 u with
  | .inf s => if s then 0 else 255
  | .fin s m e => if s then 0 else min 255 (if 0 ≤ e then m * 2 ^ e.toNat else m / 2 ^ (-e).toNat)
  | .nan => 0

/-- Evaluate a table (R240). -/
def pwl (t : PwlTable) (x : Nat) : Nat :=
  if (ofF32 x).isNan then fNan
  else
    let u0 := fMul (fSub x t.lo) t.stepInv
    let u := if t.outside then fMin (fMax u0 0) 0x43800000 else u0
    let x1 := if t.outside then fMin (fMax x t.lo) (fAdd t.lo (fDiv256 t.stepInv)) else x
    let (a, b) := t.seg.getD (segOf u) (0, 0)
    if a % 2 ^ 31 = 0 then b else fFma a x1 b

/-- A relay program (Table 09-8). -/
structure Relay where
  outReg : Nat := 0
  in1 : Bool := false
  tabs : List Nat := []
  consts : List Nat := []
  ops : List Nat := []
  deriving DecidableEq, Repr

/-- A program from its image; none where it is refused (R244). -/
def parseRelay (bs : List Byte) : Option Relay :=
  let nops := byteFld bs 0 0
  let ntab := byteFld bs 1 1
  let ops := (List.range nops).map (fun n => byteFld bs (135 + 8 * n) (128 + 8 * n))
  let tabs := (List.range 4).map (fun i => byteFld bs (15 + 8 * i) (8 + 8 * i))
  if nops < 1 ∨ 64 < nops ∨ 4 < ntab ∨ 15 < byteFld bs 2 2 ∨ 1 < byteFld bs 3 3 ∨ byteFld bs 7 4 ≠ 0 ∨ byteFld bs 63 40 ≠ 0 ∨
      (tabs.drop ntab).any (fun t => t != 0) ∨
      ops.any (fun o => decide (0x14 < o % 256) || decide (bits o 31 24 ≠ 0) || (o % 256 == 0x10 && decide (ntab ≤ bits o 33 32)))
  then none
  else some { outReg := byteFld bs 2 2, in1 := byteFld bs 3 3 == 1, tabs := tabs.take ntab,
              consts := (List.range 16).map (fun k => byteFld bs (67 + 4 * k) (64 + 4 * k)), ops := ops }

/-- RCP, RSQRT, EXP2 and LOG2: the stated special cases, otherwise a value the manual bounds but does not fix. -/
def fApprox (op a : Nat) : Nat :=
  let neg := (ofF32 a).lt false (.fin false 0 0)
  if (ofF32 a).isNan then fNan
  else if (op = 1 ∨ op = 3) ∧ neg then fNan
  else if op = 3 ∧ a % 2 ^ 31 = 0 then 0xFF800000
  else Config.approx op a % 2 ^ 32

/-- One micro-op on the sixteen registers (R243). -/
def microOp (p : Relay) (ts : List PwlTable) (v : List Nat) (o : Nat) : List Nat :=
  let d := bits o 11 8
  let a := v.getD (bits o 15 12) 0
  let b := v.getD (bits o 19 16) 0
  let c := v.getD (bits o 23 20) 0
  let imm := bits o 63 32
  let r := match o % 256 with
    | 0x01 => fAdd a b
    | 0x02 => fSub a b
    | 0x03 => fMul a b
    | 0x04 => fFma a b c
    | 0x05 => fMax a b
    | 0x06 => fMin a b
    | 0x07 => fAbs a
    | 0x08 => fNeg a
    | 0x09 => fAdd a imm
    | 0x0A => fMul a imm
    | 0x0B => fFma a imm b
    | 0x0C => p.consts.getD (imm % 16) 0
    | 0x0D => if fPos c then a else b
    | 0x0E => fMin (fMax a b) c
    | 0x0F => fFloor a
    | 0x10 => pwl (ts.getD (imm % 4) {}) a
    | 0x11 => fApprox 0 a
    | 0x12 => fApprox 1 a
    | 0x13 => fApprox 2 a
    | 0x14 => fApprox 3 a
    | _ => v.getD d 0
  if o % 256 = 0 then v else v.set d r

/-- Run a program on one element (R242). -/
def Relay.run (p : Relay) (ts : List PwlTable) (x x2 : Nat) : Nat :=
  (p.ops.foldl (microOp p ts) (x :: x2 :: List.replicate 14 0)).getD p.outReg 0

/-- A statistics record (Table 09-6): MAXABS, SUM, SUMSQ, NONFINITE. -/
structure Stats where
  maxAbs : Nat := 0
  sum : Nat := 0
  sumSq : Nat := 0
  nonFinite : Nat := 0
  deriving DecidableEq, Repr

def Stats.add (s : Stats) (y : Nat) : Stats :=
  if (ofF32 y).isFin then
    { s with maxAbs := fMax s.maxAbs (fAbs y), sum := fAdd s.sum y, sumSq := fFma y y s.sumSq }
  else { s with nonFinite := s.nonFinite + 1 }

def Stats.bytes (s : Stats) : List Byte := leBytes 4 s.maxAbs ++ leBytes 4 s.sum ++ leBytes 4 s.sumSq ++ leBytes 4 s.nonFinite

end Sys2Proof.Machine
end

