-- ==== Sys2Proof/Objects.lean ====
section
/-! DEFINITION. The plain data the block's chapters name: halves, requesters, coded messages, journal entries, contexts,
queues, packets and the frames of the Tandem link. Shared by the commands (Syntax) and by State. -/
namespace Sys2Proof.Machine

/-- The two halves of the pair (R1). -/
inductive HalfId where
  | A | B
  deriving DecidableEq, Repr

/-- The partner half. -/
def HalfId.other : HalfId → HalfId
  | .A => .B
  | .B => .A

/-- HALF_ID as a number (R1). -/
def HalfId.num : HalfId → Nat
  | .A => 0
  | .B => 1

/-- The half a pair port (2 × HALF + logical host port, R84) belongs to. -/
def HalfId.ofPort (p : Nat) : HalfId := if p / 2 % 2 = 0 then .A else .B

/-- Where a register or window access comes from: a function (pair port, partition whose function it is (0 = the primary or
a companion), Requester ID), or Dalwaind's MCTP register message (R438). -/
inductive Via where
  | fn (port part rid : Nat)
  | mctp (endpoint : Nat)
  deriving DecidableEq, Repr

/-- The transport of an SPDM session (R404, R405): the DOE mailbox of a function, or an MCTP endpoint. -/
inductive Transport where
  | doe (port vf : Nat)
  | mctp (endpoint : Nat)
  deriving DecidableEq, Repr

/-- An SPDM session (R405): its transport, the block time of its last message, and the key updates made. -/
structure Session where
  via : Transport := .mctp 0
  beat : Nat := 0
  updates : Nat := 0
  deriving DecidableEq, Repr

/-- An entry of the staging table (R415): context, epoch and key, and the session (half and number) it came through. -/
structure Staged where
  ctx : Nat := 0
  epoch : Nat := 0
  key : Nat := 0
  half : HalfId := .A
  session : Nat := 0
  deriving DecidableEq, Repr

/-- A coded message (Table 16-1). -/
structure ErrMsg where
  sev : Nat := 0
  source : Nat := 0
  kind : Nat := 0
  access : Nat := 0
  partValid : Bool := false
  part : Nat := 0
  agent : Nat := 0
  addr : Nat := 0
  deriving DecidableEq, Repr

/-- A log entry: the message as received, its stamp, whether it was read, and whether it came from WQ_ERR_INJECT (R430, R444). -/
structure LogEntry where
  msg : ErrMsg := {}
  stamp : Nat := 0
  read : Bool := false
  debug : Bool := false
  deriving DecidableEq, Repr

/-- A tracked source (R433, R434); `shared` marks the range's shared entry. -/
structure SrcEntry where
  source : Nat := 0
  range : Nat := 0
  count : Nat := 0
  start : Nat := 0
  severe : Bool := false
  deriving DecidableEq, Repr

/-- A partition's error record on one half (R437). -/
structure PartRec where
  valid : Bool := false
  maxSev : Nat := 0
  count : Nat := 0
  kind : Nat := 0
  source : Nat := 0
  access : Nat := 0
  addr : Nat := 0
  deriving DecidableEq, Repr

/-- A Kiln Journal entry (Table 18-8). -/
structure JEntry where
  seq : Nat := 0
  time : Nat := 0
  origin : Nat := 0
  cls : Nat := 0
  originId : Nat := 0
  object : Nat := 0
  old : Nat := 0
  new : Nat := 0
  deriving DecidableEq, Repr

/-- Who made a journalled change: ORIGIN and ORIGIN_ID of Table 18-8. -/
structure Origin where
  code : Nat := 5
  id : Nat := 0
  deriving DecidableEq, Repr

/-- Context states (Table 05-2; numbered as in Table 05-10). -/
inductive CtxState where
  | created | active | faulted | draining | destroyed
  deriving DecidableEq, Repr

def CtxState.num : CtxState → Nat
  | .created => 0
  | .active => 1
  | .faulted => 2
  | .draining => 3
  | .destroyed => 4

/-- Key slot states (WQ_SEC_KEY_STATE). -/
inductive KeySt where
  | free | live | retiring
  deriving DecidableEq, Repr

/-- One key slot of a context (R410, R416): key material is named, never spelled. -/
structure KeySlot where
  st : KeySt := .free
  epoch : Nat := 0
  pages : Nat := 0
  key : Nat := 0
  salt : Nat := 0
  deriving DecidableEq, Repr

/-- A packet in flight: queue, first slot (free-running index), slots it takes, TAG and FLAGS. -/
structure PktRef where
  q : Nat := 0
  slot : Nat := 0
  nslots : Nat := 1
  tag : Nat := 0
  flags : Nat := 0
  deriving DecidableEq, Repr

/-- A context's destruction in progress (R109): start, bound, the step reached, and the packet that waits. -/
structure Drain where
  start : Nat := 0
  bound : Nat := 0
  step : Nat := 2
  reply : Option PktRef := none
  /-- a function-level reset: nothing more is written for the partition (R398) -/
  quiet : Bool := false
  deriving DecidableEq, Repr

/-- A context record (Table 05-1, Table 05-10, R102: both halves hold it). -/
structure Ctx where
  st : CtxState := .created
  part : Nat := 0
  confidential : Bool := false
  fabric : Bool := false
  root : Nat := 0
  drainNs : Nat := 0
  fenceVa : Nat := 0
  fenceLog2 : Nat := 0
  fenceFrame : Nat := 0
  eventVa : Nat := 0
  eventLog2 : Nat := 0
  eventVec : Nat := 0
  eventProduced : Nat := 0
  heapVa : Nat := 0
  heapSize : Nat := 0
  seed : Nat := 0
  lossCause : Nat := 0
  lossMaster : Nat := 0
  lossAccess : Nat := 0
  lossAddr : Nat := 0
  lossTime : Nat := 0
  lossCount : Nat := 0
  lostPackets : Nat := 0
  dieAllow : Nat := 0
  slot0 : KeySlot := {}
  slot1 : KeySlot := {}
  /-- the seal window (R410): base, size (0 = none), host pool, metadata array -/
  sealVa : Nat := 0
  sealSize : Nat := 0
  sealHost : Nat := 0
  sealMeta : Nat := 0
  drain : Option Drain := none
  deriving DecidableEq, Repr

/-- Queue states (Table 04-11; numbered as WQ_CMD_QUEUE_STATE). -/
inductive QState where
  | absent | running | stopped | held | draining
  deriving DecidableEq, Repr

def QState.num : QState → Nat
  | .absent => 0
  | .running => 1
  | .stopped => 2
  | .held => 3
  | .draining => 4

/-- A status reply (Table 04-3), without the time, which is stamped when it is written. -/
structure Reply where
  ref : PktRef := {}
  status : Nat := 0
  detail : Nat := 0
  half : HalfId := .A
  result : Nat := 0
  faultAddr : Nat := 0
  /-- sequence number of the MIRROR of its Completion record while the partner has not acknowledged it (R62) -/
  waitAck : Option Nat := none
  /-- half-way interrupt already sent -/
  written : Bool := false
  deriving DecidableEq, Repr

/-- A packet header as the block holds it after parsing (Table 04-1, R79): flags, LENGTH, context, partition, TAG, inline
payload and signal trailer. -/
structure Hdr where
  flags : Nat := 0
  len : Nat := 4
  ctx : Nat := 0
  part : Nat := 0
  tag : Nat := 0
  payload : List Byte := []
  trailer : Option (Nat × Nat) := none
  deriving DecidableEq, Repr

/-- A packet: opcode, header, and the fields of its body in the order of its body table; bytes past the fixed body are the
payload of the header. -/
structure Pkt where
  op : Nat := 0
  hdr : Hdr := {}
  args : List Nat := []
  /-- lowest byte outside every field, payload and trailer that is not 0 (R14, R76) -/
  gap : Option Nat := none
  deriving DecidableEq, Repr

/-- Body field i of a packet. -/
def Pkt.arg (p : Pkt) (i : Nat) : Nat := p.args.getD i 0

/-- A packet fetched and checked, waiting at its queue (R94, R96). -/
structure Fetched where
  ref : PktRef := {}
  pkt : Pkt := {}
  deriving DecidableEq, Repr

/-- A dispatched packet (R61 Dispatch record, R96). -/
structure Disp where
  ref : PktRef := {}
  pkt : Pkt := {}
  /-- half that executes it -/
  half : HalfId := .A
  /-- its DMA channel (engine × 8 + channel), if it runs on one -/
  chan : Option Nat := none
  /-- MIRROR sequence number of its Dispatch record, until acknowledged (R62) -/
  waitAck : Option Nat := none
  /-- dispatched at (block time) -/
  time : Nat := 0
  deriving DecidableEq, Repr

/-- A signal trailer still to be executed (R79): fence address and value, and whether its packet failed. -/
structure Trailer where
  ref : PktRef := {}
  fence : Nat := 0
  value : Nat := 0
  err : Bool := false
  deriving DecidableEq, Repr

/-- A queue (Table 04-7, R87), with what the home half keeps of its packets. -/
structure Queue where
  st : QState := .absent
  stopCause : Nat := 0
  part : Nat := 0
  ctx : Nat := 0
  allowPrio : Bool := false
  intOnErr : Bool := false
  home : HalfId := .A
  origHome : Option HalfId := none
  ringPort : Nat := 0
  sqBase : Nat := 0
  sqLog2 : Nat := 0
  cqLog2 : Nat := 0
  vec : Nat := 0
  cqBase : Nat := 0
  cidxAddr : Nat := 0
  pidx : Nat := 0
  cidx : Nat := 0
  fetchIdx : Nat := 0
  fetching : Option (Nat × Nat) := none
  cqCount : Nat := 0
  cqHead : Nat := 0
  idxDirty : Bool := false
  idxPosted : Nat := 0
  msixDue : Bool := false
  msixAfterIdx : Bool := false
  /-- first slots of packets that completed ahead of the consumer index (R87) -/
  doneSlots : List (Nat × Nat) := []
  fetched : List Fetched := []
  inflight : List Disp := []
  replies : List Reply := []
  trailers : List Trailer := []
  heldRing : List Reply := []
  drain : Option Drain := none
  deriving DecidableEq, Repr

/-- A QoS class record (Table 14-3). -/
structure ClassRec where
  weight : Nat := 16
  ceiling : Nat := 0
  deriving DecidableEq, Repr

/-- Partition reset states (WQ_PART_STATE). -/
inductive PartSt where
  | ready | resetting | reclaiming
  deriving DecidableEq, Repr

def PartSt.num : PartSt → Nat
  | .ready => 0
  | .resetting => 1
  | .reclaiming => 2

/-- A partition (Tables 14-1, 14-2, R389). -/
structure Part where
  allocator : Bool := false
  strict : Bool := false
  noPool : Bool := false
  userPmc : Bool := false
  maxCtx : Nat := 0
  maxQueue : Nat := 0
  memBase : Nat := 0
  memSize : Nat := 0
  host : ClassRec := { ceiling := 51200000 }
  fabric : ClassRec := { ceiling := 640000000 }
  spoke : ClassRec := { ceiling := 36400 }
  xfm : ClassRec := { ceiling := 960000 }
  irq : ClassRec := { ceiling := 400 }
  st : PartSt := .ready
  /-- a CONFIDENTIAL context has been created in it since its last reset (R408) -/
  sealed : Bool := false
  /-- frames waiting for reclaim -/
  reclaim : List Nat := []
  flrStart : Nat := 0
  /-- moderation setting per vector: (HOLDOFF, COUNT) -/
  vecMod : Tab (Nat × Nat) := []
  /-- registers of the partition page that differ from their reset value (Table 20-19) -/
  page : Tab W64 := []
  deriving DecidableEq, Repr

/-- Frame-owner entry as last programmed (Table 02-5). -/
structure Frame where
  mode : Nat := 2
  part : Nat := 0
  owner : Nat := 0
  deriving DecidableEq, Repr

/-- Kinds of memory object (R120). -/
inductive ObjKind where
  | alloc | fenceArea
  deriving DecidableEq, Repr

/-- A memory object with its reference count (R120, R121): the owner's reference, the other contexts that map it (with the
pages each maps), and the regions on it. -/
structure MemObj where
  kind : ObjKind := .alloc
  ctx : Nat := 0
  part : Nat := 0
  va : Nat := 0
  size : Nat := 0
  /-- local offsets of its 2 MiB frames, in address order, and where it starts in the first -/
  frames : List Nat := []
  off : Nat := 0
  shared : Bool := false
  owned : Bool := true
  /-- its owner's FREE is withdrawing it -/
  freeing : Bool := false
  mappers : List (Nat × Nat) := []
  regions : Nat := 0
  /-- a fence area whose owner was lost (1) or destroyed (2); 0 otherwise (R117) -/
  abandoned : Nat := 0
  deriving DecidableEq, Repr

/-- A table page the block created for a context (R157): its local offset. -/
structure TabPage where
  addr : Nat := 0
  ctx : Nat := 0
  part : Nat := 0
  deriving DecidableEq, Repr

/-- A registered fence waiter (R115, R116). -/
structure Waiter where
  ref : PktRef := {}
  ctx : Nat := 0
  /-- device offset of the fence word -/
  fence : Nat := 0
  value : Nat := 0
  limit : Nat := 0
  start : Nat := 0
  /-- it holds one of the 4,096 entries; otherwise it polls -/
  entry : Bool := true
  deriving DecidableEq, Repr

/-- The pair's membership of a Peloton domain (R327). -/
structure JoinRec where
  pkg : Nat := 0
  domain : Nat := 0
  deriving DecidableEq, Repr

/-- HELLO and HELLO_ACK (Table 03-3). -/
structure HelloFrame where
  halfId : Nat := 0
  orient : Bool := false
  freewheel : Bool := false
  lock : Bool := false
  sirev : Nat := 0
  fwrev : Nat := 0
  result : Nat := 0
  features : Nat := 0
  build : Nat := 0
  deriving DecidableEq, Repr

end Sys2Proof.Machine
end

