-- ==== Sys2Proof/Units.lean ====
section
/-! DEFINITION. The state of the units of one half that chapters 1 to 3 and 16 to 18 name: error collector, journal, islands,
Tandem link, supplies, resets, bring-up and margin planner. -/
namespace Sys2Proof.Machine

/-- Values fused into a half (R49, R56, R403, R464, R473). -/
structure Fuses where
  serial : Nat := 0
  orientValid : Bool := false
  orient : Bool := false
  features : Nat := 0x3FFF
  sirev : Nat := 0x0100
  romRev : Nat := 0x0100
  build : Nat := 0
  tandem : Bool := true
  identityValid : Bool := true
  debugFusedOff : Bool := false
  svnMin : Nat := 0
  idKeyDigest : Nat := 0
  /-- digests of the firmware authority's and the debug authority's public keys (R420, R464) -/
  fwKey : Nat := 0
  debugKey : Nat := 0
  deriving DecidableEq, Repr

/-- Strap pins as driven (Table 02-10). -/
structure Straps where
  halfId : Bool := false
  orient : Bool := false
  bootSrc : Bool := false
  bisqueHold : Bool := false
  deriving DecidableEq, Repr

/-- Input pins of a half (Tables 02-7, 02-13, R42, R51). -/
structure Pins where
  refclk : Bool := true
  logicPwrgood : Bool := true
  pkgRstN : Bool := false
  halfRstN : Bool := false
  pwrWarn : Bool := false
  pwrFail : Bool := false
  tdmPhyUp : Bool := false
  deriving DecidableEq, Repr

/-- The error collector and the islands' error queues (R26, R429 to R439). -/
structure ErrUnit where
  /-- per island: messages waiting in the 8-entry error queue, oldest first -/
  queues : Tab (List ErrMsg) := []
  /-- per island: CONTAINED or higher messages of stalled units, oldest first -/
  stalled : Tab (List ErrMsg) := []
  /-- messages that reached SVC and wait for the collector, in arrival order, with WQ_ERR_INJECT's mark -/
  arrived : List (Nat × ErrMsg × Bool) := []
  log : Tab LogEntry := []
  logNext : Nat := 0
  sources : Tab SrcEntry := []
  sharedSources : Tab SrcEntry := []
  parts : Tab PartRec := []
  /-- per partition: window start and contexts lost in it (R439) -/
  losses : Tab (Nat × Nat) := []
  /-- an error interrupt is outstanding (R436) -/
  irqSent : Bool := false
  /-- ALERT_N driven low -/
  alertLow : Bool := false
  deriving DecidableEq, Repr

/-- The Kiln Journal of a half (R474, R475): entries newest first. -/
structure JnlUnit where
  head : Nat := 0
  chip : List JEntry := []
  /-- sequence number below which every entry has been spilled -/
  spilled : Nat := 0
  /-- the spill ring in the block reserve, newest first -/
  spill : List JEntry := []
  /-- journal head last written to device memory (R446) -/
  headSaved : Nat := 0
  /-- the service record last written to the block reserve (R473) -/
  record : List Byte := []
  deriving DecidableEq, Repr

/-- Island states (R452). -/
inductive IslSt where
  | run | clockGated | retention
  deriving DecidableEq, Repr

def IslSt.num : IslSt → Nat
  | .run => 0
  | .clockGated => 1
  | .retention => 2

/-- One island (R20, R27, R28, R452, R469 to R471). -/
structure Island where
  st : IslSt := .run
  /-- plan code as WQ_XFM_QUAD_PLAN: 0 sprint, 1 nominal, 2 step 1, 3 step 2, 4 floor -/
  plan : Nat := 1
  /-- a plan move decided and not yet switched (R28) -/
  moveTo : Option Nat := none
  /-- clock switched, voltage step not yet made: the old plan -/
  volPending : Option Nat := none
  /-- staged refills (R28): (old clock, new clock) in MHz -/
  staged : Option (Nat × Nat) := none
  /-- voltage raised above the floor plan's, in 10 mV steps (R470) -/
  volSteps : Nat := 0
  margin : Nat := 0
  floorMargin : Nat := 0
  /-- the last 28 margin readings at the plan in force: (time in ns, margin in 0.1 ps), newest first -/
  readings : List (Nat × Nat) := []
  days : Nat := 0xFFFF
  /-- wear index in nanoseconds of ordinary service (R471) -/
  wear : Nat := 0
  /-- powered hours -/
  powered : Nat := 0
  /-- messages held while the destination is not running (R17, R20) -/
  held : Nat := 0
  deriving DecidableEq, Repr

/-- A transform quad's sprint and throttle state (R29, R222, R450, R451). -/
structure Quad where
  /-- a pre-notice awaits its acknowledgement: its SEQ and the time it was sent -/
  notice : Option (Nat × Nat) := none
  /-- acknowledged at -/
  acked : Option Nat := none
  /-- in sprint since -/
  sprint : Option Nat := none
  /-- finished sprints (start, end), newest first -/
  past : List (Nat × Nat) := []
  /-- no sprint before this time (TYPE 0x4 frame) -/
  barUntil : Nat := 0
  /-- hot-spot limit reached, not yet 5 °C below (R451) -/
  hot : Bool := false
  throttled : Bool := false
  /-- issue limit in sixteenths -/
  issue : Nat := 16
  /-- the issue limit is ramping back (R450) -/
  ramping : Bool := false
  /-- occupancy dwell running since (R222) -/
  dwell : Option Nat := none
  sensors : List Nat := []
  /-- sprint refused by the margin planner (R471) -/
  noSprint : Bool := false
  /-- nanoseconds of sprint in all (R471) -/
  sprintNs : Nat := 0
  deriving DecidableEq, Repr

/-- A Cone's latest reading (R469): slack and drift in 0.1 ps, self-check. -/
structure Cone where
  slack : Nat := 0
  drift : Int := 0
  failed : Bool := false
  deriving DecidableEq, Repr

/-- Supplies, load and sensors of a half (R445 to R455). -/
structure PwrUnit where
  hold : Bool := false
  holdStart : Nat := 0
  vinAtEntry : Nat := 0
  recovering : Option Nat := none
  telemetryLost : Bool := false
  vin : Nat := 0
  vinMin : Nat := 0
  iin : Nat := 0
  iinMax : Nat := 0
  /-- start of the running 1 s interval -/
  interval : Nat := 0
  runMin : Nat := 0
  runMax : Nat := 0
  txSeq : Nat := 0
  /-- PWR_FAIL acted on: half reset held until the recovery test is met (R449) -/
  failHold : Bool := false
  /-- the eight sensors outside the quads -/
  sensors : List Nat := []
  deepIdle : Option Nat := none
  /-- DMA engine groups held back after deep idle (R450) -/
  dmaGroups : Nat := 4
  /-- domains repair holds OFF -/
  domainsOff : List Nat := []
  rowsRepaired : Nat := 0
  deriving DecidableEq, Repr

/-- A reset kind waiting for release (Table 17-3). -/
inductive ResetKind where
  | cold | warm | half
  deriving DecidableEq, Repr

/-- A firmware image under load (R464 to R466). -/
structure FwImage where
  bytes : List Byte := []
  last : Bool := false
  /-- passed LAST's authentication -/
  good : Bool := false
  fwrev : Nat := 0
  svn : Nat := 0
  deriving DecidableEq, Repr

/-- Bring-up, firmware and admission state of a half (R53, R462 to R468). -/
structure BootUnit where
  inReset : Bool := true
  kind : ResetKind := .cold
  /-- time of the last release -/
  released : Nat := 0
  readyLow : Bool := false
  /-- WQ_BOOT_STATUS.STAGE -/
  stage : Nat := 0
  fwErr : Nat := 0
  memTrained : Bool := false
  /-- memory stacks trained, bit s for logical stack s -/
  trainedStacks : Nat := 0
  fromReserve : Bool := false
  service : Bool := false
  activeCopy : Option FwImage := none
  pendingCopy : Option FwImage := none
  running : Option FwImage := none
  /-- service record being staged -/
  recordIn : List Byte := []
  /-- the image is being taken over MCTP -/
  mctpImage : Bool := false
  mctpIn : Option FwImage := none
  measured : Nat := 0
  /-- sprint refused until the first periodic re-plan (R473) -/
  sprintRefused : Bool := false
  lastReplan : Nat := 0
  replanRunning : Bool := false
  refclkLost : Bool := false
  /-- half reset due after a fatal message, with the WQ_PWR_RESET_CAUSE bit it will set (R440, R441, R75) -/
  fatalDue : Option Nat := none
  /-- WQ_PWR_RESET_CAUSE bits to set at release (R456) -/
  causes : List Nat := []
  deriving DecidableEq, Repr

/-- Pairing states (WQ_TDM_STATUS.STATE). -/
inductive TdmState where
  | solo | pairing | paired | freewheel | standby | offline | fenced | unpaired
  deriving DecidableEq, Repr

def TdmState.num : TdmState → Nat
  | .solo => 0
  | .pairing => 1
  | .paired => 2
  | .freewheel => 3
  | .standby => 4
  | .offline => 5
  | .fenced => 6
  | .unpaired => 7

/-- Loss classes (R64). -/
inductive LossClass where
  | linkFault | blockDown | dieDown
  deriving DecidableEq, Repr

/-- The Tandem link of a half (R55 to R73). -/
structure TdmUnit where
  st : TdmState := .pairing
  refuseCause : Nat := 0
  partnerDieDown : Bool := false
  actingPrimary : Bool := false
  minorMismatch : Bool := false
  partner : Option HelloFrame := none
  common : Nat := 0
  /-- HELLO or HELLO_ACK received since release -/
  helloSeen : Bool := false
  /-- 1 s pairing window after WQ_PAIR_RESET (R75) -/
  longWindow : Bool := false
  /-- a Freewheel HELLO disregarded within that window -/
  keptHello : Option HelloFrame := none
  /-- HEARTBEAT and liveness word stopped (R440) -/
  stopped : Bool := false
  /-- partner declared silent: when, and the probes started -/
  silentAt : Option Nat := none
  lossClass : Option LossClass := none
  /-- the partner announced its departure (R72) -/
  partnerOffline : Bool := false
  partnerTime : Option Nat := none
  mirSeq : Nat := 0
  mirUnacked : List Nat := []
  /-- LOCK copy (R498) -/
  lock : Bool := false
  /-- slewing target: the offset still to be slewed away, in ns (R379) -/
  slew : Int := 0
  /-- INVAL frames awaiting the partner's INVAL_ACK: sequence numbers (R185) -/
  invalOut : List Nat := []
  invalSeq : Nat := 0
  xreqTag : Nat := 0
  xreqOut : List Nat := []
  /-- packets aborted under R65 -/
  aborted : Nat := 0
  dropped : Nat := 0
  /-- a HALF_OFFLINE in progress: target and waiting packet, with its start -/
  offlineCmd : Option (HalfId × PktRef × Nat) := none
  onlineCmd : Option PktRef := none
  deriving DecidableEq, Repr

/-- A bucket with its lease (R23, R394): levels in 1/256 units. -/
structure Bucket where
  level : Nat := 0
  fromPool : Bool := false
  waiting : Bool := false
  /-- units left of the lease held by the metering island -/
  lease : Nat := 0
  deriving DecidableEq, Repr

/-- The QoS manager's meter points on one half (R391 to R394); keys are point × 64 + partition and class × 16 + point. -/
structure QosUnit where
  buckets : Tab Bucket := []
  refills : Tab Nat := []
  pools : Tab Nat := []
  /-- round-robin position of the pool, per meter point -/
  turn : Tab Nat := []
  deriving DecidableEq, Repr

/-- An MSI-X table entry (R366). -/
structure MsixEntry where
  addr : Nat := 0
  data : Nat := 0
  masked : Bool := true
  deriving DecidableEq, Repr

/-- A message open or pending for one vector (R389). -/
structure VecMsg where
  causes : Nat := 0
  opened : Nat := 0
  /-- COUNT or HOLDOFF reached: the message may be sent -/
  ripe : Bool := false
  deriving DecidableEq, Repr

/-- The configuration of one function that the block's behaviour reads (R360, R364, R504): the fields no command writes start
as the host's enumeration leaves them. -/
structure Fn where
  bme : Bool := false
  pri : Bool := false
  /-- Outstanding Page Request Allocation -/
  priAlloc : Nat := 256
  ats : Bool := true
  relaxed : Bool := true
  vfEnable : Bool := true
  d3hot : Bool := false
  pmeEn : Bool := true
  /-- log2 of the Memory Window's size -/
  mwLog2 : Nat := 41
  aspmL1 : Bool := true
  deriving DecidableEq, Repr

/-- One logical host port of a half (R34, R211, R364, R381). -/
structure HostPort where
  up : Bool := false
  retrain : Bool := false
  /-- HL_LP_STATE: 0 L0, 1 L0p, 2 L1 -/
  lpState : Nat := 0
  /-- HL_LP_REQ driven, not yet in force -/
  lpReq : Option Nat := none
  /-- since when the link is in its low-power state -/
  lpSince : Nat := 0
  contained : Bool := false
  dropped : Nat := 0
  lostCtx : Nat := 0
  /-- bytes waiting to be sent -/
  txQueue : Nat := 0
  deriving DecidableEq, Repr

/-- Time synchronisation of a half (R379, R380). -/
structure PtmUnit where
  exchanges : Nat := 0
  synced : Bool := false
  backward : Bool := false
  offset : Int := 0
  missed : Nat := 0
  outstanding : Bool := false
  /-- measured rate error over the last two exchanges, in parts per 10^9 -/
  rate : Int := 0
  /-- last exchange: (block time, master time) -/
  last : Option (Nat × Nat) := none
  deriving DecidableEq, Repr

/-- Security state of a half (R403 to R421). -/
structure SecUnit where
  /-- 0 locked, 1 DIAG, 2 FULL -/
  debugLevel : Nat := 0
  tainted : Bool := false
  everUnlocked : Bool := false
  /-- the alias key is derived for the running firmware (R403) -/
  alias_ : Bool := false
  sessions : Tab Session := []
  /-- an issued debug nonce and when (R420) -/
  nonce : Option (Nat × Nat) := none
  /-- the last sweep (WQ_SEC_SWEEP): context, running, pages moved -/
  sweepCtx : Nat := 0
  sweeping : Bool := false
  swept : Nat := 0
  /-- the slot being swept and the packet that waits (R417) -/
  sweepSlot : Nat := 0
  sweepRef : Option PktRef := none
  /-- words written by DIAG: array × 2^40 + index (R422) -/
  diag : Tab Nat := []
  deriving DecidableEq, Repr

/-- The error records that a write of 1 to VALID clears (R432, R437, R440). -/
inductive ErrRec where
  | first | fatal | part (p : Nat)
  deriving DecidableEq, Repr

end Sys2Proof.Machine
end

