-- ==== Sys2Proof/Engines.lean ====
section
/-! DEFINITION. The state of the translation unit and the DMA island of one half (chapters 6 to 8). -/
namespace Sys2Proof.Machine

/-- A translation: a span of up to 16 pages under one context (R137, Table 06-5). `frame` is the byte address of page 0 in the
form TARGET gives: 0 device, 1 host, 2 fabric. -/
structure Span where
  ctx : Nat := 0
  va : Nat := 0
  size : Nat := 0
  pages : Nat := 1
  target : Nat := 0
  frame : Nat := 0
  rd : Bool := false
  wr : Bool := false
  coherent : Bool := false
  sealed : Bool := false
  slot : Nat := 0
  pinned : Bool := false
  /-- DIRTY_KNOWN (R139) -/
  dirty : Bool := false
  deriving DecidableEq, Repr

/-- A cached non-leaf entry: the table below `level` for the addresses from `va` on (Table 06-4). -/
structure WEnt where
  ctx : Nat := 0
  va : Nat := 0
  level : Nat := 0
  host : Bool := false
  table : Nat := 0
  deriving DecidableEq, Repr

/-- Who waits for a walk: a holder entry, or a die port's XT_REQ by port, tag and access. -/
inductive WalkFor where
  | holder (n : Nat)
  | port (p tid acc : Nat)
  deriving DecidableEq, Repr

/-- A miss in the walk queue (R144): class 1 re-translation, 2 die-port service, 3 submission and roll-forward. -/
structure Miss where
  ctx : Nat := 0
  va : Nat := 0
  write : Bool := false
  cls : Nat := 3
  part : Nat := 0
  who : WalkFor := .holder 0
  deriving DecidableEq, Repr

/-- A Spoke's walk in progress (R139, R144, R181). -/
structure Walk where
  miss : Miss := {}
  level : Nat := 5
  host : Bool := false
  table : Nat := 0
  /-- the leaf group as read, once a leaf passed its checks -/
  group : List Nat := []
  span : Option Span := none
  /-- table indices whose ACCESSED or DIRTY swap is still to be made -/
  cas : List Nat := []
  stale : Bool := false
  attached : List Miss := []
  deriving DecidableEq, Repr

/-- A holder entry (Table 06-5). STATE 0 TRANSLATING, 1 HELD, 2 RECALLED. -/
structure Holder where
  /-- DMA channel number (engine × 8 + channel), or 256 + transform engine -/
  eng : Nat := 0
  q : Nat := 0
  slot : Nat := 0
  /-- operand: 0 source, 1 destination, 2 index list or tile table, 3 other -/
  opnd : Nat := 0
  write : Bool := false
  span : Span := {}
  st : Nat := 0
  stale : Bool := false
  /-- its walk ended NOT_PRESENT, or its ATS grant was insufficient -/
  absent : Bool := false
  /-- its walk ended PROTECTION with this DETAIL -/
  denied : Option Nat := none
  /-- page index to translated address (R151) -/
  ats : Tab Nat := []
  /-- an ATS request for it is outstanding on this pair port, from this page on -/
  atsOut : Option (Nat × Nat) := none
  deriving DecidableEq, Repr

/-- An outstanding Page Request (R169): function key, PRG index, channel and page; `retired` when its fault has ended. -/
structure PriReq where
  port : Nat := 0
  vf : Nat := 0
  prg : Nat := 0
  chan : Nat := 0
  va : Nat := 0
  retired : Bool := false
  deriving DecidableEq, Repr

/-- What an invalidation completes (R180, R186, R188, R189). -/
inductive InvFor where
  | packet (ref : PktRef)
  | unmap (ref : PktRef) (part : Nat)
  | unpin (ref : PktRef)
  /-- FREE of the object at a local offset -/
  | free (ref : PktRef) (off : Nat)
  | register
  | ats (port tag : Nat)
  | partner (seq : Nat) (chiplets : Bool)
  | drain (ctx : Nat)
  | window (w : Nat)
  | none
  deriving DecidableEq, Repr

/-- An invalidation in progress and the acknowledgements it still needs (Table 07-8). -/
structure InvJob where
  id : Nat := 0
  ctx : Nat := 0
  allCtx : Bool := false
  lo : Nat := 0
  hi : Nat := 0
  holders : List Nat := []
  /-- XT_INV outstanding: (die port, ITAG) -/
  ports : List (Nat × Nat) := []
  /-- XT_INV that wait for one of the port's 16 (R184) -/
  queued : List Nat := []
  /-- SEQ of the INVAL sent, and the phases not yet acknowledged -/
  seq : Nat := 0
  phase0 : Bool := false
  phase1 : Bool := false
  /-- its INVAL waits for one of the 32 outstanding (R185) -/
  unsent : Bool := false
  fenced : Option Nat := none
  /-- PHASE 0 acknowledged to the partner -/
  acked0 : Bool := false
  /-- ATS results only (R189) -/
  ats : Bool := false
  /-- pages UNMAP cleared, by local offset (R180) -/
  drops : List (Nat × Nat) := []
  what : InvFor := .none
  deriving DecidableEq, Repr

/-- Translation unit of a half (chapters 6 and 7). -/
structure XltUnit where
  iotlb : List Span := []
  wcache : List WEnt := []
  queue : List Miss := []
  walks : Tab Walk := []
  spokes : Nat := 0xFFFFFFFF
  /-- spares not yet used, and the logical Spoke each spare in service stands in for (R143) -/
  spares : Nat := 3
  spareFor : Tab Nat := []
  holders : Tab Holder := []
  holderMax : Nat := 0
  pri : List PriReq := []
  /-- functions (port × 64 + VF) under Response Failure until PRI Enable is cleared and set (R170) -/
  priFailed : List Nat := []
  invs : List InvJob := []
  invNext : Nat := 0
  itag : Nat := 0
  /-- weighted round robin of the walk queue (R144): partition served last, and walks it may still start in its turn -/
  turn : Nat := 0
  left : Nat := 0
  deriving DecidableEq, Repr

/-- Where an access lands. -/
inductive Place where
  | dev (off : Nat)
  | host (addr : Nat) (translated : Bool) (pasid : Nat)
  | fab (addr : Nat)
  deriving DecidableEq, Repr

/-- A burst whose read is outstanding (R193, R202): where it reads, where the data goes, and the operand addresses. -/
structure Burst where
  src : Place := .dev 0
  srcVa : Nat := 0
  dst : Option Place := none
  dstVa : Nat := 0
  n : Nat := 0
  pos : Nat := 0
  /-- fabric request tag, for a fabric source -/
  tag : Option Nat := none
  deriving DecidableEq, Repr

/-- A fault a channel waits on (R168 to R173). -/
structure ChanFault where
  va : Nat := 0
  opnd : Nat := 0
  write : Bool := false
  start : Nat := 0
  /-- served by the allocator rather than by a Page Request -/
  heap : Bool := false
  prg : Option Nat := none
  deriving DecidableEq, Repr

/-- What an engine packet has done so far, beside its channel's position. -/
structure EngWork where
  /-- engine × 4 + slot -/
  eng : Option Nat := none
  /-- what comes before the first group is done: loads, and ranges held whole -/
  begun : Bool := false
  prog : Option Relay := none
  tabs : List PwlTable := []
  stats : Stats := {}
  /-- ROUTE: map entries (BASE, CAPACITY, FENCE) and rows written per entry -/
  map : List (Nat × Nat × Nat) := []
  counts : List Nat := []
  /-- ROUTE: DETAIL bits of R253 -/
  flags : Nat := 0
  /-- ROUTE: entries whose fence is still to be signalled, once every write is acknowledged -/
  fences : List Nat := []
  fencesDue : Bool := false
  /-- DRAFT_SEND: SENT at its start, slots written, slots committed -/
  base : Nat := 0
  written : Nat := 0
  committed : Nat := 0
  /-- waiting for credit since -/
  credit : Option Nat := none
  /-- why a send stops: reason 2, 3 or 4; 0 none -/
  stop : Nat := 0
  /-- output bytes of RAW or converted data already produced but not yet written -/
  arrived : List (Nat × List Byte) := []
  deriving DecidableEq, Repr

/-- A DMA channel (Table 08-2; states as WQ_DMA_CHAN_STATE: 0 IDLE, 1 READY, 2 ACTIVE, 3 LEASE_WAIT, 4 FAULT_WAIT, 5 REWALK,
6 ACK_WAIT, 7 ABORTED). -/
structure Chan where
  st : Nat := 0
  disp : Disp := {}
  /-- bytes issued, in piece order -/
  pos : Nat := 0
  pieceEnd : Nat := 0
  /-- bytes of the completed pieces -/
  done : Nat := 0
  reads : List Burst := []
  /-- device, coherent and fabric writes not yet acknowledged -/
  acks : Nat := 0
  /-- pair ports that carried its writes and are not yet flushed, with the last address written -/
  flush : Tab Nat := []
  /-- a BARRIER's flush reads have been issued -/
  flushed : Bool := false
  poison : Option Nat := none
  fault : Option ChanFault := none
  /-- services per page (R172) -/
  retries : Tab Nat := []
  halfSent : Bool := false
  /-- how the packet ends, once decided: status, DETAIL, RESULT, FAULT_ADDR -/
  ends : Option (Nat × Nat × Nat × Nat) := none
  /-- inline or record bytes the channel writes -/
  data : List Byte := []
  /-- fabric bytes that arrived for it: fabric address, bytes, poison -/
  fabBuf : List (Nat × List Byte × Bool) := []
  work : EngWork := {}
  deriving DecidableEq, Repr

/-- Writes of a completed packet that carried no BARRIER and are not yet acknowledged (R203). -/
structure Owed where
  q : Nat := 0
  slot : Nat := 0
  acks : Nat := 0
  flush : Tab Nat := []
  deriving DecidableEq, Repr

/-- Whose flush read it is (R203 to R205). -/
inductive FlushFor where
  | idle
  | chan (c : Nat)
  | half (c : Nat)
  | order (q slot : Nat)
  deriving DecidableEq, Repr

/-- An outstanding flush read: pair port, address and the contexts marked when it was issued (R205). -/
structure FlushRd where
  port : Nat := 0
  addr : Nat := 0
  marks : List Nat := []
  what : FlushFor := .idle
  deriving DecidableEq, Repr

/-- DMA island of a half (chapter 8). -/
structure DmaUnit where
  chans : Tab Chan := []
  /-- active channel of each engine -/
  active : Tab Nat := []
  map : Nat := 0xFFFF
  lastEngine : Nat := 15
  /-- unflushed marks (R205): pair port × 2^20 + context -/
  marks : List Nat := []
  /-- last write of each pair port: time, address and whether a flush read has followed it -/
  last : Tab (Nat × Nat × Bool) := []
  owed : List Owed := []
  flushes : List FlushRd := []
  /-- ordered operations whose flush was refused (R204): (queue, slot) -/
  orderErr : List (Nat × Nat) := []
  /-- checker messages not yet acknowledged (R38) and those waiting for one of the 16 -/
  unacked : Nat := 0
  checkQ : List Nat := []
  /-- a checker acknowledgement was missed: no further messages (R39) -/
  checkDead : Bool := false
  deriving DecidableEq, Repr

/-- A loss event on its way to CMD (Table 05-3): context, cause, master ID, access type, address, and the packet that caused it. -/
structure LossEv where
  ctx : Nat := 0
  cause : Nat := 0
  master : Nat := 0
  access : Nat := 0
  addr : Nat := 0
  half : HalfId := .A
  ref : Option (Nat × Nat) := none
  deriving DecidableEq, Repr

/-- A range of the pin table (R158). -/
structure PinRange where
  ctx : Nat := 0
  lo : Nat := 0
  hi : Nat := 0
  deriving DecidableEq, Repr

/-- A registered region (R374, Table 13-4): view offset and size of its range, and the peer it admits. -/
structure Region where
  ctx : Nat := 0
  rd : Bool := false
  wr : Bool := false
  sealed : Bool := false
  pasid : Option Nat := none
  rid : Nat := 0
  off : Nat := 0
  size : Nat := 0
  deriving DecidableEq, Repr

/-- A coherent window (R290, Table 11-18): BASE, SIZE in bytes. -/
structure Window where
  kind : Nat := 0
  half : Nat := 0
  port : Nat := 0
  hostShare : Bool := false
  part : Nat := 0
  owner : Nat := 0
  base : Nat := 0
  size : Nat := 0
  enabled : Bool := false
  busy : Bool := false
  disabling : Bool := false
  done : Bool := false
  err : Bool := false
  /-- its lines are recalled and the withdrawal of R291 has begun -/
  recalled : Bool := false
  errCause : Nat := 0
  deriving DecidableEq, Repr

/-- A logical die port (R468, WQ_COH_ADMIT_STATE) with what its chiplet's descriptor said. -/
structure DiePort where
  /-- 0 NONE until a link comes up; the codes are WQ_COH_ADMIT_STATE's -/
  st : Nat := 0
  cause : Nat := 0
  vendor : Nat := 0
  /-- its UCIe link is up -/
  link : Bool := false
  /-- what the link's UCIe capability reports: bit 0 retimer, 1 advanced package, 2 x64, 3 lane repair exhausted; from bit 8 the rate in GT/s -/
  cap : Nat := 0
  /-- the chiplet's descriptor (Table 18-5) -/
  desc : List Byte := []
  /-- an admission by CHIPLET_ADMIT that waits for the link -/
  admitFor : Option PktRef := none
  deriving DecidableEq, Repr

end Sys2Proof.Machine
end

