-- ==== Sys2Proof/Streams.lean ====
section
/-! DEFINITION. The state of the transform engines, Draft streams, Ware board and prefetchers (chapters 9 and 10) and of the Peloton
fabric interface (chapter 12). -/
namespace Sys2Proof.Machine

/-- A resident relay program (unit = engine) or table (unit = quad), most recently used first (R241, R244). -/
structure Resident where
  unit : Nat := 0
  ctx : Nat := 0
  va : Nat := 0
  gen : Nat := 0
  data : List Byte := []
  deriving DecidableEq, Repr

/-- An engine slot (R219): the packet it holds and its channel. -/
structure XSlot where
  q : Nat := 0
  slot : Nat := 0
  chan : Nat := 0
  part : Nat := 0
  prio : Bool := false
  /-- operands of its next group are present -/
  ready : Bool := false
  /-- program or table loads still outstanding -/
  loading : Bool := false
  deriving DecidableEq, Repr

/-- Transform engines of a half. -/
structure XfmUnit where
  map : Nat := 0xFFFF
  /-- engine × 4 + slot -/
  slots : Tab XSlot := []
  progs : List Resident := []
  tables : List Resident := []
  /-- slot issued last, per engine -/
  turn : Tab Nat := []
  deriving DecidableEq, Repr

/-- An entry of the open-stream table with the block's copy of its record (R264, Table 10-3). STATE 1 OPEN, 2 BROKEN. -/
structure Stream where
  ctx : Nat := 0
  record : Nat := 0
  /-- local offset of the record -/
  off : Nat := 0
  ring : Nat := 0
  nslot : Nat := 0
  slotLog2 : Nat := 0
  arrival : Nat := 0
  credit : Nat := 0
  /-- fabric address of the arrival fence and local offset of the credit fence -/
  arrivalAt : Nat := 0
  creditAt : Nat := 0
  st : Nat := 1
  sent : Nat := 0
  flight : Option HalfId := none
  deriving DecidableEq, Repr

/-- A Ware board line (R278). -/
structure WLine where
  addr : Nat := 0
  ctx : Nat := 0
  gen : Nat := 0
  stable : Bool := false
  prefetched : Bool := false
  data : List Byte := []
  deriving DecidableEq, Repr

/-- A fill outstanding (R279, R286): its fabric address and length, and the channels that wait for it. -/
structure WFill where
  addr : Nat := 0
  len : Nat := 256
  ctx : Nat := 0
  gen : Nat := 0
  stable : Bool := false
  prefetch : Option Nat := none
  install : Bool := true
  chans : List Nat := []
  deriving DecidableEq, Repr

/-- A stream prefetcher (R282, R283). -/
structure Prefetch where
  ctx : Nat := 0
  part : Nat := 0
  lo : Nat := 0
  hi : Nat := 0
  depth : Nat := 0
  stable : Bool := false
  /-- first byte not yet filled, and one past the highest byte read -/
  next : Nat := 0
  read : Nat := 0
  last : Nat := 0
  deriving DecidableEq, Repr

/-- Ware board of a half. -/
structure WareUnit where
  /-- lines, most recent first -/
  lines : List WLine := []
  fills : List WFill := []
  /-- GEN and EPOCH of each context (16 bits each) -/
  gens : Tab (Nat × Nat) := []
  /-- advances of each context's generations since the last scrub pass (R281) -/
  adv : Tab Nat := []
  pf : Tab Prefetch := []
  banks : Nat := 0x3F
  deriving DecidableEq, Repr

/-- What a fabric request of this package is for. -/
inductive FabFor where
  | fill
  | write (q slot n : Nat)
  | fence (ref : PktRef)
  | trailer (ref : PktRef)
  | open_ (ref : PktRef) (record : Nat)
  | commit (chan n : Nat)
  | close (ref : PktRef) (record : Nat)
  | loss
  | route (chan entry : Nat)
  | resyncRead (record : Nat)
  | chip (port : Nat)
  | ping
  deriving DecidableEq, Repr

/-- A fabric request outstanding at its source (R343 to R346). -/
structure FabReq where
  op : Nat := 0
  addr : Nat := 0
  len : Nat := 0
  ctx : Nat := 0
  part : Nat := 0
  data : List Byte := []
  value : Nat := 0
  err : Bool := false
  dst : Nat := 0
  port : Nat := 0
  start : Nat := 0
  tries : Nat := 0
  /-- a channel's write: the completed prefix of its packet as it was issued, and the address it goes to in the packet's form -/
  pre : Nat := 0
  va : Nat := 0
  what : FabFor := .fill
  deriving DecidableEq, Repr

/-- A Peloton packet (Table 12-4): TYPE, HOP, POISON, SRC_HALF, CODE, LEN, TAG, DST_PKG, SRC_PKG, SRC_CTX, ADDR and payload. -/
structure FabPkt where
  ty : Nat := 0
  hop : Nat := 0
  poison : Bool := false
  srcHalf : Nat := 0
  code : Nat := 0
  len : Nat := 0
  tag : Nat := 0
  dst : Nat := 0
  src : Nat := 0
  ctx : Nat := 0
  addr : Nat := 0
  payload : List Byte := []
  deriving DecidableEq, Repr

/-- What came of a fabric request. -/
inductive FabRes where
  | data (bs : List Byte) (poison : Bool)
  | ack
  | atomic (old code : Nat) (poison : Bool)
  | pong
  | nack (reason : Nat)
  | unreachable
  deriving DecidableEq, Repr

/-- One lane of an optical port: its last 16 health records (RXBITS, ERRBITS, RXPWR, BIAS), newest first, when the last came, its
state (0 GOOD, 1 DEGRADED, 2 FAILED) and its daily means of BIAS, newest first (R347, R350). -/
structure Lane where
  recs : List (Nat × Nat × Nat × Nat) := []
  seen : Nat := 0
  st : Nat := 0
  means : List Nat := []
  days : Nat := 0xFFFF
  moveSoon : Bool := false
  deriving DecidableEq, Repr

/-- An optical port (Table 12-16, R347 to R351). -/
structure FabPort where
  /-- 0 DOWN, 1 TRAINING, 2 UP, 3 NARROW, 4 HELD -/
  st : Nat := 0
  neighbour : Nat := 0
  replays : Nat := 0
  lanes : Tab Lane := []
  /-- lanes that carry data -/
  mask : Nat := 0xFFFF
  /-- substitutions in force: (data lane, spare) -/
  subst : List (Nat × Nat) := []
  /-- a swap in progress: lane, spare, whether acknowledged, and the kind it will report -/
  swap : Option (Nat × Nat × Bool × Nat) := none
  /-- flits failed replay in a row -/
  fails : Nat := 0
  /-- link credits the neighbour has returned, by class × 8 + virtual channel (R333) -/
  credits : Tab Nat := []
  deriving DecidableEq, Repr

/-- A route table entry (Table 12-2). -/
structure Route where
  primary : Nat := 0
  alternate : Nat := 0
  hops : Nat := 0xFF
  altHops : Nat := 0xFF
  deriving DecidableEq, Repr

/-- A FABRIC_JOIN or UPDATE in progress (R330, R331). -/
structure JoinCmd where
  ref : PktRef := {}
  pkg : Nat := 0
  domain : Nat := 0
  limit : Nat := 0
  start : Nat := 0
  update : Bool := false
  newRoutes : Tab Route := []
  deriving DecidableEq, Repr

/-- Peloton interface of a half (chapter 12). -/
structure FabUnit where
  ports : Tab FabPort := []
  reqs : Tab FabReq := []
  /-- retired tags: (tag, until) -/
  retired : List (Nat × Nat) := []
  /-- results that need no link: served locally (R337) or failed at issue -/
  instant : List (Nat × FabRes) := []
  /-- destinations in path drain, and the requests that wait for each (R336) -/
  drains : List Nat := []
  waiting : List FabReq := []
  /-- destinations switched to ALTERNATE (R352) -/
  switched : List Nat := []
  /-- timeouts in a row per destination -/
  misses : Tab Nat := []
  discarded : Nat := 0
  deriving DecidableEq, Repr

end Sys2Proof.Machine
end

