-- ==== Sys2Proof/Coherence.lean ====
section
/-! DEFINITION. The state of coherent windows' home agent of one half (chapter 11). A line is named by CADDR bits [46:6] (R289). -/
namespace Sys2Proof.Machine

/-- A REQ of a chiplet (Table 11-4): WAY, RTRY, tag, RCID where RCID_VALID is set, context and line. -/
structure CohReq where
  way : Nat := 0
  rtry : Nat := 0
  tid : Nat := 0
  rcid : Option Nat := none
  ctx : Nat := 0
  line : Nat := 0
  deriving DecidableEq, Repr

/-- Who asked for a home transaction (R303). -/
inductive CohWho where
  | chip (port : Nat) (r : CohReq)
  /-- an I/O request by tag; a channel's read of n bytes at a local offset, or its write -/
  | io (tag : Nat)
  | chanRead (h : HalfId) (c off n : Nat)
  | chanWrite (h : HalfId) (q slot : Nat)
  /-- a host request on a logical port: 0 read S, 1 read A, 2 read without caching -/
  | host (port kind : Nat)
  | recall (w : Nat)
  /-- an inbound Peloton request whose lines are being recalled -/
  | fab (id : Nat)
  | nobody
  deriving DecidableEq, Repr

/-- A transaction of the tracker. `op` is the REQ's TYPE; 0x80 I/O read, 0x81 I/O write, 0x90 host request, 0xA0 disable recall. -/
structure CohTxn where
  id : Nat := 0
  op : Nat := 0
  line : Nat := 0
  who : CohWho := .nobody
  aged : Bool := false
  /-- it took one of the 128 held-back entries -/
  reserved : Bool := false
  /-- open, rather than queued for its line -/
  opened : Bool := false
  /-- no other port and no host held the line when it opened (Table 11-7) -/
  alone : Bool := false
  /-- snoops out: port, TYPE and the time sent -/
  snoops : List (Nat × Nat × Nat) := []
  /-- ports whose eviction is awaited (R306) -/
  evict : List Nat := []
  /-- logical host ports that owe a BIRsp -/
  bis : List Nat := []
  data : Option (List Byte) := none
  dirty : Bool := false
  poison : Bool := false
  wdata : List Byte := []
  mask : Nat := 0
  /-- DAT_WR is awaited -/
  needData : Bool := false
  /-- a proxy request waits for the host's GO, or for a lease -/
  go : Bool := false
  lease : Bool := false
  /-- a host request waits for a directory way, or is parked for one; an I/O request waits for a disable -/
  way : Option Nat := none
  /-- granted; its memory write is not yet accepted -/
  closing : Bool := false
  deriving DecidableEq, Repr

/-- A reservation of the retry list (Table 11-9). -/
structure Resv where
  port : Nat := 0
  tid : Nat := 0
  rtry : Nat := 0
  rcid : Option Nat := none
  deriving DecidableEq, Repr

/-- A host residency directory entry: line, state (1 S, 2 A) and the logical host ports that hold it (R314). -/
structure HrdEnt where
  line : Nat := 0
  st : Nat := 1
  ports : List Nat := []
  deriving DecidableEq, Repr

/-- A Peloton request to window lines (R313): the packet, the local context, the request tag where it is this package's own, and the
transactions still out. -/
structure FabIn where
  id : Nat := 0
  pkt : FabPkt := {}
  ctx : Nat := 0
  tag : Option Nat := none
  started : Bool := false
  need : List Nat := []
  deriving DecidableEq, Repr

/-- A coherence message that waits for a credit of its class. -/
structure CohOut where
  ty : Nat := 0
  info : Nat := 0
  tid : Nat := 0
  line : Nat := 0
  bs : List Byte := []
  deriving DecidableEq, Repr

/-- COH of a half. -/
structure CohUnit where
  /-- duplicate tags: port × 8,192 + set × 16 + way to (line, state: 1 S, 2 F, 3 E, 4 M); an unlisted tag is I -/
  tags : Tab (Nat × Nat) := []
  txns : List CohTxn := []
  next : Nat := 0
  resv : List Resv := []
  hrd : Tab HrdEnt := []
  hrdMax : Nat := 0
  /-- SNP, RSP and DAT credits each chiplet has granted, and messages that wait for one -/
  cred : Tab (Nat × Nat × Nat) := []
  outq : Tab (List CohOut) := []
  fabIn : List FabIn := []
  /-- lines of HOST windows the proxy holds toward the host: 1 shared, 2 owned -/
  proxy : Tab Nat := []
  deriving DecidableEq, Repr

end Sys2Proof.Machine
end

