-- ==== Sys2Proof/Output.lean ====
section
/-! DEFINITION. What the block sends on its ports, as plain data: State keeps the trace of it. -/
namespace Sys2Proof.Machine

/-- Mirror records (Table 03-5). -/
inductive MirrorRec where
  | queue (q : Nat) (r : Queue)
  | dispatch (q : Nat) (d : Disp)
  | completion (q : Nat) (r : Reply)
  | context (id : Nat) (c : Ctx)
  | partition (p : Nat) (r : Part)
  | allocator (o : MemObj)
  deriving DecidableEq, Repr

/-- Requests that cross the Tandem link as XREQ (R55). -/
inductive XReq where
  /-- a Control Window access through a function of partition 0 on a pair port; a write reaches the bits of its mask -/
  | regRead (port off : Nat)
  | regWrite (port off : Nat) (value mask : Nat)
  | fatalNotice (msg : ErrMsg) (pairReset : Bool)
  | fenceSignal (fence value ctx : Nat) (err : Bool)
  | fenceWait (w : Waiter)
  /-- the allocation count of a partition -/
  | allocCount (part : Nat)
  | errVector (vec : Nat)
  deriving DecidableEq, Repr

/-- Frames a half sends on the Tandem link (Table 03-2). -/
inductive TdmFrame where
  | hello (f : HelloFrame)
  | helloAck (f : HelloFrame)
  | heartbeat (time state : Nat)
  | mirror (seq : Nat) (r : MirrorRec)
  | mirrorAck (seq : Nat)
  | inval (seq flags ctx va pages : Nat)
  | invalAck (seq phase result port : Nat)
  | doorbellFwd (q pidx : Nat)
  | xreq (tag : Nat) (r : XReq)
  | xrsp (tag : Nat) (data : Nat)
  | offline
  | online
  deriving DecidableEq, Repr

/-- What the block sends; each names the half or pair port it leaves by. -/
inductive Output where
  | tandem (h : HalfId) (f : TdmFrame)
  | msix (port fn vec addr data : Nat)
  | aer (port status : Nat)
  | alert (h : HalfId) (low : Bool)
  | ibi (h : HalfId) (byte : Nat)
  | ready (h : HalfId) (low : Bool)
  | supervisor (h : HalfId) (ty seq value crc : Nat)
  | checker (h : HalfId) (msg : Nat)
  /-- a Peloton packet on a pair port -/
  | fabric (port : Nat) (p : FabPkt)
  | checkerRange (h : HalfId) (mode part lo n : Nat)
  | atsRequest (port ctx addr pages : Nat) (write : Bool)
  /-- the answer to a client chiplet's access: data and poison -/
  | chipData (h : HalfId) (port : Nat) (bs : List Byte) (poison : Bool)
  /-- XT_RSP and XT_INV (Tables 06-7, 07-6) -/
  | xtRsp (h : HalfId) (port tid status size pages attr addr : Nat)
  | xtInv (h : HalfId) (port itag ctx base log2 : Nat) (whole : Bool)
  | pageRequest (port vf prg ctx addr : Nat) (write : Bool)
  | invalidateDone (port tag : Nat)
  /-- a coherence message to a chiplet (Table 11-4) -/
  | coh (h : HalfId) (port ty info tid line : Nat) (bs : List Byte)
  /-- back-invalidates, answers to the host's CXL.mem requests, proxy requests and answers to host snoops (chapter 11) -/
  | biSnp (port line : Nat) (inv : Bool)
  | memRsp (port line st : Nat) (bs : List Byte) (poison : Bool)
  | d2h (port op addr mask : Nat) (bs : List Byte)
  | d2hRsp (port code : Nat) (bs : List Byte) (poison : Bool)
  /-- the data, or the acknowledgement, of an I/O request -/
  | ioDone (h : HalfId) (tag : Nat) (bs : List Byte) (poison : Bool)
  | linkReq (port st : Nat)
  | readData (v : Nat)
  | hostRead (port addr len : Nat)
  | tap (h : HalfId) (instr : Nat) (present : Bool)
  | laneMap (h : HalfId) (port : Nat) (enable : Nat) (subst : List Nat)
  | pme (port vf : Nat)
  /-- the completion of a register or Memory Window request: 0 successful, 1 Unsupported Request, 4 Completer Abort -/
  | completion (port status : Nat) (bs : List Byte) (poison : Bool)
  | ptmRequest (port : Nat)
  /-- an SPDM response: its request's code, and the bytes of its body -/
  | spdm (h : HalfId) (via : Transport) (code : Nat) (body : List Byte)
  | idleFlit (h : HalfId) (port : Nat)
  | crossing (h : HalfId) (island waitNs : Nat)
  deriving DecidableEq, Repr

end Sys2Proof.Machine
end

