-- ==== Sys2Proof/Arrivals.lean ====
section
/-! DEFINITION. What commands bring with them beside numbers: SRAM arrays, PRG codes, monitor batches and Cone readings. -/
namespace Sys2Proof.Machine

/-- Where an SRAM error lies: an entry of a cache or store by its place in it, a port's duplicate tags, a directory entry by its key, or another
array of an island's unit. -/
inductive SramAt where
  | iotlb (i : Nat)
  | walkCache (i : Nat)
  | wareLine (i : Nat)
  | program (i : Nat)
  | table (i : Nat)
  | dupTags (port : Nat)
  | directory (key : Nat)
  | other (island unit : Nat)
  deriving DecidableEq, Repr

/-- Codes of a PRG Response (R170). -/
inductive PrgCode where
  | success | invalid | failure
  deriving DecidableEq, Repr

/-- Occurrences of one event at one unit in a batch, with the partition on whose behalf they happened. -/
structure PmcOcc where
  event : Nat := 0
  unit : Nat := 0
  part : Option Nat := none
  n : Nat := 0
  deriving DecidableEq, Repr

/-- One Cone reading: slack and drift in 0.1 ps, and whether it passes its self-check. -/
abbrev ConeReading := Nat × Int × Bool

end Sys2Proof.Machine
end

