-- ==== Sys2Proof/Bodies.lean ====
section
/-! DEFINITION. The bodies of command packets (R76 to R82), one structure per body table, fields in the table's order and as raw as the bytes
that hold them: a reserved bit set is for the packet's checks to find (R94). -/
namespace Sys2Proof.Machine

/-- A flag byte with one bit given. -/
def withBit (v i : Nat) (on : Bool) : Nat := v - (if v.testBit i then 2 ^ i else 0) + (if on then 2 ^ i else 0)

/-- A flag byte with several bits given. -/
def withBits (v : Nat) (l : List (Nat × Bool)) : Nat := l.foldl (fun w e => withBit w e.1 e.2) v

/-- A field of n bytes holds a value. -/
def fits (v n : Nat) : Bool := decide (v < 2 ^ (8 * n))

/-- Body of COPY (R197). -/
structure CopyBody where
  src : Nat := 0
  dst : Nat := 0
  count : Nat := 0
  deriving DecidableEq, Repr

def CopyBody.args (c : CopyBody) : List Nat := [c.src, c.dst, c.count]
def CopyBody.ok (c : CopyBody) : Bool := fits c.src 8 && fits c.dst 8 && fits c.count 8

/-- Body of FILL (R197). -/
structure FillBody where
  dst : Nat := 0
  count : Nat := 0
  pattern : Nat := 0
  deriving DecidableEq, Repr

def FillBody.args (c : FillBody) : List Nat := [c.dst, c.count, c.pattern]
def FillBody.ok (c : FillBody) : Bool := fits c.dst 8 && fits c.count 8 && fits c.pattern 16

/-- Body of WRITE_INLINE (R197). -/
structure InlineBody where
  dst : Nat := 0
  n : Nat := 0
  deriving DecidableEq, Repr

def InlineBody.args (c : InlineBody) : List Nat := [c.dst, c.n]
def InlineBody.ok (c : InlineBody) : Bool := fits c.dst 8 && fits c.n 2

/-- Body of COPY_TILED (R198). -/
structure TiledBody where
  src : Nat := 0
  dst : Nat := 0
  xBytes : Nat := 0
  yCount : Nat := 0
  zCount : Nat := 0
  srcYPitch : Nat := 0
  srcZPitch : Nat := 0
  dstYPitch : Nat := 0
  dstZPitch : Nat := 0
  deriving DecidableEq, Repr

def TiledBody.args (c : TiledBody) : List Nat := [c.src, c.dst, c.xBytes, c.yCount, c.zCount, c.srcYPitch, c.srcZPitch, c.dstYPitch, c.dstZPitch]
def TiledBody.ok (c : TiledBody) : Bool :=
  fits c.src 8 && fits c.dst 8 && fits c.xBytes 4 && fits c.yCount 4 && fits c.zCount 4 && fits c.srcYPitch 8 &&
  fits c.srcZPitch 8 && fits c.dstYPitch 8 && fits c.dstZPitch 8

/-- Body of GATHER and SCATTER (R199). -/
structure IndexedBody where
  src : Nat := 0
  dst : Nat := 0
  idx : Nat := 0
  count : Nat := 0
  esize : Nat := 0
  iflags : Nat := 0
  stride : Nat := 0
  deriving DecidableEq, Repr

def IndexedBody.args (c : IndexedBody) : List Nat := [c.src, c.dst, c.idx, c.count, c.esize, c.iflags, c.stride]
def IndexedBody.ok (c : IndexedBody) : Bool :=
  fits c.src 8 && fits c.dst 8 && fits c.idx 8 && fits c.count 4 && fits c.esize 1 && fits c.iflags 1 &&
  fits c.stride 8

/-- Body of FENCE_SIGNAL (R113). -/
structure SignalBody where
  fence : Nat := 0
  value : Nat := 0
  deriving DecidableEq, Repr

def SignalBody.args (c : SignalBody) : List Nat := [c.fence, c.value]
def SignalBody.ok (c : SignalBody) : Bool := fits c.fence 8 && fits c.value 8

/-- Body of FENCE_WAIT (R115). -/
structure WaitBody where
  fence : Nat := 0
  value : Nat := 0
  limit : Nat := 0
  deriving DecidableEq, Repr

def WaitBody.args (c : WaitBody) : List Nat := [c.fence, c.value, c.limit]
def WaitBody.ok (c : WaitBody) : Bool := fits c.fence 8 && fits c.value 8 && fits c.limit 8

/-- Body of EVENT_RAISE (R119). -/
structure EventBody where
  event : Nat := 0
  payload : Nat := 0
  deriving DecidableEq, Repr

def EventBody.args (c : EventBody) : List Nat := [c.event, c.payload]
def EventBody.ok (c : EventBody) : Bool := fits c.event 8 && fits c.payload 8

/-- Body of TRANSFORM (R235). -/
structure TransformBody where
  src : Nat := 0
  dst : Nat := 0
  count : Nat := 0
  sfmt : Nat := 0
  dfmt : Nat := 0
  op : Nat := 0
  mode : Nat := 0
  scale : Nat := 0
  bias : Nat := 0
  gen : Nat := 0
  aux : Nat := 0
  sscale : Nat := 0
  dscale : Nat := 0
  stats : Nat := 0
  sblock : Nat := 0
  salt : Nat := 0
  src2 : Nat := 0
  sscale2 : Nat := 0
  deriving DecidableEq, Repr

def TransformBody.args (c : TransformBody) : List Nat :=
  [c.src, c.dst, c.count, c.sfmt, c.dfmt, c.op, c.mode, c.scale, c.bias, c.gen, c.aux, c.sscale, c.dscale, c.stats,
   c.sblock, c.salt, c.src2, c.sscale2]
def TransformBody.ok (c : TransformBody) : Bool :=
  fits c.src 8 && fits c.dst 8 && fits c.count 8 && fits c.sfmt 1 && fits c.dfmt 1 && fits c.op 1 &&
  fits c.mode 1 && fits c.scale 4 && fits c.bias 4 && fits c.gen 4 && fits c.aux 8 && fits c.sscale 8 &&
  fits c.dscale 8 && fits c.stats 8 && fits c.sblock 1 && fits c.salt 8 && fits c.src2 8 && fits c.sscale2 8

/-- Body of REDUCE (R245). -/
structure ReduceBody where
  srca : Nat := 0
  srcb : Nat := 0
  dst : Nat := 0
  count : Nat := 0
  afmt : Nat := 0
  bfmt : Nat := 0
  dfmt : Nat := 0
  rop : Nat := 0
  mode : Nat := 0
  post : Nat := 0
  ascale : Nat := 0
  bscale : Nat := 0
  dscale : Nat := 0
  stats : Nat := 0
  sblock : Nat := 0
  salt : Nat := 0
  deriving DecidableEq, Repr

def ReduceBody.args (c : ReduceBody) : List Nat :=
  [c.srca, c.srcb, c.dst, c.count, c.afmt, c.bfmt, c.dfmt, c.rop, c.mode, c.post, c.ascale, c.bscale, c.dscale,
   c.stats, c.sblock, c.salt]
def ReduceBody.ok (c : ReduceBody) : Bool :=
  fits c.srca 8 && fits c.srcb 8 && fits c.dst 8 && fits c.count 8 && fits c.afmt 1 && fits c.bfmt 1 &&
  fits c.dfmt 1 && fits c.rop 1 && fits c.mode 1 && fits c.post 4 && fits c.ascale 8 && fits c.bscale 8 &&
  fits c.dscale 8 && fits c.stats 8 && fits c.sblock 1 && fits c.salt 8

/-- Body of ROUTE (R248), RMODE apart. -/
structure RouteBody where
  k : Nat := 0
  sfmt : Nat := 0
  dfmt : Nat := 0
  rflags : Nat := 0
  src : Nat := 0
  idx : Nat := 0
  ntok : Nat := 0
  elems : Nat := 0
  map : Nat := 0
  nexp : Nat := 0
  self : Nat := 0
  receipt : Nat := 0
  fvalue : Nat := 0
  dst : Nat := 0
  gate : Nat := 0
  salt : Nat := 0
  deriving DecidableEq, Repr

def RouteBody.args (c : RouteBody) : List Nat :=
  [c.k, c.sfmt, c.dfmt, c.rflags, c.src, c.idx, c.ntok, c.elems, c.map, c.nexp, c.self, c.receipt, c.fvalue, c.dst,
   c.gate, c.salt]
def RouteBody.ok (c : RouteBody) : Bool :=
  fits c.k 1 && fits c.sfmt 1 && fits c.dfmt 1 && fits c.rflags 1 && fits c.src 8 && fits c.idx 8 &&
  fits c.ntok 4 && fits c.elems 4 && fits c.map 8 && fits c.nexp 2 && fits c.self 2 && fits c.receipt 8 &&
  fits c.fvalue 8 && fits c.dst 8 && fits c.gate 8 && fits c.salt 8

/-- Body of DRAFT_OPEN (R263). -/
structure OpenBody where
  record : Nat := 0
  ring : Nat := 0
  nslot : Nat := 0
  slotLog2 : Nat := 0
  arrival : Nat := 0
  credit : Nat := 0
  start : Nat := 0
  deriving DecidableEq, Repr

def OpenBody.args (c : OpenBody) : List Nat := [c.record, c.ring, c.nslot, c.slotLog2, c.arrival, c.credit, c.start]
def OpenBody.ok (c : OpenBody) : Bool :=
  fits c.record 8 && fits c.ring 8 && fits c.nslot 4 && fits c.slotLog2 1 && fits c.arrival 8 && fits c.credit 8 &&
  fits c.start 8

/-- Body of DRAFT_SEND (R267). -/
structure SendBody where
  record : Nat := 0
  src : Nat := 0
  count : Nat := 0
  sfmt : Nat := 0
  dfmt : Nat := 0
  op : Nat := 0
  mode : Nat := 0
  scale : Nat := 0
  bias : Nat := 0
  gen : Nat := 0
  aux : Nat := 0
  sscale : Nat := 0
  rowElems : Nat := 0
  climit : Nat := 0
  stats : Nat := 0
  sblock : Nat := 0
  salt : Nat := 0
  deriving DecidableEq, Repr

def SendBody.args (c : SendBody) : List Nat :=
  [c.record, c.src, c.count, c.sfmt, c.dfmt, c.op, c.mode, c.scale, c.bias, c.gen, c.aux, c.sscale, c.rowElems,
   c.climit, c.stats, c.sblock, c.salt]
def SendBody.ok (c : SendBody) : Bool :=
  fits c.record 8 && fits c.src 8 && fits c.count 8 && fits c.sfmt 1 && fits c.dfmt 1 && fits c.op 1 &&
  fits c.mode 1 && fits c.scale 4 && fits c.bias 4 && fits c.gen 4 && fits c.aux 8 && fits c.sscale 8 &&
  fits c.rowElems 4 && fits c.climit 4 && fits c.stats 8 && fits c.sblock 1 && fits c.salt 8

/-- Body of DRAFT_CLOSE (R271). -/
structure CloseBody where
  record : Nat := 0
  limit : Nat := 0
  deriving DecidableEq, Repr

def CloseBody.args (c : CloseBody) : List Nat := [c.record, c.limit]
def CloseBody.ok (c : CloseBody) : Bool := fits c.record 8 && fits c.limit 4

/-- Body of MAP (R157). -/
structure MapBody where
  va : Nat := 0
  count : Nat := 0
  entry : Nat := 0
  deriving DecidableEq, Repr

def MapBody.args (c : MapBody) : List Nat := [c.va, c.count, c.entry]
def MapBody.ok (c : MapBody) : Bool := fits c.va 8 && fits c.count 8 && fits c.entry 8

/-- Body of UNMAP, INVALIDATE_RANGE, PIN and UNPIN. -/
structure RangeBody where
  va : Nat := 0
  count : Nat := 0
  deriving DecidableEq, Repr

def RangeBody.args (c : RangeBody) : List Nat := [c.va, c.count]
def RangeBody.ok (c : RangeBody) : Bool := fits c.va 8 && fits c.count 8

/-- Body of ALLOC (R122). -/
structure AllocBody where
  size : Nat := 0
  align : Nat := 0
  deriving DecidableEq, Repr

def AllocBody.args (c : AllocBody) : List Nat := [c.size, c.align]
def AllocBody.ok (c : AllocBody) : Bool := fits c.size 8 && fits c.align 8

/-- Body of FREE (R121). -/
structure FreeBody where
  va : Nat := 0
  deriving DecidableEq, Repr

def FreeBody.args (c : FreeBody) : List Nat := [c.va]
def FreeBody.ok (c : FreeBody) : Bool := fits c.va 8

/-- Body of PREFETCH_STREAM (R282); STOP is the command. -/
structure PrefetchBody where
  src : Nat := 0
  count : Nat := 0
  depth : Nat := 0
  pflags : Nat := 0
  stream : Nat := 0
  deriving DecidableEq, Repr

def PrefetchBody.args (c : PrefetchBody) (on : Bool) : List Nat := [c.src, c.count, c.depth, withBit c.pflags 0 on, c.stream]
def PrefetchBody.ok (c : PrefetchBody) : Bool := fits c.src 8 && fits c.count 8 && fits c.depth 4 && fits c.pflags 1 && fits c.stream 2

/-- Body of QUERY (R126), SELECT apart. -/
structure QueryBody where
  type : Nat := 0
  dst : Nat := 0
  max : Nat := 0
  deriving DecidableEq, Repr

def QueryBody.args (c : QueryBody) : List Nat := [c.type, c.dst, c.max]
def QueryBody.ok (c : QueryBody) : Bool := fits c.type 1 && fits c.dst 8 && fits c.max 4

/-- Body of CTX_CREATE (R103). -/
structure CtxBody where
  ctx : Nat := 0
  part : Nat := 0
  cflags : Nat := 0
  root : Nat := 0
  drainNs : Nat := 0
  fenceVa : Nat := 0
  fenceLog2 : Nat := 0
  eventLog2 : Nat := 0
  eventVector : Nat := 0
  eventVa : Nat := 0
  heapVa : Nat := 0
  heapSize : Nat := 0
  seed : Nat := 0
  deriving DecidableEq, Repr

def CtxBody.args (c : CtxBody) : List Nat :=
  [c.ctx, c.part, c.cflags, c.root, c.drainNs, c.fenceVa, c.fenceLog2, c.eventLog2, c.eventVector, c.eventVa, c.heapVa,
   c.heapSize, c.seed]
def CtxBody.ok (c : CtxBody) : Bool :=
  fits c.ctx 4 && fits c.part 1 && fits c.cflags 1 && fits c.root 8 && fits c.drainNs 8 && fits c.fenceVa 8 &&
  fits c.fenceLog2 1 && fits c.eventLog2 1 && fits c.eventVector 2 && fits c.eventVa 8 && fits c.heapVa 8 &&
  fits c.heapSize 8 && fits c.seed 8

/-- Body of CTX_DESTROY (R109). -/
structure CtxDestroyBody where
  ctx : Nat := 0
  dflags : Nat := 0
  drainNs : Nat := 0
  deriving DecidableEq, Repr

def CtxDestroyBody.args (c : CtxDestroyBody) : List Nat := [c.ctx, c.dflags, c.drainNs]
def CtxDestroyBody.ok (c : CtxDestroyBody) : Bool := fits c.ctx 4 && fits c.dflags 1 && fits c.drainNs 8

/-- Body of QUEUE_CREATE (R83). -/
structure QueueBody where
  queue : Nat := 0
  part : Nat := 0
  qflags : Nat := 0
  ctx : Nat := 0
  sqBase : Nat := 0
  sqLog2 : Nat := 0
  cqLog2 : Nat := 0
  vector : Nat := 0
  cqBase : Nat := 0
  cidx : Nat := 0
  deriving DecidableEq, Repr

def QueueBody.args (c : QueueBody) : List Nat := [c.queue, c.part, c.qflags, c.ctx, c.sqBase, c.sqLog2, c.cqLog2, c.vector, c.cqBase, c.cidx]
def QueueBody.ok (c : QueueBody) : Bool :=
  fits c.queue 2 && fits c.part 1 && fits c.qflags 1 && fits c.ctx 4 && fits c.sqBase 8 && fits c.sqLog2 1 &&
  fits c.cqLog2 1 && fits c.vector 2 && fits c.cqBase 8 && fits c.cidx 8

/-- Body of QUEUE_DESTROY (R85). -/
structure QueueDestroyBody where
  queue : Nat := 0
  deriving DecidableEq, Repr

def QueueDestroyBody.args (c : QueueDestroyBody) : List Nat := [c.queue]
def QueueDestroyBody.ok (c : QueueDestroyBody) : Bool := fits c.queue 2

/-- Body of PART_CONFIG (R387). -/
structure PartBody where
  part : Nat := 0
  pflags : Nat := 0
  maxCtx : Nat := 0
  maxQueue : Nat := 0
  memBase : Nat := 0
  memSize : Nat := 0
  hw : Nat := 0
  hc : Nat := 0
  fw : Nat := 0
  fc : Nat := 0
  sw : Nat := 0
  sc : Nat := 0
  xw : Nat := 0
  xc : Nat := 0
  iw : Nat := 0
  ic : Nat := 0
  deriving DecidableEq, Repr

def PartBody.args (c : PartBody) : List Nat :=
  [c.part, c.pflags, c.maxCtx, c.maxQueue, c.memBase, c.memSize, c.hw, c.hc, c.fw, c.fc, c.sw, c.sc, c.xw, c.xc, c.iw,
   c.ic]
def PartBody.ok (c : PartBody) : Bool :=
  fits c.part 1 && fits c.pflags 1 && fits c.maxCtx 2 && fits c.maxQueue 2 && fits c.memBase 8 &&
  fits c.memSize 8 && fits c.hw 1 && fits c.hc 4 && fits c.fw 1 && fits c.fc 4 && fits c.sw 1 && fits c.sc 4 &&
  fits c.xw 1 && fits c.xc 4 && fits c.iw 1 && fits c.ic 4

/-- Body of KEY_INSTALL (R415). -/
structure KeyBody where
  ctx : Nat := 0
  slot : Nat := 0
  kflags : Nat := 0
  handle : Nat := 0
  sealVa : Nat := 0
  sealSize : Nat := 0
  hostBase : Nat := 0
  metaVa : Nat := 0
  deriving DecidableEq, Repr

def KeyBody.args (c : KeyBody) : List Nat := [c.ctx, c.slot, c.kflags, c.handle, c.sealVa, c.sealSize, c.hostBase, c.metaVa]
def KeyBody.ok (c : KeyBody) : Bool :=
  fits c.ctx 4 && fits c.slot 1 && fits c.kflags 1 && fits c.handle 1 && fits c.sealVa 8 && fits c.sealSize 8 &&
  fits c.hostBase 8 && fits c.metaVa 8

/-- Body of KEY_RETIRE (R417); SWEEP is the command. -/
structure KeyRetireBody where
  ctx : Nat := 0
  slot : Nat := 0
  rflags : Nat := 0
  deriving DecidableEq, Repr

def KeyRetireBody.args (c : KeyRetireBody) (on : Bool) : List Nat := [c.ctx, c.slot, withBit c.rflags 0 on]
def KeyRetireBody.ok (c : KeyRetireBody) : Bool := fits c.ctx 4 && fits c.slot 1 && fits c.rflags 1

/-- Body of REGION_REGISTER (R376). -/
structure RegionBody where
  ctx : Nat := 0
  rflags : Nat := 0
  rid : Nat := 0
  mwOff : Nat := 0
  size : Nat := 0
  pasid : Nat := 0
  deriving DecidableEq, Repr

def RegionBody.args (c : RegionBody) : List Nat := [c.ctx, c.rflags, c.rid, c.mwOff, c.size, c.pasid]
def RegionBody.ok (c : RegionBody) : Bool := fits c.ctx 4 && fits c.rflags 1 && fits c.rid 2 && fits c.mwOff 8 && fits c.size 8 && fits c.pasid 4

/-- Body of REGION_RELEASE (R377). -/
structure RegionReleaseBody where
  handle : Nat := 0
  deriving DecidableEq, Repr

def RegionReleaseBody.args (c : RegionReleaseBody) : List Nat := [c.handle]
def RegionReleaseBody.ok (c : RegionReleaseBody) : Bool := fits c.handle 2

/-- Body of FW_STAGE (R466); LAST, ACTIVATE and SERVICE are the command. -/
structure FwBody where
  half : Nat := 0
  sflags : Nat := 0
  src : Nat := 0
  offset : Nat := 0
  len : Nat := 0
  deriving DecidableEq, Repr

def FwBody.args (c : FwBody) (l : List (Nat × Bool)) : List Nat := [c.half, withBits c.sflags l, c.src, c.offset, c.len]
def FwBody.ok (c : FwBody) : Bool := fits c.half 1 && fits c.sflags 1 && fits c.src 8 && fits c.offset 4 && fits c.len 4

/-- Body of HALF_OFFLINE (R72). -/
structure HalfBody where
  half : Nat := 0
  deriving DecidableEq, Repr

def HalfBody.args (c : HalfBody) : List Nat := [c.half]
def HalfBody.ok (c : HalfBody) : Bool := fits c.half 1

/-- Body of JOURNAL_READ (R475), SELECT apart. -/
structure JournalBody where
  half : Nat := 0
  dst : Nat := 0
  from_ : Nat := 0
  count : Nat := 0
  deriving DecidableEq, Repr

def JournalBody.args (c : JournalBody) (select : Nat) : List Nat := [c.half, select, c.dst, c.from_, c.count]
def JournalBody.ok (c : JournalBody) : Bool := fits c.half 1 && fits c.dst 8 && fits c.from_ 8 && fits c.count 4

/-- Body of CHIPLET_ADMIT (R468). -/
structure ChipBody where
  chip : Nat := 0
  deriving DecidableEq, Repr

def ChipBody.args (c : ChipBody) : List Nat := [c.chip]
def ChipBody.ok (c : ChipBody) : Bool := fits c.chip 1

/-- Body of FABRIC_JOIN (R330); UPDATE and LEAVE are the command. -/
structure JoinBody where
  pkg : Nat := 0
  domain : Nat := 0
  jflags : Nat := 0
  routes : Nat := 0
  neigh : Nat := 0
  limit : Nat := 0
  deriving DecidableEq, Repr

def JoinBody.args (c : JoinBody) (l : List (Nat × Bool)) : List Nat := [c.pkg, c.domain, withBits c.jflags l, c.routes, c.neigh, c.limit]
def JoinBody.ok (c : JoinBody) : Bool := fits c.pkg 2 && fits c.domain 2 && fits c.jflags 1 && fits c.routes 8 && fits c.neigh 8 && fits c.limit 4

/-- Body of DIAG (R422), SUBOP apart. -/
structure DiagBody where
  array : Nat := 0
  index : Nat := 0
  data : Nat := 0
  deriving DecidableEq, Repr

def DiagBody.args (c : DiagBody) : List Nat := [c.array, c.index, c.data]
def DiagBody.ok (c : DiagBody) : Bool := fits c.array 1 && fits c.index 8 && fits c.data 8

end Sys2Proof.Machine
end

