-- ==== Sys2Proof/Syntax.lean ====
section
/-! DEFINITION. The commands of the block: one constructor per row of the opcode table. A half operand `h` is the half the command reaches;
`port` is a pair port (2 × half + logical port) at the host, a logical die port at a chiplet, a logical optical port at the fabric. `via` is who makes
a register or window access. A packet command is the packet as its ring slots spell it, header and body. -/
namespace Sys2Proof

open Sys2Proof.Machine

/-- The commands, in the order of the opcode table. -/
inductive Instr where
  /-- REGISTER_WRITE (R13). -/
  | registerWrite (via : Via) (off : Nat) (value : Nat) (wide : Bool)
  /-- MISALIGNED_REGISTER_ACCESS (R12). -/
  | misalignedRegisterAccess (via : Via) (off : Nat) (write : Bool)
  /-- LOCK_SET (R498). -/
  | lockSet (via : Via) (h : HalfId)
  /-- MCTP_REGISTER_MESSAGE (R438). -/
  | mctpRegisterMessage (h : HalfId) (endpoint : Nat) (off : Nat) (value : Option Nat)
  /-- CROSSING_ENTRY_DELIVERY (R20). -/
  | crossingEntryDelivery (h : HalfId) (island : Nat)
  /-- ISLAND_CLOCK_GATE (R452). -/
  | islandClockGate (h : HalfId) (island : Nat)
  /-- ISLAND_RETENTION_ENTRY (R452). -/
  | islandRetentionEntry (h : HalfId) (island : Nat)
  /-- QOS_LEASE_GRANT (R394). -/
  | qosLeaseGrant (h : HalfId) (cls : Nat) (point : Nat) (part : Nat)
  /-- QOS_REFILL_TICK (R392). -/
  | qosRefillTick (h : HalfId)
  /-- ERROR_QUEUE_ENTRY_FREED (R26). -/
  | errorQueueEntryFreed (h : HalfId) (island : Nat)
  /-- ERROR_MESSAGE_ACCEPT (R429). -/
  | errorMessageAccept (h : HalfId)
  /-- FATAL_HALF_RESET (R440). -/
  | fatalHalfReset (h : HalfId)
  /-- FATAL_NOTICE_RECEIVE (R441). -/
  | fatalNoticeReceive (h : HalfId) (msg : ErrMsg) (pairReset : Bool)
  /-- ERROR_RECORD_CLEAR (R432). -/
  | errorRecordClear (via : Via) (h : HalfId) (rec : ErrRec)
  /-- ERROR_LOG_STATUS_READ (R436). -/
  | errorLogStatusRead (via : Via) (h : HalfId)
  /-- ERROR_LOG_ENTRY_READ (R430). -/
  | errorLogEntryRead (via : Via) (h : HalfId) (high : Bool)
  /-- ERROR_INJECT (R444). -/
  | errorInject (via : Via) (h : HalfId) (value : Nat)
  /-- SEVERE_SOURCE_CLEAR (R434). -/
  | severeSourceClear (via : Via) (h : HalfId)
  /-- KILN_WATCHDOG_EXPIRY (R428). -/
  | kilnWatchdogExpiry (h : HalfId) (core : Nat)
  /-- SRAM_ECC_ERROR (R428). -/
  | sramEccError (h : HalfId) (where_ : SramAt) (cls : Nat)
  /-- PLAN_MOVE_CLOCK_SWITCH (R28). -/
  | planMoveClockSwitch (h : HalfId) (island : Nat)
  /-- PLAN_MOVE_VOLTAGE_STEP (R28). -/
  | planMoveVoltageStep (h : HalfId) (island : Nat)
  /-- SPRINT_REQUEST (R29). -/
  | sprintRequest (h : HalfId) (quad : Nat)
  /-- LOAD_STEP_ACK (R29). -/
  | loadStepAck (h : HalfId) (frame : Nat)
  /-- SPRINT_ENTRY (R29). -/
  | sprintEntry (h : HalfId) (quad : Nat)
  /-- SPRINT_ACK_TIMEOUT (R29). -/
  | sprintAckTimeout (h : HalfId) (quad : Nat)
  /-- SPRINT_BUDGET_EXPIRY (R29). -/
  | sprintBudgetExpiry (h : HalfId) (quad : Nat)
  /-- SPRINT_DWELL_EXPIRY (R222). -/
  | sprintDwellExpiry (h : HalfId) (quad : Nat)
  /-- HL_UP (R34). -/
  | hlUp (port : Nat)
  /-- HL_RETRAIN (R210). -/
  | hlRetrain (port : Nat) (active : Bool)
  /-- HL_DOWN (R211). -/
  | hlDown (port : Nat)
  /-- HL_HOT_RESET (R211). -/
  | hlHotReset (port : Nat)
  /-- CONTAIN_REARM (R213). -/
  | containRearm (via : Via) (port : Nat) (discard : Bool)
  /-- HL_LP_STATE_CHANGE (R381). -/
  | hlLpStateChange (port : Nat) (state : Nat)
  /-- LINK_L0P_REQUEST (R381). -/
  | linkL0pRequest (port : Nat)
  /-- LINK_L1_REQUEST (R381). -/
  | linkL1Request (port : Nat)
  /-- LINK_POWER_REQUEST_TIMEOUT (R382). -/
  | linkPowerRequestTimeout (port : Nat)
  /-- CHECKER_ACK (R38). -/
  | checkerAck (h : HalfId)
  /-- CHECKER_ACK_TIMEOUT (R39). -/
  | checkerAckTimeout (h : HalfId)
  /-- CHECKER_VIOLATION_REPORT (R39). -/
  | checkerViolationReport (h : HalfId) (chan : Option Nat) (addr : Nat) (va : Nat) (ctx : Nat) (part : Nat) (write : Bool)
  /-- LANE_HEALTH_RECORD (R41). -/
  | laneHealthRecord (h : HalfId) (port : Nat) (lane : Nat) (rec : Nat)
  /-- LANE_HEALTH_EVAL (R347). -/
  | laneHealthEval (h : HalfId)
  /-- LANE_MAP_CONFIRM (R40). -/
  | laneMapConfirm (h : HalfId) (port : Nat)
  /-- LSWAP (R348). -/
  | lswap (h : HalfId) (port : Nat) (lane : Nat) (spare : Nat)
  /-- LSWAP_ACK (R348). -/
  | lswapAck (h : HalfId) (port : Nat)
  /-- BROWNOUT_HOLD_ENTRY (R446). -/
  | brownoutHoldEntry (h : HalfId)
  /-- BROWNOUT_HOLD_RELEASE (R447). -/
  | brownoutHoldRelease (h : HalfId)
  /-- PWR_FAIL (R449). -/
  | pwrFail (h : HalfId)
  /-- TELEMETRY_VOLTAGE (R44). -/
  | telemetryVoltage (h : HalfId) (frame : Nat)
  /-- TELEMETRY_CURRENT (R44). -/
  | telemetryCurrent (h : HalfId) (frame : Nat)
  /-- SUPERVISOR_FRAME_DISCARD (R44). -/
  | supervisorFrameDiscard (h : HalfId) (frame : Nat) (stopOk : Bool)
  /-- STAGE_CURRENT_LIMIT (R450). -/
  | stageCurrentLimit (h : HalfId) (frame : Nat)
  /-- TELEMETRY_LOSS (R45). -/
  | telemetryLoss (h : HalfId)
  /-- ISSUE_RAMP_STEP (R450). -/
  | issueRampStep (h : HalfId) (group : Nat)
  /-- THERMAL_SAMPLE (R451). -/
  | thermalSample (h : HalfId) (temps : List Nat)
  /-- TAP_INSTRUCTION (R47). -/
  | tapInstruction (h : HalfId) (instr : Nat)
  /-- UCIE_LANE_REPAIR (R36). -/
  | ucieLaneRepair (h : HalfId) (port : Nat)
  /-- BLK_REFCLK_LOSS (R51). -/
  | blkRefclkLoss (h : HalfId)
  /-- BLK_REFCLK_RETURN (R51). -/
  | blkRefclkReturn (h : HalfId)
  /-- LOGIC_PWRGOOD_FALL (R52). -/
  | logicPwrgoodFall (h : HalfId)
  /-- LOGIC_PWRGOOD_RISE (R53). -/
  | logicPwrgoodRise (h : HalfId)
  /-- PKG_RST_N_ASSERT (R52). -/
  | pkgRstNAssert
  /-- HALF_RST_N_ASSERT (R52). -/
  | halfRstNAssert (h : HalfId)
  /-- RESET_RELEASE (R53). -/
  | resetRelease (h : HalfId)
  /-- BISQUE_SERVICE_READY (R462). -/
  | bisqueServiceReady (h : HalfId)
  /-- MEMORY_TRAINING_COMPLETE (R462). -/
  | memoryTrainingComplete (h : HalfId) (trained : Nat)
  /-- GLAZE_SERVICE_ENTRY (R462). -/
  | glazeServiceEntry (h : HalfId) (readings : List ConeReading)
  /-- HELLO_SEND (R56). -/
  | helloSend (h : HalfId)
  /-- HELLO (R56). -/
  | hello (h : HalfId) (frame : HelloFrame)
  /-- HELLO_ACK (R57). -/
  | helloAck (h : HalfId) (frame : HelloFrame)
  /-- PAIRING_WINDOW_CLOSE (R56). -/
  | pairingWindowClose (h : HalfId)
  /-- HEARTBEAT_SEND (R63). -/
  | heartbeatSend (h : HalfId)
  /-- HEARTBEAT (R501). -/
  | heartbeat (h : HalfId) (time : Nat) (state : Nat)
  /-- PARTNER_SILENT (R63). -/
  | partnerSilent (h : HalfId)
  /-- TDM_PHY_DOWN (R42). -/
  | tdmPhyDown (h : HalfId)
  /-- LIVENESS_WRITE (R64). -/
  | livenessWrite (h : HalfId)
  /-- LIVENESS_PROBE_RESULT (R64). -/
  | livenessProbeResult (h : HalfId) (probe1 : Option Nat) (probe2 : Option Nat)
  /-- FREEWHEEL_ENTRY (R66). -/
  | freewheelEntry (h : HalfId)
  /-- MIRROR (R61). -/
  | mirror (h : HalfId) (seq : Nat) (rec : MirrorRec)
  /-- MIRROR_ACK (R62). -/
  | mirrorAck (h : HalfId) (seq : Nat)
  /-- DOORBELL_FWD (R60). -/
  | doorbellFwd (h : HalfId) (queue : Nat) (pidx : Nat)
  /-- XREQ (R55). -/
  | xreq (h : HalfId) (tag : Nat) (req : XReq)
  /-- XRSP (R55). -/
  | xrsp (h : HalfId) (tag : Nat) (data : Nat)
  /-- INVAL (R185). -/
  | inval (h : HalfId) (seq : Nat) (flags : Nat) (ctx : Nat) (va : Nat) (pages : Nat)
  /-- INVAL_ACK (R185). -/
  | invalAck (h : HalfId) (seq : Nat) (phase : Nat) (result : Nat) (port : Nat)
  /-- OFFLINE (R72). -/
  | offline (h : HalfId)
  /-- ONLINE (R73). -/
  | online (h : HalfId)
  /-- HALF_OFFLINE (R72). -/
  | halfOffline (queue : Nat) (hdr : Hdr) (body : HalfBody)
  /-- HALF_OFFLINE_DRAIN_EXPIRY (R72). -/
  | halfOfflineDrainExpiry (h : HalfId)
  /-- HALF_ONLINE (R73). -/
  | halfOnline (queue : Nat) (hdr : Hdr)
  /-- QUEUE_REHOME (R73). -/
  | queueRehome (queue : Nat)
  /-- PAIR_RESET (R75). -/
  | pairReset (via : Via) (h : HalfId) (value : Nat)
  /-- DOORBELL (R90). -/
  | doorbell (via : Via) (queue : Nat) (value : Nat)
  /-- CQ_HEAD_WRITE (R98). -/
  | cqHeadWrite (via : Via) (queue : Nat) (value : Nat)
  /-- PACKET_FETCH (R101). -/
  | packetFetch (queue : Nat)
  /-- PACKET_FETCH_COMPLETE (R94). -/
  | packetFetchComplete (queue : Nat)
  /-- FETCH_ERROR (R93). -/
  | fetchError (queue : Nat) (what : Nat)
  /-- PACKET_DISPATCH (R97). -/
  | packetDispatch (h : HalfId)
  /-- PACKET_COMPLETE (R202). -/
  | packetComplete (queue : Nat) (slot : Nat)
  /-- SIGNAL_TRAILER (R79). -/
  | signalTrailer (queue : Nat) (slot : Nat)
  /-- REPLY_WRITE (R80). -/
  | replyWrite (queue : Nat)
  /-- INDEX_WORD_WRITE (R99). -/
  | indexWordWrite (queue : Nat)
  /-- MSIX_SEND (R389). -/
  | msixSend (port : Nat) (part : Nat) (vec : Nat)
  /-- MSIX_HOLDOFF_EXPIRY (R389). -/
  | msixHoldoffExpiry (port : Nat) (part : Nat) (vec : Nat)
  /-- MSIX_UNMASK (R389). -/
  | msixUnmask (port : Nat) (part : Nat) (vec : Nat)
  /-- ADMIN_QUEUE_ENABLE (R91). -/
  | adminQueueEnable (via : Via) (h : HalfId)
  /-- ADMIN_QUEUE_DISABLE (R91). -/
  | adminQueueDisable (via : Via) (h : HalfId)
  /-- QUEUE_RESUME (R93). -/
  | queueResume (via : Via) (queue : Nat)
  /-- NOP (R82). -/
  | nop (queue : Nat) (hdr : Hdr)
  /-- COPY (R197). -/
  | copy (queue : Nat) (hdr : Hdr) (body : CopyBody)
  /-- FILL (R197). -/
  | fill (queue : Nat) (hdr : Hdr) (body : FillBody)
  /-- WRITE_INLINE (R197). -/
  | writeInline (queue : Nat) (hdr : Hdr) (body : InlineBody)
  /-- COPY_TILED (R198). -/
  | copyTiled (queue : Nat) (hdr : Hdr) (body : TiledBody)
  /-- GATHER (R199). -/
  | gather (queue : Nat) (hdr : Hdr) (body : IndexedBody)
  /-- SCATTER (R199). -/
  | scatter (queue : Nat) (hdr : Hdr) (body : IndexedBody)
  /-- FENCE_SIGNAL (R113). -/
  | fenceSignal (queue : Nat) (hdr : Hdr) (body : SignalBody)
  /-- FENCE_WAIT (R115). -/
  | fenceWait (queue : Nat) (hdr : Hdr) (body : WaitBody)
  /-- EVENT_RAISE (R119). -/
  | eventRaise (queue : Nat) (hdr : Hdr) (body : EventBody)
  /-- TRANSFORM (R235). -/
  | transform (queue : Nat) (hdr : Hdr) (body : TransformBody)
  /-- REDUCE (R245). -/
  | reduce (queue : Nat) (hdr : Hdr) (body : ReduceBody)
  /-- ROUTE_DISPATCH (R250). -/
  | routeDispatch (queue : Nat) (hdr : Hdr) (body : RouteBody)
  /-- ROUTE_RETURN (R251). -/
  | routeReturn (queue : Nat) (hdr : Hdr) (body : RouteBody)
  /-- ROUTE_COMBINE (R252). -/
  | routeCombine (queue : Nat) (hdr : Hdr) (body : RouteBody)
  /-- ROUTE_FENCE_SIGNAL (R253). -/
  | routeFenceSignal (h : HalfId) (chan : Nat) (entry : Nat)
  /-- DRAFT_OPEN (R263). -/
  | draftOpen (queue : Nat) (hdr : Hdr) (body : OpenBody)
  /-- DRAFT_SEND (R267). -/
  | draftSend (queue : Nat) (hdr : Hdr) (body : SendBody)
  /-- DRAFT_CLOSE (R271). -/
  | draftClose (queue : Nat) (hdr : Hdr) (body : CloseBody)
  /-- MAP (R157). -/
  | map (queue : Nat) (hdr : Hdr) (body : MapBody)
  /-- UNMAP (R180). -/
  | unmap (queue : Nat) (hdr : Hdr) (body : RangeBody)
  /-- INVALIDATE_RANGE (R180). -/
  | invalidateRange (queue : Nat) (hdr : Hdr) (body : RangeBody)
  /-- PIN (R158). -/
  | pin (queue : Nat) (hdr : Hdr) (body : RangeBody)
  /-- UNPIN (R160). -/
  | unpin (queue : Nat) (hdr : Hdr) (body : RangeBody)
  /-- ALLOC (R122). -/
  | alloc (queue : Nat) (hdr : Hdr) (body : AllocBody)
  /-- FREE (R121). -/
  | free (queue : Nat) (hdr : Hdr) (body : FreeBody)
  /-- PREFETCH_STREAM (R282). -/
  | prefetchStream (queue : Nat) (hdr : Hdr) (body : PrefetchBody)
  /-- PREFETCH_STREAM_STOP (R282). -/
  | prefetchStreamStop (queue : Nat) (hdr : Hdr) (body : PrefetchBody)
  /-- QUERY_CAPABILITY (R126). -/
  | queryCapability (queue : Nat) (hdr : Hdr) (body : QueryBody)
  /-- QUERY_CONTEXT (R126). -/
  | queryContext (queue : Nat) (hdr : Hdr) (body : QueryBody)
  /-- QUERY_ALLOCATOR (R126). -/
  | queryAllocator (queue : Nat) (hdr : Hdr) (body : QueryBody)
  /-- CTX_CREATE (R103). -/
  | ctxCreate (queue : Nat) (hdr : Hdr) (body : CtxBody)
  /-- CTX_DESTROY (R109). -/
  | ctxDestroy (queue : Nat) (hdr : Hdr) (body : CtxDestroyBody)
  /-- CTX_DRAIN_COMPLETE (R109). -/
  | ctxDrainComplete (h : HalfId) (ctx : Nat)
  /-- DRAIN_BOUND_EXPIRY (R109). -/
  | drainBoundExpiry (h : HalfId) (queue : Bool) (id : Nat)
  /-- QUEUE_CREATE (R83). -/
  | queueCreate (queue : Nat) (hdr : Hdr) (body : QueueBody)
  /-- QUEUE_DESTROY (R85). -/
  | queueDestroy (queue : Nat) (hdr : Hdr) (body : QueueDestroyBody)
  /-- PART_CONFIG (R387). -/
  | partConfig (queue : Nat) (hdr : Hdr) (body : PartBody)
  /-- KEY_INSTALL (R415). -/
  | keyInstall (queue : Nat) (hdr : Hdr) (body : KeyBody)
  /-- KEY_RETIRE (R417). -/
  | keyRetire (queue : Nat) (hdr : Hdr) (body : KeyRetireBody)
  /-- KEY_RETIRE_SWEEP (R417). -/
  | keyRetireSweep (queue : Nat) (hdr : Hdr) (body : KeyRetireBody)
  /-- SWEEP_CHUNK_UNLOCK (R418). -/
  | sweepChunkUnlock (h : HalfId)
  /-- REGION_REGISTER (R376). -/
  | regionRegister (queue : Nat) (hdr : Hdr) (body : RegionBody)
  /-- REGION_RELEASE (R377). -/
  | regionRelease (queue : Nat) (hdr : Hdr) (body : RegionReleaseBody)
  /-- FW_STAGE (R466). -/
  | fwStage (queue : Nat) (hdr : Hdr) (body : FwBody)
  /-- FW_STAGE_LAST (R466). -/
  | fwStageLast (queue : Nat) (hdr : Hdr) (body : FwBody)
  /-- FW_STAGE_ACTIVATE (R466). -/
  | fwStageActivate (queue : Nat) (hdr : Hdr) (body : FwBody)
  /-- FW_STAGE_SERVICE (R473). -/
  | fwStageService (queue : Nat) (hdr : Hdr) (body : FwBody)
  /-- JOURNAL_READ (R475). -/
  | journalRead (queue : Nat) (hdr : Hdr) (body : JournalBody)
  /-- JOURNAL_READ_SERVICE (R475). -/
  | journalReadService (queue : Nat) (hdr : Hdr) (body : JournalBody)
  /-- MARGIN_REPLAN (R470). -/
  | marginReplan (queue : Nat) (hdr : Hdr)
  /-- CHIPLET_ADMIT (R468). -/
  | chipletAdmit (queue : Nat) (hdr : Hdr) (body : ChipBody)
  /-- FABRIC_JOIN (R330). -/
  | fabricJoin (queue : Nat) (hdr : Hdr) (body : JoinBody)
  /-- FABRIC_UPDATE (R331). -/
  | fabricUpdate (queue : Nat) (hdr : Hdr) (body : JoinBody)
  /-- FABRIC_LEAVE (R331). -/
  | fabricLeave (queue : Nat) (hdr : Hdr) (body : JoinBody)
  /-- DIAG_READ (R422). -/
  | diagRead (queue : Nat) (hdr : Hdr) (body : DiagBody)
  /-- DIAG_WRITE (R422). -/
  | diagWrite (queue : Nat) (hdr : Hdr) (body : DiagBody)
  /-- CONTEXT_LOSS (R107). -/
  | contextLoss (event : LossEv)
  /-- FENCE_SIGNAL_APPLY (R113). -/
  | fenceSignalApply (queue : Nat) (slot : Nat)
  /-- FENCE_WAIT_POLL (R116). -/
  | fenceWaitPoll (h : HalfId) (queue : Nat) (slot : Nat)
  /-- FENCE_WAIT_TIMEOUT (R115). -/
  | fenceWaitTimeout (h : HalfId) (queue : Nat) (slot : Nat)
  /-- OBJECT_RECLAIM (R121). -/
  | objectReclaim (h : HalfId)
  /-- WALK_START (R144). -/
  | walkStart (h : HalfId)
  /-- WALK_GROUP_READ (R140). -/
  | walkGroupRead (h : HalfId) (spoke : Nat) (ok : Bool)
  /-- AD_UPDATE_CAS (R139). -/
  | adUpdateCas (h : HalfId) (spoke : Nat) (ok : Bool)
  /-- SPOKE_FAIL (R143). -/
  | spokeFail (h : HalfId) (spoke : Nat)
  /-- HOLDER_SPAN_RELEASE (R146). -/
  | holderSpanRelease (h : HalfId) (holder : Nat)
  /-- ATS_COMPLETION (R148). -/
  | atsCompletion (h : HalfId) (holder : Nat) (addr : Nat) (pages : Nat) (rd : Bool) (wr : Bool)
  /-- XT_REQ (R154). -/
  | xtReq (h : HalfId) (port : Nat) (acc : Nat) (tid : Nat) (ctx : Nat) (va : Nat)
  /-- CHIPLET_UNTRANSLATED_ACCESS (R154). -/
  | chipletUntranslatedAccess (h : HalfId) (port : Nat) (ctx : Nat) (write : Bool) (va : Nat) (len : Nat) (data : List Byte)
  /-- CHIPLET_TRANSLATED_ACCESS (R156). -/
  | chipletTranslatedAccess (h : HalfId) (port : Nat) (ctx : Nat) (fabric : Bool) (write : Bool) (addr : Nat) (len : Nat) (data : List Byte)
  /-- PAGE_REQUEST_ISSUE (R169). -/
  | pageRequestIssue (port : Nat) (vf : Nat)
  /-- PRG_RESPONSE (R170). -/
  | prgResponse (port : Nat) (vf : Nat) (prg : Nat) (code : PrgCode)
  /-- PRI_TIMEOUT (R170). -/
  | priTimeout (h : HalfId) (chan : Nat)
  /-- ALLOCATOR_FAULT_ANSWER (R171). -/
  | allocatorFaultAnswer (h : HalfId) (chan : Nat)
  /-- HOLDER_RECALL_ACK (R182). -/
  | holderRecallAck (h : HalfId) (holder : Nat)
  /-- XT_INV_ACK (R184). -/
  | xtInvAck (h : HalfId) (port : Nat) (itag : Nat) (fence : Bool)
  /-- CHIPLET_ACK_TIMEOUT (R187). -/
  | chipletAckTimeout (h : HalfId) (port : Nat) (itag : Nat)
  /-- INVALIDATION_COMPLETE (R186). -/
  | invalidationComplete (h : HalfId)
  /-- REGISTER_INVALIDATE (R188). -/
  | registerInvalidate (via : Via) (h : HalfId)
  /-- ATS_INVALIDATE_REQUEST (R189). -/
  | atsInvalidateRequest (port : Nat) (tag : Nat) (pasid : Option Nat) (addr : Nat) (pages : Nat) (whole : Bool)
  /-- DMA_BURST_ISSUE (R193). -/
  | dmaBurstIssue (h : HalfId) (engine : Nat)
  /-- READ_COMPLETION (R202). -/
  | readCompletion (h : HalfId) (chan : Nat) (result : Nat)
  /-- WRITE_ACK (R203). -/
  | writeAck (h : HalfId) (queue : Nat) (slot : Nat)
  /-- FLUSH_READ_COMPLETE (R203). -/
  | flushReadComplete (h : HalfId) (port : Nat)
  /-- FLUSH_READ_REFUSED (R204). -/
  | flushReadRefused (h : HalfId) (port : Nat)
  /-- IDLE_FLUSH (R205). -/
  | idleFlush (h : HalfId) (port : Nat)
  /-- MESH_WRITE_ERROR (R505). -/
  | meshWriteError (h : HalfId) (chan : Nat)
  /-- CHANNEL_PARITY_ERROR (R215). -/
  | channelParityError (h : HalfId) (chan : Nat)
  /-- BUS_MASTER_ENABLE_CLEAR (R504). -/
  | busMasterEnableClear (port : Nat) (vf : Nat)
  /-- BUS_MASTER_ENABLE_SET (R504). -/
  | busMasterEnableSet (port : Nat) (vf : Nat)
  /-- ENGINE_ISSUE (R219). -/
  | engineIssue (h : HalfId) (engine : Nat)
  /-- PROGRAM_LOAD_COMPLETE (R244). -/
  | programLoadComplete (h : HalfId) (chan : Nat)
  /-- TABLE_LOAD_COMPLETE (R241). -/
  | tableLoadComplete (h : HalfId) (chan : Nat)
  /-- ENGINE_PARITY_ERROR (R258). -/
  | engineParityError (h : HalfId) (engine : Nat)
  /-- DRAFT_SLOT_COMMIT (R267). -/
  | draftSlotCommit (h : HalfId) (chan : Nat)
  /-- DRAFT_CREDIT_RESUME (R269). -/
  | draftCreditResume (h : HalfId) (chan : Nat)
  /-- DRAFT_CREDIT_TIMEOUT (R269). -/
  | draftCreditTimeout (h : HalfId) (chan : Nat)
  /-- DRAFT_RESYNC (R275). -/
  | draftResync (h : HalfId)
  /-- WARE_LOOKUP (R279). -/
  | wareLookup (h : HalfId) (chan : Nat) (ctx : Nat) (part : Nat) (addr : Nat) (len : Nat)
  /-- WARE_FILL_RETURN (R279). -/
  | wareFillReturn (h : HalfId) (tag : Nat) (data : List Byte) (poison : Bool)
  /-- WARE_SCRUB (R281). -/
  | wareScrub (h : HalfId)
  /-- WARE_DISABLE (R287). -/
  | wareDisable (h : HalfId)
  /-- PREFETCH_FILL (R283). -/
  | prefetchFill (h : HalfId) (stream : Nat)
  /-- PREFETCH_IDLE_END (R283). -/
  | prefetchIdleEnd (h : HalfId) (stream : Nat)
  /-- WINDOW_ENABLE (R291). -/
  | windowEnable (via : Via)
  /-- WINDOW_DISABLE (R292). -/
  | windowDisable (via : Via)
  /-- RD_SHARED (R304). -/
  | rdShared (h : HalfId) (port : Nat) (req : CohReq)
  /-- RD_OWN (R304). -/
  | rdOwn (h : HalfId) (port : Nat) (req : CohReq)
  /-- UPGRADE (R304). -/
  | upgrade (h : HalfId) (port : Nat) (req : CohReq)
  /-- RD_ONCE (R304). -/
  | rdOnce (h : HalfId) (port : Nat) (req : CohReq)
  /-- WR_ONCE (R304). -/
  | wrOnce (h : HalfId) (port : Nat) (req : CohReq)
  /-- DAT_WR (R304). -/
  | datWr (h : HalfId) (port : Nat) (tid : Nat) (mask : Nat) (data : List Byte) (poison : Bool)
  /-- RSP_I (R305). -/
  | rspI (h : HalfId) (port : Nat) (tid : Nat)
  /-- RSP_S (R305). -/
  | rspS (h : HalfId) (port : Nat) (tid : Nat)
  /-- RSP_I_EVICTING (R306). -/
  | rspIEvicting (h : HalfId) (port : Nat) (tid : Nat)
  /-- DAT_SNP (R305). -/
  | datSnp (h : HalfId) (port : Nat) (tid : Nat) (after : Nat) (dirty : Bool) (poison : Bool) (data : List Byte)
  /-- EVC (R306). -/
  | evc (h : HalfId) (port : Nat) (tid : Nat) (line : Nat)
  /-- EVD (R306). -/
  | evd (h : HalfId) (port : Nat) (tid : Nat) (line : Nat) (poison : Bool) (data : List Byte)
  /-- CRD (R300). -/
  | crd (h : HalfId) (port : Nat) (snp : Nat) (rsp : Nat) (dat : Nat)
  /-- COH_TRANSACTION_CLOSE (R303). -/
  | cohTransactionClose (h : HalfId) (txn : Nat)
  /-- RESERVATION_GRANT (R308). -/
  | reservationGrant (h : HalfId)
  /-- RESERVATION_EXPIRY (R308). -/
  | reservationExpiry (h : HalfId) (rcid : Nat)
  /-- SNOOP_TIMEOUT (R310). -/
  | snoopTimeout (h : HalfId) (port : Nat) (tid : Nat)
  /-- IO_REQUEST (R313). -/
  | ioRequest (h : HalfId) (tag : Nat) (write : Bool) (line : Nat) (data : List Byte) (mask : Nat)
  /-- HOST_MEM_REQUEST (R315). -/
  | hostMemRequest (h : HalfId) (port : Nat) (kind : Nat) (line : Nat) (data : List Byte)
  /-- BIRSP (R315). -/
  | birsp (h : HalfId) (port : Nat) (line : Nat) (data : Option (List Byte))
  /-- BI_TIMEOUT (R317). -/
  | biTimeout (h : HalfId) (port : Nat) (line : Nat)
  /-- HOST_SNOOP (R319). -/
  | hostSnoop (h : HalfId) (port : Nat) (kind : Nat) (line : Nat)
  /-- CXL_CACHE_GO (R318). -/
  | cxlCacheGo (h : HalfId) (line : Nat) (state : Nat) (data : Option (List Byte))
  /-- LINK_HELLO_SEND (R330). -/
  | linkHelloSend (h : HalfId) (port : Nat)
  /-- LINK_HELLO (R351). -/
  | linkHello (h : HalfId) (port : Nat) (pkg : Nat) (domain : Nat) (leaving : Bool)
  /-- FABRIC_JOIN_LIMIT_EXPIRY (R330). -/
  | fabricJoinLimitExpiry (h : HalfId)
  /-- RD_REQ (R339). -/
  | rdReq (h : HalfId) (pkt : FabPkt)
  /-- WR_REQ (R342). -/
  | wrReq (h : HalfId) (pkt : FabPkt)
  /-- AT_FETCH_ADD (R343). -/
  | atFetchAdd (h : HalfId) (pkt : FabPkt)
  /-- AT_COMPARE_SWAP (R343). -/
  | atCompareSwap (h : HalfId) (pkt : FabPkt)
  /-- AT_FENCE_SIGNAL (R343). -/
  | atFenceSignal (h : HalfId) (pkt : FabPkt)
  /-- PING (R332). -/
  | ping (h : HalfId) (pkt : FabPkt)
  /-- PACKET_FORWARD (R335). -/
  | packetForward (h : HalfId) (port : Nat) (pkt : FabPkt)
  /-- RD_DATA (R342). -/
  | rdData (h : HalfId) (tag : Nat) (data : List Byte) (poison : Bool)
  /-- WR_ACK (R342). -/
  | wrAck (h : HalfId) (tag : Nat)
  /-- AT_RSP (R343). -/
  | atRsp (h : HalfId) (tag : Nat) (old : Nat) (code : Nat) (poison : Bool)
  /-- PONG (R352). -/
  | pong (h : HalfId) (tag : Nat)
  /-- NACK (R346). -/
  | nack (h : HalfId) (tag : Nat) (reason : Nat)
  /-- CREDIT (R333). -/
  | credit (h : HalfId) (port : Nat) (cls : Nat) (vc : Nat) (count : Nat)
  /-- FLIT_CRC_FAIL (R334). -/
  | flitCrcFail (h : HalfId) (port : Nat) (again : Bool)
  /-- IDLE_FLIT (R334). -/
  | idleFlit (h : HalfId) (port : Nat)
  /-- FABRIC_REQ_TIMEOUT (R345). -/
  | fabricReqTimeout (h : HalfId) (tag : Nat)
  /-- PORT_DOWN (R351). -/
  | portDown (h : HalfId) (port : Nat) (tags : List Nat)
  /-- UNREACH_PING (R352). -/
  | unreachPing (h : HalfId) (pkg : Nat)
  /-- PATH_DRAIN_END (R336). -/
  | pathDrainEnd (h : HalfId) (pkg : Nat)
  /-- FAB_GRANT_WRITE (R338). -/
  | fabGrantWrite (via : Via) (h : HalfId) (value : Nat)
  /-- BOND_WRITE (R363). -/
  | bondWrite (via : Via) (h : HalfId) (value : Nat)
  /-- MEMORY_WINDOW_WRITE (R367). -/
  | memoryWindowWrite (via : Via) (pasid : Option Nat) (tag : Nat) (off : Nat) (data : List Byte) (poison : Bool)
  /-- MEMORY_WINDOW_READ (R367). -/
  | memoryWindowRead (via : Via) (pasid : Option Nat) (tag : Nat) (off : Nat) (len : Nat)
  /-- PEER_ZERO_LENGTH_READ (R375). -/
  | peerZeroLengthRead (via : Via) (pasid : Option Nat) (off : Nat)
  /-- PTM_EXCHANGE (R379). -/
  | ptmExchange (h : HalfId)
  /-- PTM_RESPONSE (R379). -/
  | ptmResponse (h : HalfId) (master : Nat)
  /-- PTM_SYNC_LOST (R380). -/
  | ptmSyncLost (h : HalfId)
  /-- D3HOT_ENTRY (R455). -/
  | d3hotEntry (port : Nat) (vf : Nat)
  /-- D0_RETURN (R455). -/
  | d0Return (port : Nat) (vf : Nat)
  /-- FUNCTION_LEVEL_RESET (R398). -/
  | functionLevelReset (port : Nat) (vf : Nat)
  /-- VF_ENABLE_CLEAR (R397). -/
  | vfEnableClear (port : Nat)
  /-- PARTITION_RESET_COMPLETE (R398). -/
  | partitionResetComplete (h : HalfId) (part : Nat)
  /-- FRAME_RECLAIM_DONE (R398). -/
  | frameReclaimDone (h : HalfId) (part : Nat)
  /-- SPDM_GET_CERTIFICATE (R403). -/
  | spdmGetCertificate (h : HalfId) (transport : Transport) (slot : Nat)
  /-- SPDM_CHALLENGE (R404). -/
  | spdmChallenge (h : HalfId) (transport : Transport) (slot : Nat) (nonce : List Byte)
  /-- SPDM_MEASUREMENTS (R406). -/
  | spdmMeasurements (h : HalfId) (transport : Transport) (index : Nat) (signed : Bool) (nonce : List Byte)
  /-- SPDM_KEY_EXCHANGE (R405). -/
  | spdmKeyExchange (h : HalfId) (transport : Transport)
  /-- SPDM_KEY_UPDATE (R404). -/
  | spdmKeyUpdate (h : HalfId) (session : Nat)
  /-- SPDM_HEARTBEAT (R404). -/
  | spdmHeartbeat (h : HalfId) (session : Nat)
  /-- SPDM_HEARTBEAT_TIMEOUT (R405). -/
  | spdmHeartbeatTimeout (h : HalfId) (session : Nat)
  /-- SPDM_END_SESSION (R405). -/
  | spdmEndSession (h : HalfId) (session : Nat)
  /-- KEY_STAGE (R415). -/
  | keyStage (h : HalfId) (session : Nat) (ctx : Nat) (epoch : Nat) (key : Nat)
  /-- DEBUG_NONCE (R420). -/
  | debugNonce (h : HalfId) (session : Nat)
  /-- DEBUG_NONCE_LAPSE (R420). -/
  | debugNonceLapse (h : HalfId)
  /-- DEBUG_UNLOCK (R420). -/
  | debugUnlock (h : HalfId) (session : Nat) (token : List Byte)
  /-- DEBUG_LOCK (R421). -/
  | debugLock (h : HalfId) (session : Nat)
  /-- DEBUG_RELOCK (R421). -/
  | debugRelock (via : Via) (h : HalfId)
  /-- DEEP_IDLE_ENTRY (R454). -/
  | deepIdleEntry (h : HalfId)
  /-- DEEP_IDLE_WAKE (R454). -/
  | deepIdleWake (h : HalfId)
  /-- FIRMWARE_AUTHENTICATE (R465). -/
  | firmwareAuthenticate (h : HalfId)
  /-- FW_MCTP_IMAGE (R465). -/
  | fwMctpImage (h : HalfId) (off : Nat) (data : List Byte) (last : Bool)
  /-- IMAGE_SOURCE_TIMEOUT (R465). -/
  | imageSourceTimeout (h : HalfId)
  /-- SERVICE_RECORD_RETURN (R473). -/
  | serviceRecordReturn (h : HalfId) (record : List Byte)
  /-- CHIPLET_LINK_TIMEOUT (R468). -/
  | chipletLinkTimeout (h : HalfId) (port : Nat)
  /-- MARGIN_REPLAN_RUN (R470). -/
  | marginReplanRun (h : HalfId) (readings : List ConeReading) (periodic : Bool)
  /-- WEAR_HOUR (R471). -/
  | wearHour (h : HalfId) (island : Nat)
  /-- JOURNAL_SPILL (R475). -/
  | journalSpill (h : HalfId)
  /-- PMC_BATCH (R486). -/
  | pmcBatch (h : HalfId) (group : Nat) (cycles : Nat) (occs : List PmcOcc)
  /-- PWR_WARN_FALL (R448). -/
  | pwrWarnFall (h : HalfId) (failLine : Bool)
  /-- PRI_ENABLE_CHANGE (R170). -/
  | priEnableChange (port : Nat) (vf : Nat)
  /-- UCIE_LINK_UP (R468). -/
  | ucieLinkUp (h : HalfId) (port : Nat) (cap : Nat) (desc : List Byte)
  /-- DRAFT_CLOSE_LIMIT_EXPIRY (R271). -/
  | draftCloseLimitExpiry (queue : Nat) (slot : Nat)
  deriving DecidableEq, Repr

end Sys2Proof
end

