-- ==== Sys2Proof/Machine/Blk.lean ====
section
/-! DEFINITION. The block as plain data: block time, memory, the two halves with their copies of the pair-wide objects. -/
namespace Sys2Proof.Machine


/-- Block time of one half: its 64-bit nanosecond count, and whether BLK_REFCLK drives it (R10, R51, R501). -/
structure HalfClk where
  time : Nat := 0
  running : Bool := true
  deriving DecidableEq, Repr

/-- Block time of the pair's two halves (R501). -/
structure Clk where
  a : HalfClk := {}
  b : HalfClk := {}
  deriving DecidableEq, Repr

/-- Memory the block reaches: device bytes by 46-bit local offset (bit 45 = die, R136), host bytes by bus address, and the
64-byte device beats that hold poison (R214). Each list is in canonical form: keys rising, no byte 0 listed. -/
structure MemSys where
  dev : List Host.Cell := []
  host : List Host.Cell := []
  poison : List Nat := []
  deriving DecidableEq, Repr

/-- The pair-wide objects, of which each half holds a copy (R61, R102, R496). -/
structure Obj where
  ctxs : Tab Ctx := []
  queues : Tab Queue := []
  parts : Tab Part := []
  mems : List MemObj := []
  /-- frames the block holds or has programmed for an object; every other frame has its partition's default (R385) -/
  frames : Tab Frame := []
  tables : List TabPage := []
  /-- objects whose count reached zero and which wait for OBJECT_RECLAIM (R121) -/
  dead : List MemObj := []
  join : Option JoinRec := none
  pins : List PinRange := []
  /-- ranges whose leaves the block wrote by MAP (R157), per context -/
  maps : List PinRange := []
  windows : Tab Window := []
  /-- route table, expected neighbours (per pair port, by VALID word), grants (entry to WQ_FAB_GRANT value), unreachable packages -/
  routes : Tab Route := []
  neigh : Tab Nat := []
  grants : Tab Nat := []
  unreach : List Nat := []
  joinCmd : Option JoinCmd := none
  /-- open-stream table (R264) -/
  streams : List Stream := []
  /-- registered regions by handle (R376) -/
  regions : Tab Region := []
  /-- staged keys by handle (R415) -/
  staged : Tab Staged := []
  deriving DecidableEq, Repr

/-- One half of the pair. -/
structure Half where
  id : HalfId := .A
  fuse : Fuses := {}
  pins : Pins := {}
  strap : Straps := {}
  latched : Straps := {}
  /-- registers that differ from their reset value, by offset (chapter 20) -/
  regs : Tab W64 := []
  /-- the MCTP bank of the selector registers (R497) -/
  selMctp : Tab W64 := []
  err : ErrUnit := {}
  jnl : JnlUnit := {}
  isl : Tab Island := []
  quads : Tab Quad := []
  cones : Tab Cone := []
  pwr : PwrUnit := {}
  boot : BootUnit := {}
  tdm : TdmUnit := {}
  qos : QosUnit := {}
  /-- MSI-X tables of the half's logical host ports: port × 2^17 + function × 2^11 + vector -/
  msix : Tab MsixEntry := []
  /-- open or pending vector messages, same keys -/
  msgs : Tab VecMsg := []
  waiters : List Waiter := []
  /-- queue dispatched last in the priority class and among the others (R97) -/
  lastPrio : Nat := 0
  lastQ : Nat := 0
  ports : Tab HostPort := []
  /-- functions of the half: logical port × 64 + virtual function (0 = the physical or companion function) -/
  fns : Tab Fn := []
  ptm : PtmUnit := {}
  sec : SecUnit := {}
  xlt : XltUnit := {}
  dma : DmaUnit := {}
  xfm : XfmUnit := {}
  ware : WareUnit := {}
  fab : FabUnit := {}
  coh : CohUnit := {}
  /-- logical die ports 0 to 7 -/
  dies : Tab DiePort := []
  obj : Obj := {}
  deriving DecidableEq, Repr

/-- Everything of the block but memory, block time and the command queue. -/
structure Blk where
  a : Half := {}
  b : Half := { id := .B }
  /-- what the block has sent, newest first (the model's own field) -/
  out : List Output := []
  /-- loss events raised by the command in hand and not yet applied -/
  lossQ : List LossEv := []
  /-- partitions that R439 resets, not yet started -/
  flrQ : List Nat := []
  /-- draws of free values made so far (the model's own field) -/
  free : Nat := 0
  deriving DecidableEq, Repr

/-- The whole machine but its command queue: block time, memory and the block. -/
structure Mach where
  clk : Clk := {}
  mem : MemSys := {}
  blk : Blk := {}
  deriving DecidableEq, Repr

end Sys2Proof.Machine
end

