-- ==== Sys2Proof/Machine/RegMap.lean ====
section
/-! DEFINITION. The register map of a half (chapter 20, Tables 20-1 to 20-18) and of a virtual function's BAR 0
(Table 20-19): offsets, reset values, and the access code of every field (Table 00-6, R502). -/
namespace Sys2Proof.Machine

/-- Access codes (Table 00-6); an RWS field is a flag, a count or a record (R502). -/
inductive Acc where
  | ro | rw | rw1c | rw1s | wo | flag | count | record | rwl
  deriving DecidableEq, Repr

/-- A field: bits [hi:lo], its access code, the limits at which a written value is held, and values that are reserved (R14). -/
structure Fld where
  hi : Nat
  lo : Nat
  acc : Acc
  lim : Option (Nat × Nat) := none
  resv : List Nat := []
  deriving DecidableEq, Repr

/-- A register, or an array of `n` registers `stride` bytes apart. -/
structure Reg where
  off : Nat
  n : Nat := 1
  stride : Nat := 8
  reset : Nat := 0
  flds : List Fld
  deriving DecidableEq, Repr

def rw (hi lo : Nat) : Fld := ⟨hi, lo, .rw, none, []⟩
def ro (hi lo : Nat) : Fld := ⟨hi, lo, .ro, none, []⟩
def rwl (hi lo : Nat) : Fld := ⟨hi, lo, .rwl, none, []⟩
def rwlIn (hi lo a b : Nat) : Fld := ⟨hi, lo, .rwl, some (a, b), []⟩
def flag (i : Nat) : Fld := ⟨i, i, .flag, none, []⟩
def count (hi lo : Nat) : Fld := ⟨hi, lo, .count, none, []⟩
def record (hi lo : Nat) : Fld := ⟨hi, lo, .record, none, []⟩
def wo (hi lo : Nat) : Fld := ⟨hi, lo, .wo, none, []⟩
def w1c (i : Nat) : Fld := ⟨i, i, .rw1c, none, []⟩
def w1s (i : Nat) : Fld := ⟨i, i, .rw1s, none, []⟩

def regsGlobal : List Reg := [
  ⟨0x0010000, 1, 8, 0, [ro 63 0]⟩,                         -- WQ_BOOT_STATUS
  ⟨0x0010008, 1, 8, 0, [w1s 0]⟩,                           -- WQ_LOCK
  ⟨0x0010010, 1, 8, 0, [ro 63 0]⟩,                         -- WQ_STRAP_STATUS
  ⟨0x0010018, 1, 8, 0, [wo 15 8, wo 0 0]⟩,                 -- WQ_PAIR_RESET
  ⟨0x0020000, 1, 8, 1, [ro 15 12, flag 11, ro 10 8, ro 3 0]⟩, -- WQ_TDM_STATUS
  ⟨0x0020008, 1, 8, 0, [rw 0 0]⟩,                          -- WQ_TDM_CTRL
  ⟨0x0020010, 1, 8, 0, [ro 63 0]⟩,                         -- WQ_TDM_PARTNER
  ⟨0x0020018, 1, 8, 0, [ro 63 0]⟩,                         -- WQ_TDM_FEATURE_COMMON
  ⟨0x0020020, 1, 8, 0, [count 63 32, count 31 0]⟩,         -- WQ_TDM_HB_MISS
  ⟨0x0020028, 1, 8, 0, [count 63 0]⟩ ]                     -- WQ_TDM_FREEWHEEL_EPOCH

def regsCmd : List Reg := [
  ⟨0x0030000, 1, 8, 0, [rw 63 0]⟩,                         -- WQ_CMD_ADMIN_SQ_BASE
  ⟨0x0030008, 1, 8, 0, [rw 63 0]⟩,                         -- WQ_CMD_ADMIN_CQ_BASE
  ⟨0x0030010, 1, 8, 0, [rw 63 0]⟩,                         -- WQ_CMD_ADMIN_CIDX_ADDR
  ⟨0x0030018, 1, 8, 0, [rw 42 32, rw 20 16, rw 12 8, rw 1 1, rw 0 0]⟩, -- WQ_CMD_ADMIN_CTRL
  ⟨0x0030020, 1, 8, 0, [wo 13 0]⟩,                         -- WQ_CMD_QUEUE_RESUME
  ⟨0x0030028, 1, 8, 0, [rw 13 0]⟩,                         -- WQ_CMD_QUEUE_SEL
  ⟨0x0030030, 1, 8, 0, [ro 63 0]⟩,                         -- WQ_CMD_QUEUE_STATE
  ⟨0x0030038, 1, 8, 0, [count 31 0]⟩,                      -- WQ_CMD_DB_ERR
  ⟨0x0030040, 1, 8, 0, [rw 19 0]⟩,                         -- WQ_CMD_CTX_SEL
  ⟨0x0030048, 1, 8, 4, [ro 63 0]⟩,                         -- WQ_CMD_CTX_STATE
  ⟨0x0030050, 1, 8, 0, [ro 63 0]⟩,                         -- WQ_CMD_CTX_LOSS_ADDR
  ⟨0x0030058, 1, 8, 0x989680, [⟨63, 0, .rw, some (0, 10000000000), []⟩]⟩, -- WQ_CMD_DRAIN_DEFAULT
  ⟨0x0030060, 1, 8, 0, [count 31 0]⟩,                      -- WQ_CMD_FENCE_REGRESS
  ⟨0x0030068, 1, 8, 0, [ro 63 0]⟩ ]                        -- WQ_CMD_CTX_COUNT

def regsXlt : List Reg := [
  ⟨0x0100000, 1, 8, 0x0000000000082003, [rwlIn 23 16 0 64, rwlIn 15 8 2 64, rwl 2 2, rwl 1 1, rwl 0 0]⟩, -- WQ_XLT_CTRL
  ⟨0x0100008, 1, 8, 0xFFFFFFFF, [ro 63 0]⟩,                -- WQ_XLT_SPOKE_MAP
  ⟨0x0100010, 1, 8, 0, [ro 63 0]⟩,                         -- WQ_XLT_HOLDER_USE
  ⟨0x0100018, 1, 8, 0, [ro 63 0]⟩,                         -- WQ_XLT_PIN_USE
  ⟨0x0100020, 1, 8, 0, [rw 19 0]⟩,                         -- WQ_XLT_CTX_SEL
  ⟨0x0100028, 1, 8, 0, [rw 15 0]⟩,                         -- WQ_XLT_DPT_ALLOW
  ⟨0x0100030, 1, 8, 0, [count 31 0]⟩,                      -- WQ_XLT_RUN_MISMATCH
  ⟨0x0100038, 1, 8, 0, [count 31 0]⟩,                      -- WQ_XLT_AD_RETRY
  ⟨0x0100040, 1, 8, 0, [count 31 0]⟩,                      -- WQ_XLT_DPT_DENY
  ⟨0x0100100, 1, 8, 0, [rw 56 12]⟩,                        -- WQ_XLT_INV_BASE
  ⟨0x0100108, 1, 8, 0, [rw 35 0]⟩,                         -- WQ_XLT_INV_PAGES
  ⟨0x0100110, 1, 8, 0, [rw 32 32, rw 19 0]⟩,               -- WQ_XLT_INV_CTX
  ⟨0x0100118, 1, 8, 0, [ro 23 16, w1c 3, w1c 2, w1c 1, w1s 0]⟩, -- WQ_XLT_INV_CTRL
  ⟨0x0100120, 1, 8, 0x0000640200002710, [rwlIn 47 40 20 255, rwlIn 35 32 1 15, rwlIn 31 0 100 1000000]⟩, -- WQ_XLT_FAULT_CTRL
  ⟨0x0100128, 1, 8, 0, [count 63 32, count 31 0]⟩,         -- WQ_XLT_FAULT_COUNT
  ⟨0x0100130, 1, 8, 0, [ro 63 0]⟩,                         -- WQ_XLT_PRI_OUT
  ⟨0x0100138, 1, 8, 0, [count 31 0]⟩,                      -- WQ_XLT_PRI_UNEXPECTED
  ⟨0x0100140, 1, 8, 0, [count 31 0]⟩ ]                     -- WQ_XLT_ATS_INV_COUNT

def regsDma : List Reg := [
  ⟨0x0200000, 1, 8, 0x307D0, [rwlIn 19 17 0 4, rwl 16 16, rwlIn 15 0 200 65535]⟩, -- WQ_DMA_CTRL
  ⟨0x0200008, 1, 8, 0xFFFF, [ro 63 0]⟩,                    -- WQ_DMA_ENGINE_MAP
  ⟨0x0200010, 2, 8, 0, [ro 63 32, ro 31 16, wo 4 4, wo 3 3, flag 2, flag 1, ro 0 0]⟩, -- WQ_DMA_CONTAIN_n
  ⟨0x0200020, 1, 8, 0, [rw 6 0]⟩,                          -- WQ_DMA_CHAN_SEL
  ⟨0x0200028, 1, 8, 0, [ro 63 0]⟩,                         -- WQ_DMA_CHAN_STATE
  ⟨0x0200030, 1, 8, 0, [count 63 32, count 31 0]⟩ ]        -- WQ_DMA_FLUSH_COUNT

def regsXfm : List Reg := [
  ⟨0x0300000, 1, 8, 0x140C01, [rwlIn 23 16 1 255, rwlIn 11 8 1 15, rwl 0 0]⟩, -- WQ_XFM_CTRL
  ⟨0x0300008, 1, 8, 0xFFFF, [ro 63 0]⟩,                    -- WQ_XFM_ENGINE_MAP
  ⟨0x0300010, 1, 8, 0x1111, [ro 63 0]⟩,                    -- WQ_XFM_QUAD_PLAN
  ⟨0x0300018, 1, 8, 0, [ro 63 0]⟩,                         -- WQ_XFM_SPRINT_STATUS
  ⟨0x0300020, 1, 8, 0, [rw 3 0]⟩,                          -- WQ_XFM_ENG_SEL
  ⟨0x0300028, 1, 8, 0, [ro 63 0]⟩,                         -- WQ_XFM_ENG_STATE
  ⟨0x0300030, 1, 8, 0, [count 63 32, count 31 0]⟩,         -- WQ_XFM_RESIDENCY
  ⟨0x0300038, 1, 8, 0, [count 31 0]⟩,                      -- WQ_XFM_SAT_COUNT
  ⟨0x0300040, 1, 8, 0, [count 63 32, count 31 0]⟩,         -- WQ_XFM_ROUTE_COUNT
  ⟨0x0300048, 1, 8, 0, [count 31 0]⟩,                      -- WQ_XFM_ROUTE_FENCE_ERR
  ⟨0x0300100, 1, 8, 0x2710, [rwlIn 31 0 1 10000000]⟩,      -- WQ_XFM_DRAFT_CTRL
  ⟨0x0300108, 1, 8, 0, [ro 63 0]⟩,                         -- WQ_XFM_DRAFT_OPEN
  ⟨0x0300110, 1, 8, 0, [count 63 32, count 31 0]⟩,         -- WQ_XFM_DRAFT_COUNT
  ⟨0x0580000, 1, 8, 3, [rwl 1 1, rwl 0 0]⟩,                -- WQ_WARE_CTRL
  ⟨0x0580008, 1, 8, 0x3F, [ro 63 0]⟩,                      -- WQ_WARE_STATUS
  ⟨0x0580010, 1, 8, 0, [count 47 0]⟩,                      -- WQ_WARE_HIT
  ⟨0x0580018, 1, 8, 0, [count 47 0]⟩,                      -- WQ_WARE_MISS
  ⟨0x0580020, 1, 8, 0, [count 63 32, count 31 0]⟩,         -- WQ_WARE_DROP
  ⟨0x0580028, 1, 8, 0, [count 31 0]⟩,                      -- WQ_WARE_PF_END
  ⟨0x0580030, 1, 8, 0, [rw 7 0]⟩,                          -- WQ_WARE_PF_SEL
  ⟨0x0580038, 1, 8, 0, [ro 63 0]⟩ ]                        -- WQ_WARE_PF_STATE

def regsCoh : List Reg := [
  ⟨0x0400000, 1, 8, 0x640028, [rwlIn 31 16 10 10000, rwlIn 15 0 10 10000]⟩, -- WQ_COH_CTRL
  ⟨0x0400008, 1, 8, 0, [ro 63 0]⟩,                         -- WQ_COH_STATUS
  ⟨0x0400010, 1, 8, 0, [rw 5 0]⟩,                          -- WQ_COH_WIN_SEL
  ⟨0x0400018, 1, 8, 0, [⟨63, 62, .rw, none, [3]⟩, rw 61 59, rw 55 50, rw 19 0]⟩, -- WQ_COH_WIN_CFG
  ⟨0x0400020, 1, 8, 0, [rw 63 21]⟩,                        -- WQ_COH_WIN_BASE
  ⟨0x0400028, 1, 8, 0, [rw 40 21]⟩,                        -- WQ_COH_WIN_SIZE
  ⟨0x0400030, 1, 8, 0, [ro 11 8, w1c 5, w1c 4, ro 3 2, w1s 1, w1s 0]⟩, -- WQ_COH_WIN_CTRL
  ⟨0x0400038, 1, 8, 0, [record 39 32, count 31 0]⟩,        -- WQ_COH_DEAD_AGENT
  ⟨0x0400040, 1, 8, 0, [count 63 32, count 31 0]⟩,         -- WQ_COH_RETRY
  ⟨0x0400048, 1, 8, 0, [count 31 0]⟩,                      -- WQ_COH_AGED
  ⟨0x0400050, 1, 8, 0, [count 63 32, count 31 0]⟩,         -- WQ_COH_BI_COUNT
  ⟨0x0400058, 1, 8, 0, [ro 63 0]⟩,                         -- WQ_COH_HRD_USE
  ⟨0x0400060, 1, 8, 0, [count 63 32, count 31 0]⟩,         -- WQ_COH_HOST_SNOOP
  ⟨0x0400100, 1, 8, 0, [rw 2 0]⟩,                          -- WQ_COH_ADMIT_SEL
  ⟨0x0400108, 1, 8, 0, [ro 63 0]⟩ ]                        -- WQ_COH_ADMIT_STATE

def regsFab : List Reg := [
  ⟨0x0500000, 1, 8, 0x40A0064, [rwlIn 27 24 1 15, rwlIn 23 16 2 255, rwlIn 15 0 10 10000]⟩, -- WQ_FAB_CTRL
  ⟨0x0500008, 1, 8, 0, [ro 63 0]⟩,                         -- WQ_FAB_STATUS
  ⟨0x0500010, 1, 8, 0, [ro 63 0]⟩,                         -- WQ_FAB_JOIN_ERR
  ⟨0x0500018, 1, 8, 0, [rw 8 4, rw 3 0]⟩,                  -- WQ_FAB_PORT_SEL
  ⟨0x0500020, 1, 8, 0, [ro 63 0]⟩,                         -- WQ_FAB_PORT_STATE
  ⟨0x0500028, 1, 8, 0, [ro 63 0]⟩,                         -- WQ_FAB_LANE_HEALTH
  ⟨0x0500030, 1, 8, 0x2EE0FC1800000405, [rwl 63 48, rwl 47 32, rwl 15 8, rwl 7 0]⟩, -- WQ_FAB_THRESH
  ⟨0x0500038, 1, 8, 0, [rw 12 0]⟩,                         -- WQ_FAB_GRANT_SEL
  ⟨0x0500040, 1, 8, 0, [rw 63 63, rw 62 62, rw 61 61, rw 60 60, rw 51 40, rw 39 20, rw 19 0]⟩, -- WQ_FAB_GRANT
  ⟨0x0500048, 1, 8, 0, [count 63 32, count 31 0]⟩,         -- WQ_FAB_REFUSE
  ⟨0x0500050, 1, 8, 0, [count 63 32, count 31 0]⟩,         -- WQ_FAB_TIMEOUT
  ⟨0x0500058, 1, 8, 0, [ro 63 0]⟩,                         -- WQ_FAB_UNREACH
  ⟨0x0500060, 1, 8, 0, [count 63 32, count 31 0]⟩ ]        -- WQ_FAB_LANE_SWAP

def regsHst : List Reg := [
  ⟨0x0600000, 1, 8, 0, [ro 63 0]⟩,                         -- WQ_HST_FUNC_ID
  ⟨0x0600008, 1, 8, 0, [ro 63 0]⟩,                         -- WQ_HST_BOND_ID
  ⟨0x0600010, 1, 8, 1, [flag 8, rw 3 1, ro 0 0]⟩,          -- WQ_HST_BOND
  ⟨0x0600020, 4, 8, 0, [rwl 47 32, rwl 31 31, rwl 15 0]⟩,  -- WQ_HST_HOST_RID_n
  ⟨0x0600040, 4, 8, 0, [rw 40 30]⟩,                        -- WQ_HST_MW_BASE_n
  ⟨0x0600060, 1, 8, 0, [count 63 32, count 31 0]⟩,         -- WQ_HST_MW_DENY
  ⟨0x0600068, 1, 8, 0, [count 63 32, count 31 0]⟩,         -- WQ_HST_PEER_DROP
  ⟨0x0600070, 1, 8, 0, [ro 63 0]⟩,                         -- WQ_HST_REGION_COUNT
  ⟨0x0600078, 1, 8, 0x1000A, [rwl 32 32, rwlIn 31 16 1 65535, rwlIn 15 0 1 1000]⟩, -- WQ_HST_PTM_CTRL
  ⟨0x0600080, 1, 8, 0, [ro 63 0]⟩,                         -- WQ_HST_PTM_STATUS
  ⟨0x0600088, 1, 8, 0, [ro 63 0]⟩,                         -- WQ_HST_PTM_OFFSET
  ⟨0x0600090, 1, 8, 0x64000A0003, [rwlIn 47 32 10 65535, rwlIn 31 16 1 65535, rwl 1 1, rwl 0 0]⟩, -- WQ_HST_LP_CTRL
  ⟨0x0600098, 2, 8, 0, [count 63 32, count 31 0]⟩ ]        -- WQ_HST_LP_RESID_p

def regsPart : List Reg := [
  ⟨0x0700000, 1, 8, 0, [rw 5 0]⟩,                          -- WQ_PART_SEL
  ⟨0x0700008, 1, 8, 0x10004000, [ro 63 0]⟩,                -- WQ_PART_CFG
  ⟨0x0700010, 1, 8, 0, [ro 63 0]⟩,                         -- WQ_PART_MEM_BASE
  ⟨0x0700018, 1, 8, 0, [ro 63 0]⟩,                         -- WQ_PART_MEM_SIZE
  ⟨0x0700020, 1, 8, 0, [ro 63 0]⟩,                         -- WQ_PART_USE
  ⟨0x0700028, 1, 8, 0, [ro 63 0]⟩,                         -- WQ_PART_STATE
  ⟨0x0700030, 1, 8, 0, [count 63 32, count 31 0]⟩,         -- WQ_PART_FLR_COUNT
  ⟨0x0700100, 1, 8, 0, [rw 13 8, rw 6 4, rw 3 0]⟩,         -- WQ_QOS_SEL
  ⟨0x0700108, 1, 8, 0, [ro 63 0]⟩,                         -- WQ_QOS_BUCKET
  ⟨0x0700110, 1, 8, 0x30D400010, [ro 63 0]⟩,               -- WQ_QOS_CLASS
  ⟨0x0700118, 1, 8, 0, [ro 63 0]⟩,                         -- WQ_QOS_REFILL
  ⟨0x0700120, 1, 8, 0, [ro 63 0]⟩,                         -- WQ_QOS_POOL
  ⟨0x0700128, 1, 8, 0, [ro 63 0]⟩,                         -- WQ_QOS_STRICT_SUM
  ⟨0x0700200, 1, 8, 0, [rw 21 16, rw 10 0]⟩,               -- WQ_PART_VEC_SEL
  ⟨0x0700208, 1, 8, 0x100, [rw 25 16, ⟨15, 8, .rw, some (1, 255), []⟩]⟩, -- WQ_PART_VEC_MOD
  ⟨0x0700210, 1, 8, 0, [ro 63 0]⟩ ]                        -- WQ_PART_VEC_PEND

def regsSec : List Reg := [
  ⟨0x0800000, 1, 8, 0, [ro 63 0]⟩,                         -- WQ_SEC_STATUS
  ⟨0x0800008, 1, 8, 0, [wo 0 0]⟩,                          -- WQ_SEC_DEBUG_CTRL
  ⟨0x0800010, 1, 8, 0, [ro 63 0]⟩,                         -- WQ_SEC_SESSIONS
  ⟨0x0800018, 1, 8, 0, [rw 20 20, rw 19 0]⟩,               -- WQ_SEC_KEY_SEL
  ⟨0x0800020, 1, 8, 0, [ro 63 0]⟩,                         -- WQ_SEC_KEY_STATE
  ⟨0x0800028, 1, 8, 0, [ro 63 0]⟩,                         -- WQ_SEC_KEY_PAGES
  ⟨0x0800030, 1, 8, 0, [ro 63 0]⟩,                         -- WQ_SEC_SWEEP
  ⟨0x0800038, 1, 8, 0, [count 63 32, count 31 0]⟩,         -- WQ_SEC_TAG_FAIL
  ⟨0x0800040, 1, 8, 0, [count 31 0]⟩,                      -- WQ_SEC_STALE
  ⟨0x0800048, 1, 8, 0, [ro 63 0]⟩ ]                        -- WQ_SEC_SEALED

/-- N and T of Table 16-3 for kind range r, as WQ_ERR_CLASS_r holds them. -/
def classReset (r : Nat) : Nat :=
  if r = 0 ∨ r = 1 ∨ r = 5 then 1000 * 2 ^ 32 + 16
  else if r = 2 ∨ r = 8 then 1000 * 2 ^ 32 + 8
  else if r = 3 then 1000 * 2 ^ 32 + 64
  else if r = 4 then 1000 * 2 ^ 32 + 32
  else if r = 6 then 3600000 * 2 ^ 32 + 32
  else if r = 7 then 0
  else 1000 * 2 ^ 32 + 4

def infoFlds : List Fld := [record 45 42, record 41 26, record 25 23, record 22 15, record 11 0]

def regsErr : List Reg := [
  ⟨0x0900000, 1, 8, 0x10200, [rwl 16 16, rwl 10 8, rwl 0 0]⟩, -- WQ_ERR_CTRL
  ⟨0x0900008, 1, 8, 0, infoFlds⟩,                          -- WQ_ERR_FIRST_INFO
  ⟨0x0900010, 1, 8, 0, [flag 63, record 57 0]⟩,            -- WQ_ERR_FIRST_ADDR
  ⟨0x0900018, 1, 8, 0, [record 63 0]⟩,                     -- WQ_ERR_FIRST_TIME
  ⟨0x0900020, 1, 8, 0, [record 47 40, record 34 32, record 15 0]⟩, -- WQ_ERR_FIRST_MERGE
  ⟨0x0900028, 1, 8, 0, flag 63 :: infoFlds⟩,               -- WQ_ERR_FATAL_INFO
  ⟨0x0900030, 1, 8, 0, [record 57 0]⟩,                     -- WQ_ERR_FATAL_ADDR
  ⟨0x0900038, 1, 8, 0, [record 63 0]⟩,                     -- WQ_ERR_FATAL_TIME
  ⟨0x0900040, 1, 8, 0, [flag 7, flag 6, flag 5, flag 4, flag 3, flag 2, flag 1, flag 0]⟩, -- WQ_ALERT_CAUSE
  ⟨0x0900048, 1, 8, 0xFF, [rwl 7 0]⟩,                      -- WQ_ALERT_EN
  ⟨0x0900050, 1, 8, 0, [rw 16 16, rw 10 0]⟩,               -- WQ_ERR_IRQ
  ⟨0x0900058, 1, 8, 0, [count 59 50, count 49 40, count 39 30, count 29 20, count 19 10, count 9 0]⟩, -- WQ_ERR_SEV_COUNT
  ⟨0x0900060, 1, 8, 0, [rw 8 0]⟩,                          -- WQ_ERR_LOG_SEL
  ⟨0x0900068, 1, 8, 0, [ro 63 0]⟩,                         -- WQ_ERR_LOG_LO
  ⟨0x0900070, 1, 8, 0, [ro 63 0]⟩,                         -- WQ_ERR_LOG_HI
  ⟨0x0900078, 1, 8, 0, [ro 63 0]⟩,                         -- WQ_ERR_LOG_TIME
  ⟨0x0900080, 1, 8, 0, [count 47 32, ro 8 0]⟩,             -- WQ_ERR_LOG_STATUS
  ⟨0x0900100, 1, 8, classReset 0, [rwl 63 32, rwl 15 0]⟩,  -- WQ_ERR_CLASS_r
  ⟨0x0900108, 1, 8, classReset 1, [rwl 63 32, rwl 15 0]⟩,
  ⟨0x0900110, 1, 8, classReset 2, [rwl 63 32, rwl 15 0]⟩,
  ⟨0x0900118, 1, 8, classReset 3, [rwl 63 32, rwl 15 0]⟩,
  ⟨0x0900120, 1, 8, classReset 4, [rwl 63 32, rwl 15 0]⟩,
  ⟨0x0900128, 1, 8, classReset 5, [rwl 63 32, rwl 15 0]⟩,
  ⟨0x0900130, 1, 8, classReset 6, [rwl 63 32, rwl 15 0]⟩,
  ⟨0x0900138, 1, 8, classReset 7, [rwl 63 32, rwl 15 0]⟩,
  ⟨0x0900140, 1, 8, classReset 8, [rwl 63 32, rwl 15 0]⟩,
  ⟨0x0900148, 1, 8, classReset 9, [rwl 63 32, rwl 15 0]⟩,
  ⟨0x0900150, 1, 8, classReset 10, [rwl 63 32, rwl 15 0]⟩,
  ⟨0x0900200, 1, 8, 0, [rw 7 0]⟩,                          -- WQ_ERR_SRC_SEL
  ⟨0x0900208, 1, 8, 0, [flag 63, ro 59 48, ro 47 44, ro 31 0]⟩, -- WQ_ERR_SRC_STATE
  ⟨0x0900300, 14, 8, 0, [flag 63, count 31 0]⟩,            -- WQ_ERR_DROP_n
  ⟨0x0900400, 1, 8, 0, [rwl 63 32, rwl 7 0]⟩,              -- WQ_ERR_PART_CTRL
  ⟨0x0900408, 1, 8, 0, [rw 5 0]⟩,                          -- WQ_ERR_PART_SEL
  ⟨0x0900410, 1, 8, 0, [flag 63, record 62 60, record 59 44, record 41 34, record 33 22, record 21 18]⟩, -- WQ_ERR_PART_REC
  ⟨0x0900418, 1, 8, 0, [record 57 0]⟩,                     -- WQ_ERR_PART_ADDR
  ⟨0x0900500, 1, 8, 0, [wo 30 28, wo 27 16, wo 15 8, wo 3 0]⟩ ] -- WQ_ERR_INJECT

def regsPwr : List Reg := [
  ⟨0x0A00000, 1, 8, 0, [flag 15, flag 14, flag 13, flag 12, ro 4 1]⟩, -- WQ_PWR_STATUS
  ⟨0x0A00008, 1, 8, 0x6401000001, [rwlIn 47 32 10 65535, rwlIn 25 16 16 1023, rwl 1 1, rwl 0 0]⟩, -- WQ_PWR_CTRL
  ⟨0x0A00010, 1, 8, 0, [ro 63 0]⟩,                         -- WQ_PWR_VIN
  ⟨0x0A00018, 1, 8, 0, [ro 63 0]⟩,                         -- WQ_PWR_IIN
  ⟨0x0A00020, 1, 8, 0, [count 63 32, count 31 0]⟩,         -- WQ_PWR_SUP_ERR
  ⟨0x0A00028, 1, 8, 0, [count 63 32, count 31 0]⟩,         -- WQ_PWR_LOADSTEP
  ⟨0x0A00030, 1, 8, 0, [count 63 32, count 31 0]⟩,         -- WQ_PWR_HOLD
  ⟨0x0A00038, 1, 8, 1, [flag 8, flag 7, flag 6, flag 5, flag 4, flag 3, flag 2, flag 0]⟩, -- WQ_PWR_RESET_CAUSE
  ⟨0x0A00040, 1, 8, 0, [rw 5 0]⟩,                          -- WQ_PWR_DOMAIN_SEL
  ⟨0x0A00048, 1, 8, 2, [ro 63 0]⟩,                         -- WQ_PWR_DOMAIN_STATE
  ⟨0x0A00050, 1, 8, 0, [ro 63 0]⟩,                         -- WQ_PWR_ISLAND_STATE
  ⟨0x0A00058, 1, 8, 0, [ro 63 0]⟩,                         -- WQ_PWR_THERMAL
  ⟨0x0A00060, 1, 8, 0x6E69, [rwlIn 15 8 90 110, rwlIn 7 0 80 105]⟩, -- WQ_PWR_THERMAL_CTRL
  ⟨0x0A00068, 1, 8, 0, [count 63 32, count 31 0]⟩,         -- WQ_PWR_DEEP_IDLE
  ⟨0x0A10000, 1, 8, 0, [rw 6 0]⟩,                          -- WQ_CONE_SEL
  ⟨0x0A10008, 1, 8, 0, [ro 63 0]⟩,                         -- WQ_CONE_STATUS
  ⟨0x0A20000, 1, 8, 0x16800060A00, [rwlIn 47 32 60 1440, rwlIn 23 16 1 32, rwlIn 15 8 0 50]⟩, -- WQ_MGN_CTRL
  ⟨0x0A20008, 1, 8, 0, [rw 3 0]⟩,                          -- WQ_MGN_SEL
  ⟨0x0A20010, 1, 8, 0, [ro 63 0]⟩,                         -- WQ_MGN_ISLAND
  ⟨0x0A20018, 1, 8, 0, [ro 63 0]⟩,                         -- WQ_MGN_WEAR
  ⟨0x0A20020, 1, 8, 0, [ro 63 0]⟩,                         -- WQ_MGN_LAST
  ⟨0x0A20028, 1, 8, 0, [ro 63 0]⟩,                         -- WQ_MGN_REPAIR
  ⟨0x0C00000, 1, 8, 0, [ro 63 0]⟩,                         -- WQ_JNL_HEAD
  ⟨0x0C00008, 1, 8, 0, [ro 63 0]⟩,                         -- WQ_JNL_OLDEST
  ⟨0x0C00010, 1, 8, 0, [count 31 0]⟩,                      -- WQ_JNL_LOST
  ⟨0x0C00100, 1, 8, 0, [rw 63 0]⟩,                         -- WQ_JNL_READ_SEQ
  ⟨0x0C00108, 8, 8, 0, [ro 63 0]⟩ ]                        -- WQ_JNL_ENTRY_k

/-- One monitor group's registers (Table 19-5); their meaning is in the performance-monitor file. -/
def regsPmcGroup (g : Nat) : List Reg := [
  ⟨0x0B00000 + 0x100 * g, 1, 8, 0, [rw 30 30, rw 29 24, rw 22 22, rw 21 16, rw 11 8, rw 0 0]⟩,
  ⟨0x0B00008 + 0x100 * g, 1, 8, 0, [rw 47 0]⟩,
  ⟨0x0B00010 + 0x100 * g, 1, 8, 0, [w1c 8, w1c 7, w1c 6, w1c 5, w1c 4, w1c 3, w1c 2, w1c 1, w1c 0]⟩,
  ⟨0x0B00040 + 0x100 * g, 8, 8, 0, [rw 15 15, rw 14 8, rw 7 0]⟩,
  ⟨0x0B00080 + 0x100 * g, 8, 8, 0, [ro 63 48, rw 47 0]⟩ ]

/-- Every register of a half's Control Window outside the capability table, MSI-X tables and user read pages (R494). -/
def regMap : List Reg :=
  regsGlobal ++ regsCmd ++ regsXlt ++ regsDma ++ regsXfm ++ regsCoh ++ regsFab ++ regsHst ++ regsPart ++ regsSec ++
  regsErr ++ regsPwr ++ (List.range 12).flatMap regsPmcGroup

/-- The register at an offset, if one is listed (R494). -/
def regAt (off : Nat) : Option Reg :=
  regMap.find? (fun r => decide (r.off ≤ off) && decide (off < r.off + r.n * r.stride) && (off - r.off) % r.stride == 0)

/-- The whole-register reset value at an offset; 0 where none is listed (R494). -/
def resetValue (off : Nat) : W64 :=
  match regAt off with
  | some r => BitVec.ofNat 64 r.reset
  | none => 0

/-- Selector registers held in two banks (R497). -/
def selectorOffs : List Nat :=
  [0x0030028, 0x0030040, 0x0100020, 0x0200020, 0x0300020, 0x0580030, 0x0400010, 0x0400100, 0x0500018, 0x0500038,
   0x0700000, 0x0700100, 0x0700200, 0x0800018, 0x0900060, 0x0900200, 0x0900408, 0x0A00040, 0x0A10000, 0x0A20008, 0x0C00100]

/-- Registers that act on the pair (R496). -/
def pairWide (off : Nat) : Bool :=
  off == 0x0010008 || (decide (0x0030040 ≤ off) && decide (off ≤ 0x0030068)) ||
  off == 0x0100018 || off == 0x0100020 || off == 0x0100028 || off == 0x0300108 ||
  (decide (0x0400010 ≤ off) && decide (off ≤ 0x0400030)) ||
  off == 0x0500008 || off == 0x0500038 || off == 0x0500040 || off == 0x0500058 ||
  off == 0x0600010 || (decide (0x0600020 ≤ off) && decide (off ≤ 0x0600038)) || off == 0x0600070 ||
  (decide (0x0700000 ≤ off) && decide (off ≤ 0x0700030)) || (decide (0x0700200 ≤ off) && decide (off ≤ 0x0700210)) ||
  (decide (0x0800018 ≤ off) && decide (off ≤ 0x0800028)) || off == 0x0800048

/-- One field's value after a write of `w` to a field that holds `old`, with WQ_LOCK read as `lock` (R13, R14, R502). -/
def fldWrite (f : Fld) (lock : Bool) (old w : Nat) : Nat :=
  let held := match f.lim with
    | some (a, b) => clampTo a b w
    | none => w
  match f.acc with
  | .ro | .wo | .record => old
  | .rw => if f.resv.contains w then old else held
  | .rwl => if lock || f.resv.contains w then old else held
  | .rw1c | .flag => if w % 2 = 1 then 0 else old
  | .rw1s => if w % 2 = 1 then 1 else old
  | .count => w

/-- A register's value after a write that reaches bits [hi:lo] only where a whole field lies in the written half (R12). -/
def regWrite (fs : List Fld) (lock : Bool) (mask : Nat) (old : W64) (w : W64) : W64 :=
  fs.foldl (fun v f =>
    let ones := (2 ^ (f.hi + 1 - f.lo) - 1) * 2 ^ f.lo
    if Nat.land ones mask = 0 then v
    else
      let merged := Nat.lor (Nat.land w.toNat mask) (old.toNat - Nat.land old.toNat mask)
      let w' := match f.acc with
        | .rw1c | .rw1s | .flag => Nat.land w.toNat mask
        | _ => merged
      putFld v f.hi f.lo (fldWrite f lock (fld old f.hi f.lo) (bits w' f.hi f.lo))) old

end Sys2Proof.Machine
end

