-- ==== Sys2Proof/Machine/Ops.lean ====
section
/-! DEFINITION. The operations every meaning is built from: reading and writing halves, registers, counts, pair-wide objects
and the trace of what the block sends; journal entries; coded messages into an island's error queue. -/
namespace Sys2Proof.Machine


/-- Block time of a half. -/
def Clk.now (c : Clk) : HalfId → Nat
  | .A => c.a.time
  | .B => c.b.time

/-- Block time of a half steps forward to a count, never back (R501). -/
def Clk.stepTo (c : Clk) (h : HalfId) (time : Nat) : Clk :=
  match h with
  | .A => { c with a := { c.a with time := max c.a.time time } }
  | .B => { c with b := { c.b with time := max c.b.time time } }

/-- One half. -/
def Blk.half (b : Blk) : HalfId → Half
  | .A => b.a
  | .B => b.b

/-- Rewrite one half. -/
def Blk.upd (b : Blk) (h : HalfId) (f : Half → Half) : Blk :=
  match h with
  | .A => { b with a := f b.a }
  | .B => { b with b := f b.b }

/-- Append to the trace of what the block sends. -/
def Blk.emit (b : Blk) (o : Output) : Blk := { b with out := o :: b.out }

/-- The two halves work as a pair: both PAIRED, and neither has declared the other silent (R61, R63, R496). -/
def Blk.linked (b : Blk) : Bool :=
  b.a.tdm.st == .paired && b.b.tdm.st == .paired && b.a.tdm.silentAt.isNone && b.b.tdm.silentAt.isNone

/-- Rewrite pair-wide objects: the copy of the half that applies the change, and its partner's while the pair is linked. -/
def Blk.updObj (b : Blk) (h : HalfId) (f : Obj → Obj) : Blk :=
  let b1 := b.upd h (fun x => { x with obj := f x.obj })
  if b.linked then b1.upd h.other (fun x => { x with obj := f x.obj }) else b1

/-- Rewrite one half, and its partner too while the pair is linked (pair-wide registers, R496). -/
def Blk.updPair (b : Blk) (h : HalfId) (f : Half → Half) : Blk :=
  if b.linked then (b.upd h f).upd h.other f else b.upd h f

/-- A register as stored (R494: its reset value until written). -/
def Half.reg (x : Half) (off : Nat) : W64 := (Tab.look x.regs off).getD (resetValue off)

/-- Store a register; a register at its reset value is not listed. -/
def Half.setReg (x : Half) (off : Nat) (v : W64) : Half :=
  { x with regs := if v = resetValue off then Tab.del x.regs off else Tab.put x.regs off v }

/-- Field [hi:lo] of a stored register. -/
def Half.regFld (x : Half) (off hi lo : Nat) : Nat := fld (x.reg off) hi lo

/-- Store field [hi:lo] of a register. -/
def Half.setFld (x : Half) (off hi lo v : Nat) : Half := x.setReg off (putFld (x.reg off) hi lo v)

/-- Add to a count field; a count wraps at its width where the manual states no saturation (DEDUCED, log entry 7). -/
def Half.bump (x : Half) (off hi lo n : Nat) : Half := x.setFld off hi lo (x.regFld off hi lo + n)

/-- Add to a count field that saturates at its largest value. -/
def Half.bumpSat (x : Half) (off hi lo n : Nat) : Half :=
  x.setFld off hi lo (min (2 ^ (hi + 1 - lo) - 1) (x.regFld off hi lo + n))

/-- Set a one-bit field. -/
def Half.setBit (x : Half) (off i : Nat) : Half := x.setFld off i i 1

/-- The origin a register access is journalled with (Table 18-8). -/
def Via.origin : Via → Origin
  | .fn port part _ => ⟨2, port * 256 + part⟩
  | .mctp e => ⟨4, e⟩

/-- Firmware as the origin of a change. -/
def fwOrigin : Origin := ⟨5, 0⟩
/-- The margin planner as the origin of a change. -/
def mgnOrigin : Origin := ⟨6, 0⟩

/-- Write one journal entry (R474): the next sequence number, block time, origin, class, object, old and new value. The
on-chip journal keeps 16,384 entries (R475). -/
def Half.journal (x : Half) (t : Nat) (o : Origin) (cls object old new : Nat) : Half :=
  let e : JEntry := ⟨x.jnl.head, t, o.code, cls, o.id, object, old, new⟩
  { x with jnl := { x.jnl with head := x.jnl.head + 1, chip := (e :: x.jnl.chip).take 16384 } }

/-- A coded message of one island and unit of a half (R25, Table 16-1). -/
def mkErr (x : Half) (island unit kind sev : Nat) (access : Nat := 0) (addr : Nat := 0) (part : Option Nat := none)
    (agent : Nat := 0) : ErrMsg :=
  { sev := sev, source := x.id.num * 2 ^ 11 + island * 2 ^ 7 + unit, kind := kind, access := access,
    partValid := part.isSome, part := part.getD 0, agent := agent, addr := addr % 2 ^ 58 }

/-- Entries of an error queue that a low-severity message may not take: the two reserved ones, less the CONTAINED or higher
messages that sit in them (R26; DEDUCED, log entry 8). -/
def lowFree (q : List ErrMsg) : Bool :=
  let hi := (q.filter (fun m => decide (3 ≤ m.sev))).length
  decide (q.length - min hi 2 < 6)

/-- A message enters an island's error queue, or stalls its unit (R26); none where a low severity finds no free unreserved entry. -/
def ErrUnit.enter (e : ErrUnit) (island : Nat) (m : ErrMsg) : Option ErrUnit :=
  let q := Tab.dflt e.queues island []
  let wait := Tab.dflt e.stalled island []
  let queued : ErrUnit := { e with queues := Tab.put e.queues island (q ++ [m]) }
  if 3 ≤ m.sev then
    some (if q.length < 8 ∧ wait.isEmpty then queued else { e with stalled := Tab.put e.stalled island (wait ++ [m]) })
  else if lowFree q ∧ q.length < 8 then some queued
  else none

/-- An island raises a message (R26): it enters the error queue; a low severity without a free unreserved entry is dropped and
counted; a CONTAINED or higher message without a free entry stalls its unit until one frees. -/
def Half.raise (x : Half) (island : Nat) (m : ErrMsg) : Half :=
  match x.err.enter island m with
  | some e => { x with err := e }
  | none => (x.bump (0x0900300 + 8 * island) 31 0 1).setBit (0x0900300 + 8 * island) 63

/-- Raise a message built from its parts. -/
def Half.raiseErr (x : Half) (island unit kind sev : Nat) (access : Nat := 0) (addr : Nat := 0) (part : Option Nat := none)
    (agent : Nat := 0) : Half :=
  x.raise island (mkErr x island unit kind sev access addr part agent)

/-- A unit is stalled by a message of its own that waits for an error-queue entry (R26). -/
def Half.stalledBy (x : Half) (island unit agent : Nat) : Bool :=
  (Tab.dflt x.err.stalled island []).any (fun m => m.source % 128 == unit && m.agent == agent)

/-- The island of a half. -/
def Half.island (x : Half) (i : Nat) : Island := Tab.dflt x.isl i {}
/-- Rewrite one island. -/
def Half.updIsland (x : Half) (i : Nat) (f : Island → Island) : Half := { x with isl := Tab.upd x.isl i {} f }
/-- A transform quad of a half. -/
def Half.quad (x : Half) (q : Nat) : Quad := Tab.dflt x.quads q {}
/-- Rewrite one quad. -/
def Half.updQuad (x : Half) (q : Nat) (f : Quad → Quad) : Half := { x with quads := Tab.upd x.quads q {} f }
/-- A logical host port of a half. -/
def Half.port (x : Half) (p : Nat) : HostPort := Tab.dflt x.ports p {}
/-- Rewrite one logical host port. -/
def Half.updPort (x : Half) (p : Nat) (f : HostPort → HostPort) : Half := { x with ports := Tab.upd x.ports p {} f }
/-- A function of a half's logical port. -/
def Half.fn (x : Half) (p vf : Nat) : Fn := Tab.dflt x.fns (p * 64 + vf) {}
/-- Rewrite one function. -/
def Half.updFn (x : Half) (p vf : Nat) (f : Fn → Fn) : Half := { x with fns := Tab.upd x.fns (p * 64 + vf) {} f }

/-- A pair port's host port. -/
def Blk.hport (b : Blk) (pp : Nat) : HostPort := (b.half (HalfId.ofPort pp)).port (pp % 2)
/-- Rewrite a pair port's host port. -/
def Blk.updHport (b : Blk) (pp : Nat) (f : HostPort → HostPort) : Blk :=
  b.upd (HalfId.ofPort pp) (fun x => x.updPort (pp % 2) f)

/-- A context, a queue, a partition of a half's copy. -/
def Half.ctx? (x : Half) (c : Nat) : Option Ctx := Tab.look x.obj.ctxs c
def Half.queue (x : Half) (q : Nat) : Queue := Tab.dflt x.obj.queues q {}
def Half.part (x : Half) (p : Nat) : Part := Tab.dflt x.obj.parts p {}

/-- Rewrite one context, queue or partition pair-wide. -/
def Blk.updCtx (b : Blk) (h : HalfId) (c : Nat) (f : Ctx → Ctx) : Blk :=
  b.updObj h (fun o => { o with ctxs := Tab.modify o.ctxs c f })
def Blk.updQueue (b : Blk) (h : HalfId) (q : Nat) (f : Queue → Queue) : Blk :=
  b.updObj h (fun o => { o with queues := Tab.modify o.queues q f })
def Blk.updPart (b : Blk) (h : HalfId) (p : Nat) (f : Part → Part) : Blk :=
  b.updObj h (fun o => { o with parts := Tab.upd o.parts p {} f })

/-- The half that carries the admin queue (R91, R69): half A, or half B while it is acting primary, and a half without its
partner carries its own. -/
def Blk.adminHalf (b : Blk) : HalfId :=
  if b.b.tdm.actingPrimary then .B else .A

/-- The admin queue's ring port as a pair port (R91, R442): port 0 of half A, or of the half that carries its own device. -/
def Blk.adminPort (b : Blk) (h : HalfId) : Nat :=
  if (b.half h).tdm.st = .unpaired ∨ (b.half h).tdm.st = .solo then h.num * 2 else b.adminHalf.num * 2

/-- A half can send on the Tandem link: its PHY is up and it is out of reset (R42). -/
def Half.linkUp (x : Half) : Bool := x.pins.tdmPhyUp && !x.boot.inReset && !x.tdm.stopped

/-- Send a Tandem frame; while TDM_PHY_UP is low the block sends none (R42). -/
def Blk.sendFrame (b : Blk) (h : HalfId) (f : TdmFrame) : Blk :=
  if (b.half h).linkUp then b.emit (.tandem h f) else b

/-- Send an XREQ with the next tag, which waits for its XRSP (R55). -/
def Blk.sendXreq (b : Blk) (h : HalfId) (r : XReq) : Blk :=
  if (b.half h).linkUp then
    let tag := (b.half h).tdm.xreqTag
    (b.emit (.tandem h (.xreq tag r))).upd h (fun x => { x with tdm := { x.tdm with xreqTag := tag + 1, xreqOut := x.tdm.xreqOut ++ [tag] } })
  else b

/-- Send one mirror record to the partner (R61): while PAIRED, a MIRROR with the next sequence number. -/
def Blk.mirror (b : Blk) (h : HalfId) (r : MirrorRec) : Blk :=
  if (b.half h).tdm.st = .paired then
    let seq := (b.half h).tdm.mirSeq
    (b.emit (.tandem h (.mirror seq r))).upd h (fun x =>
      { x with tdm := { x.tdm with mirSeq := seq + 1, mirUnacked := x.tdm.mirUnacked ++ [seq] } })
  else b

/-- The sequence number a mirror record sent now would carry, while PAIRED (R62). -/
def Blk.mirrorSeq (b : Blk) (h : HalfId) : Option Nat :=
  if (b.half h).tdm.st = .paired then some (b.half h).tdm.mirSeq else none

/-- ALERT_N follows WQ_ALERT_CAUSE and WQ_ALERT_EN; each assertion raises an in-band interrupt whose byte is the code of the
highest-priority set and enabled cause (R438, R46). -/
def Blk.alertUpdate (b : Blk) (h : HalfId) : Blk :=
  let x := b.half h
  let live := Nat.land (x.reg 0x0900040).toNat (Nat.land (x.reg 0x0900048).toNat 0xFF)
  let code := match (List.range 8).find? (fun i => live.testBit i) with
    | some i => i + 1
    | none => 0
  if live ≠ 0 ∧ ¬ x.err.alertLow then
    ((b.upd h (fun y => { y with err := { y.err with alertLow := true } })).emit (.alert h true)).emit (.ibi h code)
  else if live = 0 ∧ x.err.alertLow then
    (b.upd h (fun y => { y with err := { y.err with alertLow := false } })).emit (.alert h false)
  else b

/-- Set an alert cause (Table 16-5). -/
def Blk.alertCause (b : Blk) (h : HalfId) (i : Nat) : Blk := (b.upd h (fun x => x.setBit 0x0900040 i)).alertUpdate h

/-- Draw a fresh free value's index. -/
def Blk.draw (b : Blk) : Blk × Nat := ({ b with free := b.free + 1 }, b.free)

end Sys2Proof.Machine
end

