-- ==== Sys2Proof/Machine/Lines.lean ====
section
/-! DEFINITION. Generations and lines of the Ware board (R278 to R281, R284), apart from what fills them. -/
namespace Sys2Proof.Machine

/-- GEN and EPOCH of a context on a half. -/
def Half.gens (x : Half) (c : Nat) : Nat × Nat := Tab.dflt x.ware.gens c (0, 0)

/-- A context may advance its generations once more within this scrub pass (R281). -/
def Half.mayAdvance (x : Half) (c : Nat) : Bool := decide (Tab.dflt x.ware.adv c 0 < 32768)

/-- Advance GEN, and EPOCH too for an invalidation, loss or destruction (R280). -/
def Half.advance (x : Half) (c : Nat) (epoch : Bool) : Half :=
  let g := x.gens c
  let w : WareUnit := { x.ware with
    gens := Tab.put x.ware.gens c ((g.1 + 1) % 65536, if epoch then (g.2 + 1) % 65536 else g.2)
    adv := Tab.put x.ware.adv c (Tab.dflt x.ware.adv c 0 + 1) }
  ({ x with ware := w } : Half).bump 0x0580020 31 0 1

/-- A line still serves its context: its generation is the context's GEN, or EPOCH for a STABLE line (R279). -/
def Half.lineLive (x : Half) (l : WLine) : Bool :=
  let g := x.gens l.ctx
  l.gen == (if l.stable then g.2 else g.1)

/-- WQ_WARE_CTRL.ENABLE with a bank in service. -/
def Half.wareOn (x : Half) : Bool := bitAt (x.reg 0x0580000).toNat 0 && x.ware.banks != 0

/-- The line of a context at a line-aligned fabric address, if it hits (R279). -/
def Half.lineAt (x : Half) (c addr : Nat) : Option WLine :=
  if x.wareOn then x.ware.lines.find? (fun l => l.addr == addr && l.ctx == c && x.lineLive l) else none

/-- A hit: a prefetched line loses its mark and becomes least recent, a demand line becomes most recent (R284). -/
def Half.lineHit (x : Half) (l : WLine) : Half :=
  let rest := x.ware.lines.erase l
  let ls := if l.prefetched then rest ++ [{ l with prefetched := false }] else l :: rest
  ({ x with ware := { x.ware with lines := ls } } : Half).bump 0x0580010 47 0 1

/-- Bank and set of a line address (R278): six banks of 2,048 sets of 16 ways. -/
def lineSet (addr : Nat) : Nat × Nat := (addr / 256 % 6, addr / 256 / 6 % 2048)

/-- Install a line as most recent; a full set loses its least recent line (R284). -/
def Half.linePut (x : Half) (l : WLine) : Half :=
  let old := x.ware.lines.filter (fun k => !(k.addr == l.addr && k.ctx == l.ctx))
  let mates := old.filter (fun k => lineSet k.addr == lineSet l.addr)
  let kept := if mates.length < 16 then old else match mates.getLast? with
    | some v => old.erase v
    | none => old
  { x with ware := { x.ware with lines := l :: kept } }

/-- A write or atomic of this half to a fabric range drops every line that meets it, whatever its context, and a fill on its way
is not installed (R280). -/
def Half.lineDrop (x : Half) (addr n : Nat) : Half :=
  let hit (a k : Nat) : Bool := meets a k addr n
  let gone := (x.ware.lines.filter (fun l => hit l.addr 256)).length
  let w : WareUnit := { x.ware with
    lines := x.ware.lines.filter (fun l => !hit l.addr 256)
    fills := x.ware.fills.map (fun f => if hit f.addr f.len then { f with install := false } else f) }
  ({ x with ware := w } : Half).bump 0x0580020 63 32 gone

/-- WARE_SCRUB (R281): lines whose generation no longer matches are freed, and a new pass begins; with ENABLE clear every line
goes. -/
def Half.scrub (x : Half) : Half :=
  { x with ware := { x.ware with lines := if x.wareOn then x.ware.lines.filter x.lineLive else [], adv := [] } }

/-- WARE_DISABLE (R287): ENABLE is cleared and every line dropped. -/
def Half.wareDisable (x : Half) : Half := (x.setFld 0x0580000 0 0 0).scrub

end Sys2Proof.Machine
end

