-- ==== Sys2Proof/Machine/Mem.lean ====
section
/-! DEFINITION. Memory: byte reads and writes over the canonical list, and the block's view of device memory (R8, R136, R214). -/
namespace Sys2Proof.Machine

/-- What an unlisted address reads as (DESIGN CHOICE, log entry 2: the manual gives memory no contents after power-on). -/
def unlisted : Byte := 0

/-- The byte at an address. -/
def memGet : List Host.Cell → Nat → Byte
  | [], _ => unlisted
  | (k, v) :: m, a => if k = a then v else memGet m a

/-- A listed byte put in its place: addresses stay rising. -/
def memPut : List Host.Cell → Nat → Byte → List Host.Cell
  | [], a, b => [(a, b)]
  | (k, v) :: m, a, b => if a < k then (a, b) :: (k, v) :: m else if a = k then (a, b) :: m else (k, v) :: memPut m a b

/-- Memory with the byte at an address written; a byte equal to what an unlisted address reads as is not listed. -/
def memSet (m : List Host.Cell) (a : Nat) (b : Byte) : List Host.Cell :=
  if b = unlisted then m.filter (fun e => e.1 != a) else memPut m a b

/-- n bytes from an address. -/
def memRead (m : List Host.Cell) (a : Nat) : Nat → List Byte
  | 0 => []
  | n + 1 => memGet m a :: memRead m (a + 1) n

/-- Write bytes from an address. -/
def memWrite (m : List Host.Cell) (a : Nat) : List Byte → List Host.Cell
  | [] => m
  | b :: bs => memWrite (memSet m a b) (a + 1) bs

/-- Every key is above a bound and the keys rise, and no byte equals the unlisted one. -/
def memWfFrom (lo : Nat) : List Host.Cell → Bool
  | [] => true
  | (k, v) :: m => decide (lo ≤ k) && decide (v ≠ unlisted) && memWfFrom (k + 1) m

/-- The canonical form of a memory. -/
def memWf (m : List Host.Cell) : Bool := memWfFrom 0 m

/-- A set of numbers kept rising. -/
def setAdd : List Nat → Nat → List Nat
  | [], a => [a]
  | k :: m, a => if a < k then a :: k :: m else if a = k then k :: m else k :: setAdd m a

/-- The 64-byte beats an access meets. -/
def beats (a n : Nat) : List Nat := (List.range ((a + n + 63) / 64 - a / 64)).map (fun i => a / 64 + i)

namespace MemSys

/-- Bytes of device memory. -/
def readDev (m : MemSys) (a n : Nat) : List Byte := memRead m.dev a n
/-- Bytes of host memory. -/
def readHost (m : MemSys) (a n : Nat) : List Byte := memRead m.host a n
/-- A read meets a poisoned beat (R214). -/
def poisoned (m : MemSys) (a n : Nat) : Bool := (beats a n).any (fun b => m.poison.contains b)

/-- A device write (R214): a beat written whole takes the poison of the write; a partial write leaves a beat's poison. -/
def writeDev (m : MemSys) (a : Nat) (bs : List Byte) (poison : Bool := false) : MemSys :=
  let whole := (beats a bs.length).filter (fun b => decide (a ≤ b * 64) && decide (b * 64 + 64 ≤ a + bs.length))
  let part := (beats a bs.length).filter (fun b => !whole.contains b)
  let cleared := m.poison.filter (fun b => !whole.contains b)
  { m with dev := memWrite m.dev a bs
           poison := if poison then (whole ++ part).foldl setAdd cleared else cleared }

/-- A host write. -/
def writeHost (m : MemSys) (a : Nat) (bs : List Byte) : MemSys := { m with host := memWrite m.host a bs }

/-- The canonical form: both memories rising with no unlisted byte, and the poisoned beats rising. -/
def wf (m : MemSys) : Bool := memWf m.dev && memWf m.host && m.poison.Pairwise (· < ·)

/-- A 64-bit little-endian word of device or host memory. -/
def word (m : MemSys) (host : Bool) (a : Nat) : Nat := leNat (if host then m.readHost a 8 else m.readDev a 8)
/-- Store a 64-bit word. -/
def setWord (m : MemSys) (host : Bool) (a v : Nat) : MemSys :=
  if host then m.writeHost a (leBytes 8 v) else m.writeDev a (leBytes 8 v)

end MemSys

/-- Capacity of a die: 768 GiB in the full build (R136). -/
def dieBytes : Nat := 768 * 2 ^ 30
/-- The block reserve of a die: its first 2 GiB (R385). -/
def reserveBytes : Nat := 2 ^ 31
/-- Die of a local offset (R136). -/
def dieOf (off : Nat) : Nat := off / 2 ^ 45 % 2
/-- Offset within the die. -/
def inDie (off : Nat) : Nat := off % 2 ^ 45
/-- The half whose die holds a local offset. -/
def homeOf (off : Nat) : HalfId := if dieOf off = 0 then .A else .B

/-- Bytes the manual leaves undefined. -/
def freeBytes (draw n : Nat) : List Byte := (List.range n).map (Config.freeByte draw)

end Sys2Proof.Machine
end

