-- ==== Sys2Proof/Machine/Qos.lean ====
section
/-! DEFINITION. Quality of service and interrupts (chapter 14, R23, R24): clocks of the islands, capacities, refills, buckets,
pools, leases; vector messages with moderation. -/
namespace Sys2Proof.Machine


/-- Clock in MHz of an island at a plan code (Table 01-8); a plan the island does not have is its floor. -/
def planMHz (island plan : Nat) : Nat :=
  match island, plan with
  | 0, 1 => 1600 | 0, 2 => 1500 | 0, _ => 1400
  | 1, 1 => 1600 | 1, 2 => 1500 | 1, _ => 1400
  | 2, 1 => 1200 | 2, 2 => 1100 | 2, _ => 1000
  | 5, p => if p = 0 then 2800 else if p = 1 then 2400 else if p = 2 then 2300 else if p = 3 then 2200 else 2100
  | 6, p => if p = 0 then 2800 else if p = 1 then 2400 else if p = 2 then 2300 else if p = 3 then 2200 else 2100
  | 7, p => if p = 0 then 2800 else if p = 1 then 2400 else if p = 2 then 2300 else if p = 3 then 2200 else 2100
  | 8, p => if p = 0 then 2800 else if p = 1 then 2400 else if p = 2 then 2300 else if p = 3 then 2200 else 2100
  | 10, 1 => 1800 | 10, 2 => 1700 | 10, _ => 1600
  | 11, 1 => 1800 | 11, 2 => 1700 | 11, _ => 1600
  | 12, _ => 800
  | _, 1 => 2000 | _, 2 => 1900 | _, _ => 1800

/-- The next lower plan of an island, if it has one (R27, Table 01-8). -/
def nextPlan (island plan : Nat) : Option Nat :=
  if island = 12 then none
  else if 5 ≤ island ∧ island ≤ 8 then (if plan < 4 then some (plan + 1) else none)
  else if plan = 1 then some 2
  else if plan = 2 then some 4
  else none

/-- The metering island of a class's meter point (Table 01-6): classes 0 host, 1 fabric, 2 Spoke, 3 transform, 4 interrupt. -/
def meterIsland (cls point : Nat) : Nat :=
  if cls = 0 ∨ cls = 4 then point % 2
  else if cls = 1 then 10
  else if cls = 2 then 3
  else 5 + point % 4

/-- The meter points of a class on a half (R391). -/
def meterPoints (cls : Nat) : List Nat :=
  if cls = 0 ∨ cls = 4 then [0, 1] else if cls = 3 then [0, 1, 2, 3] else [0]

/-- Capacity at nominal clock, units per µs (Table 14-4). -/
def baseCapacity (cls : Nat) : Nat :=
  if cls = 0 then 512000 else if cls = 1 then 6400000 else if cls = 2 then 364 else if cls = 3 then 9600 else 4

/-- Capacity of a meter point at the plan in force, in 1/256 units per µs (R24); a quad's also follows its issue limit
(R447, R450, R451). -/
def Half.capacity (x : Half) (cls point : Nat) : Nat :=
  let i := meterIsland cls point
  let c := baseCapacity cls * 256 * planMHz i (x.island i).plan / planMHz i 1
  if cls = 3 then c * (x.quad (point % 4)).issue / 16 else c

/-- A partition's class record (Table 14-2). -/
def Part.cls (p : Part) (c : Nat) : ClassRec :=
  if c = 0 then p.host else if c = 1 then p.fabric else if c = 2 then p.spoke else if c = 3 then p.xfm else p.irq

/-- A partition has a context that is not DESTROYED. -/
def Half.hasCtx (x : Half) (p : Nat) : Bool := x.obj.ctxs.any (fun c => c.2.part == p && c.2.st != .destroyed)

/-- Sum of the weights of strict partitions in a class (R392). -/
def Half.strictSum (x : Half) (cls : Nat) : Nat :=
  (List.range 64).foldl (fun a p => if (x.part p).strict then a + ((x.part p).cls cls).weight else a) 0

/-- Sum of the weights of non-strict partitions with a context (R392). -/
def Half.openSum (x : Half) (cls : Nat) : Nat :=
  (List.range 64).foldl (fun a p =>
    if ¬ (x.part p).strict ∧ x.hasCtx p then a + ((x.part p).cls cls).weight else a) 0

/-- Refill of a partition at a meter point, in 1/256 units per µs (R392). -/
def Half.refillOf (x : Half) (cls point p : Nat) : Nat :=
  let c := x.capacity cls point
  let w := ((x.part p).cls cls).weight
  if (x.part p).strict then c * w / 256
  else if x.hasCtx p then c * (256 - x.strictSum cls) / 256 * w / x.openSum cls
  else 0

/-- Key of a bucket: class, meter point, partition. -/
def bucketKey (cls point p : Nat) : Nat := (cls * 16 + point) * 64 + p

/-- Recompute every refill of a half (R393). -/
def Half.recompute (x : Half) : Half :=
  let rs := (List.range 5).flatMap (fun cls => (meterPoints cls).flatMap (fun pt =>
    ((List.range 64).map (fun p => (bucketKey cls pt p, x.refillOf cls pt p))).filter (fun e => e.2 != 0)))
  { x with qos := { x.qos with refills := rs } }

/-- Recompute the refills of both halves: after a change of partitions or contexts (R393). -/
def Blk.recompute (b : Blk) : Blk := (b.upd .A Half.recompute).upd .B Half.recompute

/-- A lease of a partition in a class: 1/16 of the ceiling, at least one unit (R23). -/
def leaseUnits (ceiling : Nat) : Nat := max 1 (ceiling / 16)

/-- One µs of refill at one bucket (R392, R394): up to the ceiling; beyond it into the spare pool (at most C × 10 µs), or
discarded for a strict partition. A resetting partition's refill flows to the pool (R399). -/
def Half.refillOne (x : Half) (e : Nat × Nat) : Half :=
  let p := e.1 % 64
  let mp := e.1 / 64
  let cls := mp / 16
  let rec0 := Tab.dflt x.qos.buckets e.1 {}
  let top := ((x.part p).cls cls).ceiling * 256
  let poolTop := x.capacity cls (mp % 16) * 10
  let pool := Tab.dflt x.qos.pools mp 0
  if (x.part p).st = .resetting then
    { x with qos := { x.qos with pools := Tab.put x.qos.pools mp (min poolTop (pool + e.2)) } }
  else
    let lvl := rec0.level + e.2
    let excess := lvl - top
    let x1 := { x with qos := { x.qos with buckets := Tab.put x.qos.buckets e.1 { rec0 with level := min lvl top } } }
    if excess = 0 ∨ (x.part p).strict then x1
    else { x1 with qos := { x1.qos with pools := Tab.put x1.qos.pools mp (min poolTop (pool + excess)) } }

/-- QOS_REFILL_TICK (R392, R394): every µs each bucket takes its refill. -/
def Half.refillTick (x : Half) : Half := x.qos.refills.foldl Half.refillOne x

/-- The partition whose turn at the pool of a meter point it is (R394): weighted round robin among the waiting partitions that
may draw from the pool. `turn` holds the partition last served × 256 + leases it took in a row. -/
def Half.poolTurn (x : Half) (cls point : Nat) : Option Nat :=
  let mp := cls * 16 + point
  let waits := (List.range 64).filter (fun p =>
    (Tab.dflt x.qos.buckets (bucketKey cls point p) {}).waiting && !(x.part p).noPool && !(x.part p).strict)
  let tv := Tab.dflt x.qos.turn mp 0
  let cur := tv / 256
  if waits.contains cur ∧ tv % 256 < ((x.part cur).cls cls).weight ∧ 0 < tv % 256 then some cur
  else match waits.find? (fun p => decide (cur < p)) with
    | some p => some p
    | none => waits.head?

/-- A waiting lease request of a partition is served from its bucket, or from the pool in its turn; else it keeps waiting (R23, R394). -/
def Half.leaseServe (x : Half) (cls point p : Nat) : Half :=
  let key := bucketKey cls point p
  let k := Tab.dflt x.qos.buckets key {}
  let n := leaseUnits ((x.part p).cls cls).ceiling
  let mp := cls * 16 + point
  let pool := Tab.dflt x.qos.pools mp 0
  if ¬ k.waiting then x
  else if (x.part p).st = .resetting then
    -- a lease in flight as the reset starts returns to the pool (R400)
    { x with qos := { x.qos with buckets := Tab.put x.qos.buckets key { k with waiting := false } } }
  else if n * 256 ≤ k.level then
    let k' := { k with level := k.level - n * 256, lease := k.lease + n, waiting := false, fromPool := false }
    { x with qos := { x.qos with buckets := Tab.put x.qos.buckets key k' } }
  else if ¬ (x.part p).noPool ∧ ¬ (x.part p).strict ∧ n * 256 ≤ pool ∧ x.poolTurn cls point = some p then
    let tv := Tab.dflt x.qos.turn mp 0
    { x with qos := { x.qos with
        buckets := Tab.put x.qos.buckets key { k with lease := k.lease + n, waiting := false, fromPool := true },
        pools := Tab.put x.qos.pools mp (pool - n * 256),
        turn := Tab.put x.qos.turn mp (if tv / 256 = p then tv + 1 else p * 256 + 1) } }
  else x

/-- Channels of a partition in LEASE_WAIT are READY again (R196); one that waits for a stream's credit keeps waiting. -/
def Half.leaseResume (x : Half) (p : Nat) : Half :=
  { x with dma := { x.dma with chans := x.dma.chans.map (fun e =>
      if e.2.st = 3 ∧ e.2.disp.pkt.hdr.part = p ∧ e.2.work.credit.isNone then (e.1, { e.2 with st := 1 }) else e) } }

/-- QOS_LEASE_GRANT (R23, R196, R394): a lease arrives, and the work that waited for it resumes. -/
def Half.leaseGrant (x : Half) (cls point p : Nat) : Half :=
  let y := x.leaseServe cls point p
  if cls ≤ 1 ∧ (Tab.dflt x.qos.buckets (bucketKey cls point p) {}).waiting ∧ ¬ (Tab.dflt y.qos.buckets (bucketKey cls point p) {}).waiting then y.leaseResume p
  else y

/-- Units of a class may be taken by a partition at a meter point: its lease is not used up (R23). -/
def Half.hasLease (x : Half) (cls point p : Nat) : Bool :=
  decide (0 < (Tab.dflt x.qos.buckets (bucketKey cls point p) {}).lease)

/-- Take units from a lease; the one that reaches the end of the lease is still admitted (R23: at most the lease already held). -/
def Half.takeLease (x : Half) (cls point p n : Nat) : Half :=
  { x with qos := { x.qos with buckets := Tab.upd x.qos.buckets (bucketKey cls point p) {} (fun k => { k with lease := k.lease - n }) } }

/-- Ask CMD for a new lease; nothing of the class is admitted meanwhile (R23). -/
def Half.askLease (x : Half) (cls point p : Nat) : Half :=
  { x with qos := { x.qos with buckets := Tab.upd x.qos.buckets (bucketKey cls point p) {} (fun k => { k with waiting := true }) } }

/-- Bucket levels and leases of a partition go back to the pools (Table 14-7). -/
def Half.returnLeases (x : Half) (p : Nat) : Half :=
  let pools' := (List.range 5).foldl (fun pools cls => (meterPoints cls).foldl (fun ps pt =>
    let k := Tab.dflt x.qos.buckets (bucketKey cls pt p) {}
    let mp := cls * 16 + pt
    let amount := k.level + k.lease * 256
    if amount = 0 then ps else Tab.put ps mp (min (x.capacity cls pt * 10) (Tab.dflt ps mp 0 + amount))) pools) x.qos.pools
  { x with qos := { x.qos with pools := pools', buckets := x.qos.buckets.filter (fun e => e.1 % 64 != p) } }

/-! ### Vector messages -/

/-- Key of a vector at a logical host port: function 0 is the physical or companion function. -/
def vecKey (port vf vec : Nat) : Nat := (port * 64 + vf) * 2048 + vec

/-- Moderation of a partition's vector: (HOLDOFF, COUNT), by default 0 and 1 (R389). -/
def Half.moderation (x : Half) (part vec : Nat) : Nat × Nat := Tab.dflt (x.part part).vecMod vec (0, 1)

/-- A cause arrives for a partition's vector at a pair port (R388, R389): it joins the open message or opens one; the message
is ripe once COUNT causes have joined, or at once with HOLDOFF 0. A resetting partition's causes are discarded (R398). -/
def Blk.cause (b : Blk) (t : Clk) (pp part vec : Nat) : Blk :=
  let h := HalfId.ofPort pp
  let x := b.half h
  if (x.part part).st = .resetting then b
  else
    let key := vecKey (pp % 2) part vec
    let m := x.moderation part vec
    let old := Tab.dflt x.msgs key { opened := t.now h }
    let new : VecMsg := { old with causes := old.causes + 1, ripe := old.ripe || decide (m.2 ≤ old.causes + 1) || m.1 == 0 }
    let b1 := b.upd h (fun y => { y with msgs := Tab.put y.msgs key new })
    let f := x.fn (pp % 2) part
    if f.d3hot && f.pmeEn then b1.emit (.pme pp part) else b1

/-- MSIX_HOLDOFF_EXPIRY (R389): HOLDOFF has elapsed since the message opened. -/
def Blk.holdoff (b : Blk) (pp part vec : Nat) : Blk :=
  b.upd (HalfId.ofPort pp) (fun y => { y with msgs := Tab.modify y.msgs (vecKey (pp % 2) part vec) (fun m => { m with ripe := true }) })

/-- The function of a port that carries a partition's vectors: virtual function n for partition n. -/
def fnOf (part : Nat) : Nat := part

/-- A pending message may leave: ripe, not masked, the port up and in L0 or L0p, Bus Master Enable set, not in D3hot, and the
partition's interrupt lease not used up (R389, R390, R504, R455). -/
def Blk.msixReady (b : Blk) (pp part vec : Nat) : Bool :=
  let x := b.half (HalfId.ofPort pp)
  let p := pp % 2
  match Tab.look x.msgs (vecKey p part vec) with
  | none => false
  | some m => m.ripe && !(Tab.dflt x.msix (vecKey p part vec) {}).masked && (x.port p).up && (x.fn p part).bme &&
      !(x.fn p 0).d3hot && !(x.fn p part).d3hot && x.hasLease 4 p part

/-- MSIX_SEND (R389, R390): the message is sent and takes one interrupt-rate unit; in containment it is discarded and counted
(R212); without a lease the host island asks for one (R23). -/
def Blk.msixSend (b : Blk) (pp part vec : Nat) : Blk :=
  let h := HalfId.ofPort pp
  let x := b.half h
  let p := pp % 2
  let key := vecKey p part vec
  match Tab.look x.msgs key with
  | none => b
  | some m =>
    if (x.port p).contained then
      b.upd h (fun y => { (y.updPort p (fun hp => { hp with dropped := hp.dropped + 1 })) with msgs := Tab.del y.msgs key })
    else if m.ripe ∧ ¬ x.hasLease 4 p part then b.upd h (fun y => y.askLease 4 p part)
    else if b.msixReady pp part vec then
      let e := Tab.dflt x.msix key {}
      (b.upd h (fun y => { (y.takeLease 4 p part 1) with msgs := Tab.del y.msgs key })).emit
        (.msix pp (fnOf part) vec e.addr e.data)
    else b

/-- MSIX_UNMASK (R389): the vector is unmasked in its MSI-X table; a pending message may then be sent. -/
def Blk.msixUnmask (b : Blk) (pp part vec : Nat) : Blk :=
  let h := HalfId.ofPort pp
  b.upd h (fun y => { y with msix := Tab.upd y.msix (vecKey (pp % 2) part vec) {} (fun e => { e with masked := false }) })

end Sys2Proof.Machine
end

