-- ==== Sys2Proof/Machine/Queue.lean ====
section
/-! DEFINITION. Queues, doorbells, status replies and the completion index (chapter 4), apart from fetching and dispatch. -/
namespace Sys2Proof.Machine

/-- A half carries queues: out of reset, and neither fenced, offline nor in standby. -/
def Half.serves (x : Half) : Bool :=
  !x.boot.inReset && x.tdm.st != .fenced && x.tdm.st != .offline && x.tdm.st != .standby

/-- The half that carries a queue: the one whose own copy names it as home and that serves. -/
def Blk.queueHome (b : Blk) (q : Nat) : HalfId :=
  if (b.a.queue q).st != .absent && (b.a.queue q).home == .A && b.a.serves then .A
  else if (b.b.queue q).st != .absent && (b.b.queue q).home == .B then .B
  else .A

/-- A queue, read at its home. -/
def Blk.getQ (b : Blk) (q : Nat) : Queue := (b.half (b.queueHome q)).queue q
/-- Rewrite a queue at its home (and its mirror while paired). -/
def Blk.modQ (b : Blk) (q : Nat) (f : Queue → Queue) : Blk := b.updQueue (b.queueHome q) q f

/-- The ring port in force (R84): with its half lost, the survivor's port of the same logical number. -/
def Blk.ringPort (b : Blk) (q : Nat) : Nat :=
  let r := b.getQ q
  let h := b.queueHome q
  if HalfId.ofPort r.ringPort ≠ h ∧ (b.half h).tdm.st = .freewheel then h.num * 2 + r.ringPort % 2 else r.ringPort

/-- A function of a pair port can send: link up and not retraining, no containment, Bus Master Enable set (R210, R212, R504). -/
def Blk.portReady (b : Blk) (pp part : Nat) : Bool :=
  let x := b.half (HalfId.ofPort pp)
  let hp := x.port (pp % 2)
  hp.up && !hp.retrain && !hp.contained && (x.fn (pp % 2) part).bme

/-- A queue's ring, replies and index word may be reached through a function: besides, it is not in D3hot (R455). -/
def Blk.ringReady (b : Blk) (pp part : Nat) : Bool :=
  b.portReady pp part && !((b.half (HalfId.ofPort pp)).fn (pp % 2) part).d3hot

/-- Slot a comes before slot b (R87). -/
def slotBefore (a b : Nat) : Bool := later b a

/-- Advance the consumer index over the packets that are done, in ring order (R87). -/
def advanceCidx : Nat → Queue → Queue
  | 0, q => q
  | n + 1, q =>
    match q.doneSlots.find? (fun d => d.1 == q.cidx && d.2 != 0) with
    | some d => advanceCidx n { q with cidx := (q.cidx + d.2) % 2 ^ 32, doneSlots := q.doneSlots.erase d }
    | none => q

/-- A packet's slots are done. -/
def Queue.slotsDone (q : Queue) (r : PktRef) : Queue :=
  if r.nslots = 0 then q
  else
    let q1 := { q with doneSlots := q.doneSlots ++ [(r.slot, r.nslots)] }
    advanceCidx q1.doneSlots.length q1

/-- A packet finishes on half h (R80, R61, R62): it leaves the dispatch window and its reply waits to be written; while paired a
Completion record goes to the partner and, unless the exchange is taken as done (`sync`), the reply waits for its
acknowledgement. `trailer` is executed by SIGNAL_TRAILER, with the error flag unless STATUS is OK (R79). -/
def Blk.finish (b : Blk) (h : HalfId) (ref : PktRef) (status detail result fa : Nat) (trailer : Option (Nat × Nat))
    (sync : Bool := false) : Blk :=
  let ack := if sync then none else b.mirrorSeq h
  let r : Reply := { ref := ref, status := status, detail := detail, half := h, result := result % 2 ^ 64,
                     faultAddr := fa % 2 ^ 64, waitAck := ack }
  let b1 := b.mirror h (.completion ref.q r)
  b1.modQ ref.q (fun q => { q with
    inflight := q.inflight.filter (fun d => d.ref.slot != ref.slot)
    fetched := q.fetched.filter (fun d => d.ref.slot != ref.slot)
    replies := q.replies ++ [r]
    trailers := match trailer with
      | some (f, v) => q.trailers ++ [{ ref := ref, fence := f, value := v, err := status != 0 }]
      | none => q.trailers })

/-- The signal trailer of a packet in flight (R79). -/
def Blk.trailerOf (b : Blk) (ref : PktRef) : Option (Nat × Nat) :=
  ((b.getQ ref.q).inflight.find? (fun d => d.ref.slot == ref.slot)).bind (·.pkt.hdr.trailer)

/-- The partner has not yet acknowledged a packet's Dispatch record (R62): the packet issues no write. -/
def Blk.ackOwed (b : Blk) (q slot : Nat) : Bool :=
  (((b.getQ q).inflight.find? (fun d => d.ref.slot == slot)).bind (·.waitAck)).isSome

/-- A queue of a partition under function-level reset writes nothing more (R398). -/
def Blk.quiet (b : Blk) (q : Nat) : Bool := ((b.half (b.queueHome q)).part (b.getQ q).part).st == .resetting

/-- The 32 bytes of a status reply (Table 04-3). -/
def replyBytes (r : Reply) (time : Nat) : List Byte :=
  leBytes 8 r.ref.tag ++ [BitVec.ofNat 8 r.status, BitVec.ofNat 8 r.detail, BitVec.ofNat 8 r.half.num, 0] ++
  leBytes 8 r.result ++ leBytes 8 r.faultAddr ++ leBytes 4 time

/-- A reply asks for the queue's vector (R100). -/
def wantsInt (q : Queue) (r : Reply) : Bool :=
  bitAt r.ref.flags 2 || (q.intOnErr && r.status != 0 && r.status != 1)

/-- REPLY_WRITE (R80, R62, R69, R98, R212): the oldest reply whose Completion record is acknowledged is written to the completion
ring through the ring port; a HELD queue keeps it in its held ring; a port that cannot send holds it. A fenced half writes none. -/
def Mach.replyWrite (m : Mach) (q : Nat) : Mach :=
  let h := m.blk.queueHome q
  let r := m.blk.getQ q
  let pp := m.blk.ringPort q
  match r.replies.find? (fun e => e.waitAck.isNone) with
  | none => m
  | some e =>
    if (m.blk.half h).tdm.st = .fenced ∨ (m.blk.half h).boot.inReset then m
    else if m.blk.quiet q then { m with blk := m.blk.modQ q (fun k => ({ k with replies := k.replies.erase e }).slotsDone e.ref) }
    else if r.st = .held then
      { m with blk := m.blk.modQ q (fun k => ({ k with replies := k.replies.erase e, heldRing := k.heldRing ++ [e] }).slotsDone e.ref) }
    else if ¬ m.blk.ringReady pp r.part then m
    else
      let a := r.cqBase + (r.cqCount % 2 ^ r.cqLog2) * 32
      { m with mem := m.mem.writeHost a (replyBytes e (m.clk.now h % 2 ^ 32))
               blk := m.blk.modQ q (fun k => ({ k with
                 replies := k.replies.erase e, cqCount := (k.cqCount + 1) % 2 ^ 32, idxDirty := true,
                 msixAfterIdx := k.msixAfterIdx || wantsInt k e }).slotsDone e.ref) }

/-- INDEX_WORD_WRITE (R99, R100): the completion count goes to the completion index word, behind the replies it covers; a cause
that waits for it then reaches the queue's vector. -/
def Mach.indexWrite (m : Mach) (q : Nat) : Mach :=
  let r := m.blk.getQ q
  let pp := m.blk.ringPort q
  if r.st = .absent ∨ ¬ r.idxDirty ∨ m.blk.quiet q ∨ ¬ m.blk.ringReady pp r.part then m
  else
    let b := m.blk.modQ q (fun k => { k with idxDirty := false, idxPosted := k.cqCount, msixAfterIdx := false })
    { m with mem := m.mem.writeHost r.cidxAddr (leBytes 8 r.cqCount)
             blk := if r.msixAfterIdx then b.cause m.clk pp r.part r.vec else b }

/-- A pair port whose function is a primary function: pair port 0, and port 0 of half B where it is a device of its own (R362). -/
def Blk.primaryPort (b : Blk) (pp : Nat) : Bool :=
  pp == 0 || (pp == 2 && (b.b.tdm.st == .unpaired || b.b.tdm.st == .solo))

/-- A companion function whose bond bit is clear (R363). -/
def Blk.unbonded (b : Blk) (pp part : Nat) : Bool :=
  part == 0 && !b.primaryPort pp && !bitAt ((b.half (HalfId.ofPort pp)).regFld 0x0600010 3 1) (pp - 1)

/-- A doorbell is ignored or dropped: counted, and kind 0x90 at INFO (R90, Table 16-2). -/
def Blk.doorbellBad (b : Blk) (h : HalfId) (q part : Nat) : Blk :=
  b.upd h (fun x => (x.bump 0x0030038 31 0 1).raiseErr 2 0 0x90 0 8 (q * 4096) (if part = 0 then none else some part))

/-- A producer index arrives at the home half (R87, R90, R61). -/
def Blk.doorbellApply (b : Blk) (q pidx : Nat) : Blk :=
  let h := b.queueHome q
  let r := b.getQ q
  if later pidx r.pidx ∧ sub32 pidx r.cidx ≤ 2 ^ r.sqLog2 then
    let b1 := b.modQ q (fun k => { k with pidx := pidx % 2 ^ 32 })
    b1.mirror h (.queue q (b1.getQ q))
  else b.doorbellBad h q r.part

/-- The half that a register or window access reaches. -/
def Blk.viaHalf (_ : Blk) : Via → HalfId
  | .fn port _ _ => HalfId.ofPort port
  | .mctp _ => .A

/-- Partition of the function an access comes through. -/
def viaPart : Via → Nat
  | .fn _ part _ => part
  | .mctp _ => 0

/-- DOORBELL (R60, R65, R89, R90): a write to a doorbell page. A half that is fenced or carries no queues drops and counts
it; a page of an absent queue, of
another partition's queue, or page 0 from a virtual function is dropped and counted; a queue homed on the other half is
forwarded. -/
def Blk.doorbell (b : Blk) (via : Via) (q pidx : Nat) : Blk :=
  let h := b.viaHalf via
  let x := b.half h
  let r := x.queue q
  if x.boot.inReset then b
  else if x.tdm.st = .fenced ∨ x.tdm.st = .offline ∨ x.tdm.st = .standby then
    b.upd h (fun y => { (y.bump 0x0030038 31 0 1) with tdm := { y.tdm with dropped := y.tdm.dropped + 1 } })
  else if r.st = .absent ∨ (viaPart via ≠ 0 ∧ (r.part ≠ viaPart via ∨ q = 0)) then b.doorbellBad h q (viaPart via)
  else if r.home = h ∨ x.tdm.st ≠ .paired ∨ x.tdm.offlineCmd.isSome then b.doorbellApply q pidx
  else b.sendFrame h (.doorbellFwd q (pidx % 2 ^ 32))

/-- DOORBELL_FWD (R60): a forwarded doorbell arrives at half h. -/
def Blk.doorbellFwd (b : Blk) (h : HalfId) (q pidx : Nat) : Blk :=
  let r := (b.half h).queue q
  if r.st = .absent ∨ r.home ≠ h then b.doorbellBad h q 0 else b.doorbellApply q pidx

/-- CQ_HEAD_WRITE (R98): the count of replies the host has consumed. -/
def Blk.cqHead (b : Blk) (via : Via) (q v : Nat) : Blk :=
  let h := b.viaHalf via
  let x := b.half h
  let r := x.queue q
  if x.boot.inReset then b
  else if r.st = .absent ∨ (viaPart via ≠ 0 ∧ (r.part ≠ viaPart via ∨ q = 0)) then b.doorbellBad h q (viaPart via)
  else b.modQ q (fun k => { k with cqHead := v % 2 ^ 32 })

/-- Stop a RUNNING queue with a cause (Table 04-11). -/
def Blk.stopQueue (b : Blk) (q cause : Nat) : Blk :=
  b.modQ q (fun k => if k.st = .running then { k with st := .stopped, stopCause := cause, fetching := none } else k)

/-- FETCH_ERROR (R93): the host answers a ring fetch (0), a reply write (1) or an index write (2) with an error; the queue stops
with STOP_CAUSE 0x03 and no reply is written for the slot concerned. -/
def Blk.fetchError (b : Blk) (q what : Nat) : Blk :=
  let r := b.getQ q
  if r.st != .running then b
  else
    let b1 := b.stopQueue q 3
    if what = 1 then b1.modQ q (fun k => { k with replies := k.replies.drop 1 })
    else if what = 2 then b1.modQ q (fun k => { k with idxDirty := false, msixAfterIdx := false })
    else b1

/-- QUEUE_RESUME (R93, Table 04-11): a STOPPED queue runs again, fetching from its consumer index; replays that R68 owes it stay. -/
def Blk.queueResume (b : Blk) (via : Via) (q : Nat) : Blk :=
  let h := b.viaHalf via
  let r := (b.half h).queue q
  if r.st != .stopped then b
  else
    let b1 := b.modQ q (fun k => { k with st := .running, stopCause := 0, fetchIdx := k.cidx, fetching := none,
                                          fetched := k.fetched.filter (fun f => f.ref.nslots == 0),
                                          doneSlots := [] })
    b1.mirror (b1.queueHome q) (.queue q (b1.getQ q))

/-- The admin queue acts on this half (R91): half A, or half B while it is acting primary; a half that is a device of its own
carries its own (R442). -/
def Blk.carriesAdmin (b : Blk) (h : HalfId) : Bool :=
  let x := b.half h
  x.tdm.st == .unpaired || x.tdm.st == .solo || h == b.adminHalf

/-- ADMIN_QUEUE_ENABLE (R91, Tables 04-9 to 04-11): a write of WQ_CMD_ADMIN_CTRL with ENABLE set starts queue 0 with all indices
0; ring sizes outside 6 to 18 leave ENABLE at 0. -/
def Blk.adminEnable (b : Blk) (h : HalfId) : Blk :=
  let x := b.half h
  let c := (x.reg 0x0030018).toNat
  let sq := bits c 12 8
  let cq := bits c 20 16
  if x.boot.inReset ∨ ¬ b.carriesAdmin h then b
  else if sq < 6 ∨ 18 < sq ∨ cq < 6 ∨ 18 < cq then b.upd h (fun y => y.setFld 0x0030018 0 0 0)
  else if (x.queue 0).st != .absent then b.upd h (fun y => y.setBit 0x0030018 0)
  else
    let r : Queue := { st := .running, home := h, ringPort := b.adminPort h, allowPrio := true, intOnErr := bitAt c 1,
                       sqBase := (x.reg 0x0030000).toNat, cqBase := (x.reg 0x0030008).toNat,
                       cidxAddr := (x.reg 0x0030010).toNat, sqLog2 := sq, cqLog2 := cq, vec := bits c 42 32 }
    let b1 := (b.upd h (fun y => y.setBit 0x0030018 0)).updObj h (fun o => { o with queues := Tab.put o.queues 0 r })
    b1.mirror h (.queue 0 r)

/-- ADMIN_QUEUE_DISABLE (R91): writing 0 to ENABLE stops fetching; packets in flight complete. The queue reads DRAINING until
they have, then ABSENT (DEDUCED, log entry 21). -/
def Blk.adminDisable (b : Blk) (h : HalfId) : Blk :=
  let x := b.half h
  let r := x.queue 0
  if ¬ b.carriesAdmin h then b
  else
    let b1 := b.upd h (fun y => y.setFld 0x0030018 0 0 0)
    if r.st = .absent then b1
    else if r.inflight.isEmpty ∧ r.fetched.isEmpty ∧ r.replies.isEmpty then
      b1.updObj h (fun o => { o with queues := Tab.del o.queues 0 })
    else b1.updQueue h 0 (fun k => { k with st := .draining, fetching := none })

end Sys2Proof.Machine
end

