-- ==== Sys2Proof/Machine/Translate.lean ====
section
/-! DEFINITION. Address translation (chapter 6): table entries, walks, spans, caches and the holder table. -/
namespace Sys2Proof.Machine

/-- Bytes of a page of SIZE 0, 1 or 2 (Table 06-1). -/
def pageBytes (size : Nat) : Nat := 2 ^ (12 + 9 * size)

/-- A span's bytes, whether it covers an address, and where an address lands. -/
def Span.bytes (s : Span) : Nat := s.pages * pageBytes s.size
def Span.covers (s : Span) (ctx va : Nat) : Bool :=
  decide (s.ctx = ctx) && decide (s.va ≤ va) && decide (va < s.va + s.bytes)
def Span.phys (s : Span) (va : Nat) : Nat := s.frame + (va - s.va)

/-- Fields of a table entry (Table 06-2). -/
def eValid (e : Nat) : Bool := bitAt e 0
def eLeaf (e : Nat) : Bool := bitAt e 1
def eSize (e : Nat) : Nat := bits e 3 2
def eTarget (e : Nat) : Nat := bits e 5 4
def eRun (e : Nat) : Nat := bits e 15 12
/-- FRAME as a byte address. -/
def eFrame (e : Nat) : Nat := bits e 61 16 * 4096

/-- An entry is malformed at a level (R138). -/
def malformed (e level : Nat) : Bool :=
  eTarget e == 3 ||
  (if eLeaf e then
    decide (4 ≤ level) || eSize e != level - 1 || decide (eFrame e % pageBytes (eSize e) ≠ 0)
   else
    level == 1 || eTarget e == 2 || bits e 3 2 != 0 || bits e 15 6 != 0 || bits e 63 62 != 0)

/-- A die whose memory a half can reach: its own, and the partner's unless the loss of the partner was classified DIE DOWN or the
half works as a device of its own (R71, R442). -/
def Half.dieReach (x : Half) (d : Nat) : Bool :=
  d == x.id.num ||
  !(x.tdm.partnerDieDown || x.tdm.lossClass == some .dieDown || x.tdm.st == .solo || x.tdm.st == .unpaired)

/-- A local offset exists and can be reached (R136, Table 06-3). -/
def Half.devOk (x : Half) (off : Nat) : Bool :=
  decide (off < 2 ^ 46) && decide (inDie off < dieBytes) && x.dieReach (dieOf off)

/-- The coherent-window map (R291): an enabled DEVICE window of a partition that holds a local offset. -/
def Half.devWindow (x : Half) (part off : Nat) : Option Nat :=
  (x.obj.windows.find? (fun w => w.2.enabled && w.2.kind == 1 && w.2.part == part && decide (w.2.base ≤ off) &&
    decide (off < w.2.base + w.2.size))).map (·.1)

/-- A local offset lies in the data part of a SEALED region of a context (R419). -/
def Half.sealedRegion (x : Half) (ctx off : Nat) : Option (Nat × Region × Nat) :=
  (x.obj.regions.find? (fun r =>
    let lo := (r.2.off / 2 ^ 40 % 2) * 2 ^ 45 + r.2.off % 2 ^ 40
    r.2.sealed && r.2.ctx == ctx && decide (lo ≤ off) && decide (off < lo + r.2.size / 128 * 127))).map (fun r =>
      (r.1, r.2, (r.2.off / 2 ^ 40 % 2) * 2 ^ 45 + r.2.off % 2 ^ 40))

/-- What a CONFIDENTIAL context may not reach by a leaf at an address (R409). -/
def Half.sealRefuse (x : Half) (c : Ctx) (ctx va : Nat) (write : Bool) (e : Nat) : Bool :=
  let page := va / 4096 * 4096
  if bitAt e 10 then
    if eTarget e = 2 then true
    else if eTarget e = 1 then !(decide (c.sealSize ≠ 0) && meets page 4096 c.sealVa c.sealSize)
    else (x.sealedRegion ctx (eFrame e + va % pageBytes (eSize e))).isNone
  else write && eTarget e == 1 &&
    !(decide (c.sealSize ≠ 0) && meets page 4096 c.sealMeta (c.sealSize / 4096 * 32)) &&
    !(decide (c.eventLog2 ≠ 0) && meets page 4096 c.eventVa (64 + 32 * 2 ^ c.eventLog2))

/-- A leaf checked against the access that reached it (Table 06-3, after VALID and R138): the DETAIL of the first failure. -/
def leafCheck (x : Half) (c : Ctx) (ctx va : Nat) (write : Bool) (e : Nat) : Option Nat :=
  if write && !bitAt e 7 then some 0x01
  else if !write && !bitAt e 6 then some 0x02
  else if eTarget e = 2 ∧ ¬ c.fabric then some 0x04
  else if eTarget e = 0 ∧ ¬ x.devOk (eFrame e) then some 0x05
  else if (bitAt e 10 && !c.confidential) || (c.confidential && x.sealRefuse c ctx va write e) then some 0x06
  else if bitAt e 9 != (eTarget e == 0 && (x.devWindow c.part (eFrame e)).isSome) then some 0x07
  else none

/-- Index of an address in its table at a level. -/
def levelIdx (va level : Nat) : Nat := (va >>> (12 + 9 * (level - 1))) % 512

/-- The 16-entry group that holds an entry of a table (R137), or none where the read fails (Table 06-3). A host table is read
through a port of the half that is up and not contained (R134). -/
def readGroup (ms : MemSys) (x : Half) (host : Bool) (table idx : Nat) : Option (List Nat) :=
  let a := table + idx / 16 * 128
  if host then
    if (x.port 0).up && !(x.port 0).contained || (x.port 1).up && !(x.port 1).contained then
      some ((List.range 16).map (fun k => ms.word true (a + 8 * k)))
    else none
  else if x.devOk a ∧ ¬ ms.poisoned a 128 then some ((List.range 16).map (fun k => ms.word false (a + 8 * k)))
  else none

/-- Leaf j of a group continues leaf i: same SIZE, TARGET and bits [11:6], pages in step (R137). -/
def spanMate (g : List Nat) (i j : Nat) : Bool :=
  let a := g.getD i 0
  let b := g.getD j 0
  eValid b && eLeaf b && eSize a == eSize b && eTarget a == eTarget b && bits a 11 6 == bits b 11 6 &&
  eFrame a + j * pageBytes (eSize a) == eFrame b + i * pageBytes (eSize a)

/-- Start and end of the span around leaf i of a group, and whether a RUN was refused (R137). -/
def spanOf (merge : Bool) (g : List Nat) (i : Nat) : Nat × Nat × Bool :=
  if ¬ merge then (i, i, false)
  else
    let ok (s : Nat) : Bool := (List.range (i - s + 1)).all (fun d =>
      spanMate g i (s + d) && eRun (g.getD (s + d) 0) == eRun (g.getD i 0) + (i - (s + d)))
    let s := ((List.range (i + 1)).find? ok).getD i
    let e := s + eRun (g.getD s 0)
    if e ≤ 15 ∧ (List.range (e - s + 1)).all (fun d => spanMate g i (s + d)) then (s, e, false) else (i, i, true)

/-- The span a leaf group gives at index i. -/
def spanFrom (ctx va level : Nat) (g : List Nat) (i s e : Nat) (dirty : Bool) : Span :=
  let l := g.getD s 0
  let pb := pageBytes (level - 1)
  { ctx := ctx, va := va / pb * pb - (i - s) * pb, size := level - 1, pages := e - s + 1, target := eTarget l,
    frame := eFrame l, rd := bitAt l 6, wr := bitAt l 7, coherent := bitAt l 9, sealed := bitAt l 10, slot := bits l 11 11,
    pinned := bitAt l 8, dirty := dirty }

/-- ACCESSED, and DIRTY for a write (R139). -/
def adBits (write : Bool) : Nat := 2 ^ 62 + (if write then 2 ^ 63 else 0)

/-- A walk's next happening. -/
inductive WalkEnd where
  | down (w : Walk) (fill : WEnt)
  | absent
  | prot (detail : Nat) (entry : Nat)
  | leaf (w : Walk) (mismatch : Bool)
  deriving DecidableEq, Repr

/-- AD_UPDATE and MERGE_EN of WQ_XLT_CTRL. -/
def Half.adUpdate (x : Half) : Bool := bitAt (x.reg 0x0100000).toNat 0
def Half.mergeEn (x : Half) : Bool := bitAt (x.reg 0x0100000).toNat 1

/-- One group read of a walk (R139, R140). -/
def walkRead (ms : MemSys) (x : Half) (w : Walk) : WalkEnd :=
  let idx := levelIdx w.miss.va w.level
  let entry := w.table + idx * 8
  match readGroup ms x w.host w.table idx, x.ctx? w.miss.ctx with
  | none, _ => .prot 0x0E entry
  | _, none => .absent
  | some g, some c =>
    let e := g.getD (idx % 16) 0
    if ¬ eValid e then .absent
    else if malformed e w.level then .prot 0x03 entry
    else if ¬ eLeaf e then
      let sp := 2 ^ (12 + 9 * (w.level - 1))
      let t := if eTarget e = 1 then bits e 61 16 * 4096 else eFrame e
      .down { w with level := w.level - 1, host := eTarget e == 1, table := t }
        { ctx := w.miss.ctx, va := w.miss.va / sp * sp, level := w.level - 1, host := eTarget e == 1, table := t }
    else match leafCheck x c w.miss.ctx w.miss.va w.miss.write e with
      | some d => .prot d entry
      | none =>
        let (s, t, mis) := spanOf x.mergeEn g (idx % 16)
        let need := adBits w.miss.write
        let cas := if x.adUpdate then (List.range (t - s + 1)).map (· + s) |>.filter (fun j => Nat.land (g.getD j 0) need != need)
                   else []
        .leaf { w with group := g, cas := cas,
                       span := some (spanFrom w.miss.ctx w.miss.va w.level g (idx % 16) s t (w.miss.write || !x.adUpdate)) } mis

/-- Set index of a span or pointer in the IOTLB (1,024 sets) or the walk cache (512 sets) (R141). -/
def setIndex (va log2Page ctx sets : Nat) : Nat := Nat.xor (va >>> (log2Page + 4)) ctx % sets

/-- Put an entry into a set-associative cache: a set that is full loses an entry the implementation chooses (R141). -/
def cachePut {α : Type} (same : α → Bool) (inSet : α → Bool) (ways draw : Nat) (c : List α) (e : α) : List α :=
  let c1 := c.filter (fun k => !same k)
  let set := c1.filter inSet
  if set.length < ways then e :: c1
  else
    let v := Config.victim draw set.length % set.length
    e :: (c1.foldl (fun (acc : List α × Nat) k =>
      if inSet k then (if acc.2 = v then (acc.1, acc.2 + 1) else (acc.1 ++ [k], acc.2 + 1)) else (acc.1 ++ [k], acc.2)) ([], 0)).1

/-- Install a span in the L2 IOTLB. -/
def Half.tlbPut (x : Half) (draw : Nat) (s : Span) : Half :=
  let ix (t : Span) : Nat := setIndex t.va (12 + 9 * t.size) t.ctx 1024
  let c := cachePut (fun t => decide (t.ctx = s.ctx) && decide (t.va < s.va + s.bytes) && decide (s.va < t.va + t.bytes))
      (fun t => ix t == ix s) 8 draw x.xlt.iotlb s
  { x with xlt := { x.xlt with iotlb := c } }

/-- Fill the walk cache. -/
def Half.walkPut (x : Half) (draw : Nat) (e : WEnt) : Half :=
  let ix (t : WEnt) : Nat := setIndex t.va (12 + 9 * t.level) t.ctx 512
  let c := cachePut (fun t => t.ctx == e.ctx && t.level == e.level && t.va == e.va) (fun t => ix t == ix e) 4 draw
      x.xlt.wcache e
  { x with xlt := { x.xlt with wcache := c } }

/-- A span in the IOTLB that serves an access: it covers the address, permits the access and, for a write, has DIRTY set
(R139). -/
def Half.tlbHit (x : Half) (ctx va : Nat) (write : Bool) : Option Span :=
  x.xlt.iotlb.find? (fun s => s.covers ctx va && (if write then s.wr && (s.dirty || !x.adUpdate) else s.rd))

/-- A walk at its start: from the deepest cached pointer, else the context's root (R139). -/
def Half.walkBegin (x : Half) (m : Miss) : Walk :=
  let fit := x.xlt.wcache.filter (fun e => e.ctx == m.ctx && decide (e.va ≤ m.va) &&
    decide (m.va < e.va + 2 ^ (12 + 9 * e.level)))
  match fit.foldl (fun (b : Option WEnt) e => match b with
      | none => some e
      | some k => if e.level < k.level then some e else some k) none with
  | some e => { miss := m, level := e.level, host := e.host, table := e.table }
  | none =>
    let r := ((x.ctx? m.ctx).map (·.root)).getD 0
    { miss := m, level := 5, host := bitAt r 63, table := r % 2 ^ 63 }

/-- A walk's outcome. -/
inductive WalkOut where
  | span (s : Span)
  | absent
  | prot (detail : Nat)
  deriving DecidableEq, Repr

/-- One compare-and-swap of a walk (R139): the first table index left; `none` where the entry is no longer as read. -/
def casOne (ms : MemSys) (w : Walk) : Option (MemSys × Walk) :=
  match w.cas with
  | [] => some (ms, w)
  | j :: js =>
    let a := w.table + (levelIdx w.miss.va w.level / 16 * 16 + j) * 8
    let e := w.group.getD j 0
    if ms.word w.host a = e then
      some (ms.setWord w.host a (Nat.lor e (adBits w.miss.write)), { w with cas := js })
    else none

/-- Report a malformed entry (kind 0x00) or a failed table read (kind 0x04) at DEFERRED with the address of the entry (R138,
R140, Table 16-2). -/
def Half.walkError (x : Half) (w : Walk) (detail entry : Nat) : Half :=
  x.raiseErr 3 0 (if detail = 0x03 then 0x00 else 0x04) 2 4 entry (some w.miss.part)

/-- A whole walk: group reads, swaps and installation (R139, R140). `fuel` bounds the repeats that changed entries cause. -/
def Mach.walkAll (m : Mach) (h : HalfId) : Nat → Walk → Mach × WalkOut
  | 0, _ => (m, .absent)
  | n + 1, w =>
    let x := m.blk.half h
    match w.span with
    | none =>
      match walkRead m.mem x w with
      | .absent => (m, .absent)
      | .prot d e =>
        ({ m with blk := if d = 0x03 ∨ d = 0x0E then m.blk.upd h (fun y => y.walkError w d e) else m.blk }, .prot d)
      | .down w' f =>
        let (b, i) := m.blk.draw
        Mach.walkAll { m with blk := b.upd h (fun y => y.walkPut i f) } h n w'
      | .leaf w' mis =>
        Mach.walkAll (if mis then { m with blk := m.blk.upd h (fun y => y.bump 0x0100030 31 0 1) } else m) h n w'
    | some s =>
      match w.cas with
      | [] =>
        let (b, i) := m.blk.draw
        ({ m with blk := b.upd h (fun y => y.tlbPut i s) }, .span s)
      | _ :: _ =>
        match casOne m.mem w with
        | some (ms, w') => Mach.walkAll { m with mem := ms } h n w'
        | none =>
          Mach.walkAll { m with blk := m.blk.upd h (fun y => y.bump 0x0100038 31 0 1) } h n
            { w with span := none, cas := [], group := [] }

/-- Translate one access at once: IOTLB, else a walk. -/
def Mach.translate (m : Mach) (h : HalfId) (ctx part va : Nat) (write : Bool) (cls : Nat := 3) : Mach × WalkOut :=
  match (m.blk.half h).tlbHit ctx va write with
  | some s => (m, .span s)
  | none => m.walkAll h 64 ((m.blk.half h).walkBegin { ctx := ctx, va := va, write := write, cls := cls, part := part })

/-! Holder table (R145 to R148). -/

/-- Holder entries of one operand of a packet. -/
def Half.holdersOf (x : Half) (q slot opnd : Nat) : List (Nat × Holder) :=
  x.xlt.holders.filter (fun e => e.2.q == q && e.2.slot == slot && e.2.opnd == opnd)

/-- WINDOW in force: 2 while fewer than a quarter of the entries are free (R145, R147). -/
def Half.window (x : Half) : Nat :=
  if 16384 - x.xlt.holders.length < 4096 then 2 else x.regFld 0x0100000 15 8

/-- A free holder entry; a packet that already holds one leaves the reserve alone (R147). -/
def Half.freeHolder (x : Half) (q slot : Nat) : Option Nat :=
  let used := x.xlt.holders.length
  let mine := x.xlt.holders.any (fun e => e.2.q == q && e.2.slot == slot)
  if used < (if mine then 16384 - 64 * x.regFld 0x0100000 23 16 else 16384) then Tab.free x.xlt.holders 0 16384 else none

/-- Store a holder entry and keep the highest count. -/
def Half.putHolder (x : Half) (n : Nat) (d : Holder) : Half :=
  let hs := Tab.put x.xlt.holders n d
  { x with xlt := { x.xlt with holders := hs, holderMax := max x.xlt.holderMax hs.length } }

/-- Release holder entries that pass a test. -/
def Half.dropHolders (x : Half) (p : Holder → Bool) : Half :=
  { x with xlt := { x.xlt with
      holders := x.xlt.holders.filter (fun e => !p e.2)
      queue := x.xlt.queue.filter (fun q => match q.who with
        | .holder n => match Tab.look x.xlt.holders n with
          | some d => !p d
          | none => true
        | _ => true) } }

/-- A span cut to the part from the page that holds an address on. -/
def Span.fromPage (s : Span) (va : Nat) : Span :=
  let pb := pageBytes s.size
  let k := (va - s.va) / pb
  { s with va := s.va + k * pb, frame := s.frame + k * pb, pages := s.pages - k }

/-- Ask for the span at an address on behalf of a holder: a hit is held at once, a miss joins the walk queue (R144, R145). The
512-entry queue holds back what does not fit (R144). -/
def Half.holdAt (x : Half) (eng q slot opnd ctx part va : Nat) (write : Bool) (cls : Nat) : Half :=
  match x.freeHolder q slot with
  | none => x
  | some n =>
    match x.tlbHit ctx va write with
    | some s => x.putHolder n { eng := eng, q := q, slot := slot, opnd := opnd, write := write, span := s, st := 1 }
    | none =>
      if x.xlt.queue.length < 512 then
        let y := x.putHolder n { eng := eng, q := q, slot := slot, opnd := opnd, write := write,
                                 span := { ctx := ctx, va := va, pages := 0 } }
        { y with xlt := { y.xlt with queue := y.xlt.queue ++ [{ ctx := ctx, va := va, write := write, cls := cls, part := part,
                                                                 who := .holder n }] } }
      else x

/-- A walk has ended for a holder entry: installed, NOT_PRESENT or PROTECTION. -/
def Half.holderResult (x : Half) (n : Nat) (r : WalkOut) : Half :=
  { x with xlt := { x.xlt with holders := Tab.modify x.xlt.holders n (fun d => match r with
    | .span s => { d with span := s, st := 1, absent := false, stale := false }
    | .absent => { d with absent := true }
    | .prot k => { d with denied := some k }) } }

/-- The holder entry of an operand that covers an address, or stands for it while it is still translated. -/
def Half.holderAt (x : Half) (q slot opnd ctx va : Nat) : Option (Nat × Holder) :=
  (x.holdersOf q slot opnd).find? (fun e => e.2.span.covers ctx va || (e.2.st == 0 && e.2.span.va == va))

end Sys2Proof.Machine
end

