-- ==== Sys2Proof/Machine/Object.lean ====
section
/-! DEFINITION. Frames and their owners, table pages and leaves the block writes, the allocator, and memory objects with their
reference counts (chapter 5, R38, R39, R157, R385). -/
namespace Sys2Proof.Machine

/-- First number from lo on, among n, that passes a test. -/
def findUp (p : Nat → Bool) (lo : Nat) : Nat → Option Nat
  | 0 => none
  | n + 1 => if p lo then some lo else findUp p (lo + 1) n

/-- Last number below lo + n, from lo on, that passes a test. -/
def findDown (p : Nat → Bool) (lo : Nat) : Nat → Option Nat
  | 0 => none
  | n + 1 => if p (lo + n) then some (lo + n) else findDown p lo n

/-- Frames per die, and frames of the block reserve. -/
def dieFrames : Nat := dieBytes / 2 ^ 21
def reserveFrames : Nat := reserveBytes / 2 ^ 21
/-- Frame index (local offset bits [45:21]) of a physical-function view offset (R367). -/
def viewFrame (v : Nat) : Nat := (v / 2 ^ 40 % 2) * 2 ^ 24 + v % 2 ^ 40 / 2 ^ 21
/-- Physical-function view offset of a frame. -/
def frameView (f : Nat) : Nat := (f / 2 ^ 24 % 2) * 2 ^ 40 + f % 2 ^ 24 * 2 ^ 21
/-- Local offset of a frame. -/
def frameAddr (f : Nat) : Nat := f * 2 ^ 21

/-- The partition from 1 to 63 whose range holds a frame (R385). -/
def Half.rangeOf (x : Half) (f : Nat) : Option Nat :=
  (x.obj.parts.find? (fun e => e.1 != 0 && decide (e.2.memSize ≠ 0) && decide (viewFrame e.2.memBase ≤ f) &&
    decide (f < viewFrame e.2.memBase + e.2.memSize / 2 ^ 21))).map (·.1)

/-- The partition a frame belongs to, none for the block reserve and beyond the dies. -/
def Half.framePart (x : Half) (f : Nat) : Option Nat :=
  if f % 2 ^ 24 < reserveFrames ∨ dieFrames ≤ f % 2 ^ 24 ∨ 2 ^ 25 ≤ f then none
  else some ((x.rangeOf f).getD 0)

/-- A frame's owner entry (R39, R385): as programmed for an object; otherwise BLOCK in the reserve, SHARED to a carve-out's
partition, NONE in an allocator partition's range. -/
def Half.frame (x : Half) (f : Nat) : Frame :=
  match Tab.look x.obj.frames f with
  | some e => e
  | none => match x.framePart f with
    | none => { mode := 3 }
    | some p => if (x.part p).allocator then { mode := 0 } else { mode := 2, part := p }

/-- The frame-owner checker's decision (R39). -/
def Half.checkOk (x : Half) (off ctx part : Nat) (priv : Bool) : Bool :=
  let e := x.frame (off / 2 ^ 21)
  priv || (e.mode == 1 && e.owner == ctx) || (e.mode == 2 && e.part == part)

/-- A frame-owner program message (Table 02-5). -/
def checkerMsg (f : Nat) (e : Frame) : Nat := e.mode * 2 ^ 62 + e.part * 2 ^ 56 + e.owner * 2 ^ 36 + f

/-- Send a program message from the half of the frame's die: at most 16 unacknowledged, the rest wait (R38); none after a missed
acknowledgement (R39) and none to a lost half's die (R71). -/
def Blk.checkerSend (b : Blk) (h : HalfId) (msg : Nat) : Blk :=
  let x := b.half h
  if x.dma.checkDead ∨ x.boot.inReset then b
  else if x.dma.unacked < 16 then
    (b.upd h (fun y => { y with dma := { y.dma with unacked := y.dma.unacked + 1 } })).emit (.checker h msg)
  else b.upd h (fun y => { y with dma := { y.dma with checkQ := y.dma.checkQ ++ [msg] } })

/-- Program a frame for an object, or return it to its partition's default. -/
def Blk.program (b : Blk) (h : HalfId) (f : Nat) (e : Option Frame) : Blk :=
  let b1 := b.updObj h (fun o => { o with frames := match e with
    | some v => Tab.put o.frames f v
    | none => Tab.del o.frames f })
  b1.checkerSend (homeOf (frameAddr f)) (checkerMsg f ((b1.half h).frame f))

/-- CHECKER_ACK (R38): the oldest message is acknowledged, and one that waits is sent. -/
def Blk.checkerAck (b : Blk) (h : HalfId) : Blk :=
  let x := b.half h
  if x.dma.unacked = 0 then b
  else
    let b1 := b.upd h (fun y => { y with dma := { y.dma with unacked := y.dma.unacked - 1 } })
    match x.dma.checkQ with
    | [] => b1
    | m :: ms => (b1.upd h (fun y => { y with dma := { y.dma with checkQ := ms } })).checkerSend h m

/-- CHECKER_ACK_TIMEOUT (R39): no acknowledgement for 100 µs; kind 0x16 at FATAL_HALF, and no further messages. -/
def Half.checkerAckTimeout (x : Half) : Half :=
  if x.dma.unacked = 0 ∨ x.dma.checkDead then x
  else { (x.raiseErr 4 0 0x16 4) with dma := { x.dma with checkDead := true, checkQ := [] } }

/-- A frame of a partition that the block neither holds nor has handed out, and that this half may hand out (R71, R122). -/
def Half.frameFree (x : Half) (part f : Nat) : Bool :=
  x.framePart f == some part && (Tab.look x.obj.frames f).isNone && x.dieReach (f / 2 ^ 24) &&
  !(x.tdm.st == .freewheel && x.tdm.lossClass == some .blockDown && f / 2 ^ 24 != x.id.num)

/-- Where a partition's frames lie on a die: (first, count) of its range, or of the whole die behind the reserve for
partition 0. -/
def Half.frameSpan (x : Half) (part die : Nat) : Nat × Nat :=
  if part = 0 then (die * 2 ^ 24 + reserveFrames, dieFrames - reserveFrames)
  else
    let p := x.part part
    if viewFrame p.memBase / 2 ^ 24 = die then (viewFrame p.memBase, p.memSize / 2 ^ 21) else (0, 0)

/-- A free frame for the allocator (R122): the home half's die first; which frame of the die the manual leaves open. -/
def Half.pickFrame (x : Half) (part draw : Nat) : Option Nat :=
  let c := Config.pickFrame draw
  let here := x.frameSpan part x.id.num
  let there := x.frameSpan part x.id.other.num
  let free := x.frameFree part
  match findUp free here.1 here.2 with
  | some f => some (if decide (here.1 ≤ c) && decide (c < here.1 + here.2) && free c then c else f)
  | none => match findUp free there.1 there.2 with
    | some f => some (if decide (there.1 ≤ c) && decide (c < there.1 + there.2) && free c then c else f)
    | none => none

/-- The highest free frame of a carve-out (R124): for partition 0 die B comes before die A. -/
def Half.topFrame (x : Half) (part : Nat) : Option Nat :=
  let hi := x.frameSpan part 1
  let lo := x.frameSpan part 0
  match findDown (x.frameFree part) hi.1 hi.2 with
  | some f => some f
  | none => findDown (x.frameFree part) lo.1 lo.2

/-- Frames of a partition that hold an object or tables, in bytes. -/
def Half.framesUsed (x : Half) (part : Nat) : Nat :=
  (x.obj.frames.filter (fun e => x.framePart e.1 == some part)).length * 2 ^ 21

/-- A partition's memory in bytes (R384). -/
def Half.partBytes (x : Half) (part : Nat) : Nat :=
  if part = 0 then
    2 * (dieBytes - reserveBytes) - (x.obj.parts.foldl (fun n e => if e.1 = 0 then n else n + e.2.memSize) 0)
  else (x.part part).memSize

/-- Clear a 4 KiB page of device memory. -/
def MemSys.zeroPage (m : MemSys) (a : Nat) : MemSys :=
  { m with dev := m.dev.filter (fun c => decide (c.1 < a) || decide (a + 4096 ≤ c.1))
           poison := m.poison.filter (fun b => decide (b * 64 < a) || decide (a + 4096 ≤ b * 64)) }

/-- A zeroed table page for a context (R157): from a table frame of its partition with room, else from a new frame, which takes
MODE BLOCK. -/
def Mach.tablePage (m : Mach) (h : HalfId) (ctx part : Nat) : Option (Mach × Nat) :=
  let x := m.blk.half h
  let mine := x.obj.tables.filter (fun t => t.part == part)
  let pageFree (f k : Nat) : Bool := !(mine.any (fun t => t.addr == frameAddr f + k * 4096))
  let inFrame (f : Nat) : Option Nat := (findUp (pageFree f) 0 512).map (fun k => frameAddr f + k * 4096)
  let old := mine.findSome? (fun t => inFrame (t.addr / 2 ^ 21))
  let take (m : Mach) (a : Nat) : Mach :=
    { m with mem := m.mem.zeroPage a
             blk := m.blk.updObj h (fun o => { o with tables := o.tables ++ [{ addr := a, ctx := ctx, part := part }] }) }
  match old with
  | some a => some (take m a, a)
  | none =>
    let (b, i) := m.blk.draw
    match (if (x.part part).allocator then x.pickFrame part i else x.topFrame part) with
    | none => none
    | some f => some (take { m with blk := b.program h f (some { mode := 3 }) } (frameAddr f), frameAddr f)

/-- The entry a walk of a context's tables reaches for an address: level, table and entry; it stops at a leaf, at an invalid or
malformed entry, or at `stop`. No access check is made. -/
def peek (ms : MemSys) : Nat → Nat → Nat → Bool → Nat → Nat → Nat × Bool × Nat × Nat
  | 0, _, level, host, table, va => (level, host, table, ms.word host (table + levelIdx va level * 8))
  | n + 1, stop, level, host, table, va =>
    let e := ms.word host (table + levelIdx va level * 8)
    if ¬ eValid e ∨ eLeaf e ∨ malformed e level ∨ level = stop then (level, host, table, e)
    else peek ms n stop (level - 1) (eTarget e == 1) (eFrame e) va

/-- Walk a context's tables without checks. -/
def Mach.peekAt (m : Mach) (h : HalfId) (ctx va stop : Nat) : Nat × Bool × Nat × Nat :=
  let r := (((m.blk.half h).ctx? ctx).map (·.root)).getD 0
  peek m.mem 4 stop 5 (bitAt r 63) (r % 2 ^ 63) va

/-- A leaf entry (Table 06-2). -/
def leafEntry (size frame attrs run : Nat) : Nat :=
  frame / 4096 * 2 ^ 16 + run * 2 ^ 12 + attrs + size * 4 + 3

/-- Write one leaf at a level (R157): missing tables are created, each filled before the entry that points to it. -/
def Mach.setLeaf (m : Mach) (h : HalfId) (ctx part va level entry : Nat) : Nat → Option Mach
  | 0 => none
  | n + 1 =>
    let (l, host, table, e) := m.peekAt h ctx va level
    let a := table + levelIdx va l * 8
    if l = level then some { m with mem := m.mem.setWord host a entry }
    else if eValid e then none
    else match m.tablePage h ctx part with
      | none => none
      | some (m1, p) => Mach.setLeaf { m1 with mem := m1.mem.setWord host a (p / 4096 * 2 ^ 16 + 1) } h ctx part va level entry n

/-- Write n leaves, page k with FRAME given by `frameOf k`; every full aligned group of 16 becomes a span (R157). -/
def Mach.setLeaves (m : Mach) (h : HalfId) (ctx part va size attrs total : Nat) (frameOf : Nat → Nat) : Nat → Option Mach
  | 0 => some m
  | n + 1 =>
    let k := total - (n + 1)
    let pb := pageBytes size
    let a := va + k * pb
    let i := levelIdx a (size + 1) % 16
    let run := if i ≤ k ∧ k - i + 16 ≤ total then 15 - i else 0
    let cont := (List.range 16).all (fun j => frameOf (k - i + j) == frameOf (k - i) + j * pb)
    match m.setLeaf h ctx part a (size + 1) (leafEntry size (frameOf k) attrs (if cont then run else 0)) 6 with
    | none => none
    | some m1 => Mach.setLeaves m1 h ctx part va size attrs total frameOf n

/-- Clear VALID in the leaf at an address, if there is one; answers the bytes its page spans. -/
def Mach.clearLeaf (m : Mach) (h : HalfId) (ctx va : Nat) : Mach × Nat :=
  let (l, host, table, e) := m.peekAt h ctx va 0
  if eValid e ∧ eLeaf e then
    ({ m with mem := m.mem.setWord host (table + levelIdx va l * 8) (e - 1) }, pageBytes (l - 1))
  else (m, 2 ^ (12 + 9 * (l - 1)))

/-- Visit a range page by page, from a function that acts at an address and says how far its page reaches. -/
def Mach.overRange (m : Mach) (act : Mach → Nat → Mach × Nat) (va hi : Nat) : Nat → Mach
  | 0 => m
  | n + 1 =>
    if hi ≤ va then m
    else
      let (m1, sp) := act m va
      Mach.overRange m1 act (va / sp * sp + sp) hi n

/-- The entries a range meets, as (level, address the entry covers from, entry). -/
def Mach.entriesOf (m : Mach) (h : HalfId) (ctx va hi : Nat) : Nat → List (Nat × Nat × Nat)
  | 0 => []
  | n + 1 =>
    if hi ≤ va then []
    else
      let (l, _, _, e) := m.peekAt h ctx va 0
      let sp := 2 ^ (12 + 9 * (l - 1))
      (l, va / sp * sp, e) :: Mach.entriesOf m h ctx (va / sp * sp + sp) hi n

/-! ### Objects (R120, R121) -/

/-- Attributes of leaves the block writes itself: PINNED, WRITE and READ (R104), and COHERENT in a window's frames (R291). -/
def blockAttrs (coherent : Bool) : Nat := 2 ^ 8 + 2 ^ 7 + 2 ^ 6 + (if coherent then 2 ^ 9 else 0)

/-- Local offset of byte i of an object. -/
def MemObj.at (o : MemObj) (i : Nat) : Nat :=
  let k := (o.off + i) / 2 ^ 21
  o.frames.getD k 0 + (o.off + i) % 2 ^ 21

/-- Bytes an object fills in its frames, rounded to pages. -/
def MemObj.span (o : MemObj) : Nat := alignUp o.size 4096

/-- An object holds a local offset. -/
def MemObj.holds (o : MemObj) (a : Nat) : Bool :=
  o.frames.contains (a / 2 ^ 21 * 2 ^ 21) &&
  (decide (1 < o.frames.length) || (decide (o.off ≤ a % 2 ^ 21) && decide (a % 2 ^ 21 < o.off + o.span)))

/-- The object that holds a local offset. -/
def Half.objAt (x : Half) (a : Nat) : Option MemObj := x.obj.mems.find? (fun o => o.holds a)

/-- Reference count of an object (R120). -/
def MemObj.count (o : MemObj) : Nat := b2n o.owned + o.mappers.length + o.regions

/-- Rewrite the object that holds a local offset, pair-wide; an object whose count reaches zero waits for OBJECT_RECLAIM. -/
def Blk.updMem (b : Blk) (h : HalfId) (a : Nat) (f : MemObj → MemObj) : Blk :=
  let b1 := b.updObj h (fun o =>
    let ms := o.mems.map (fun k => if k.holds a then f k else k)
    { o with mems := ms.filter (fun k => k.count != 0), dead := o.dead ++ ms.filter (fun k => k.count == 0) })
  match (b1.half h).objAt a with
  | some k => b1.mirror h (.allocator k)
  | none => b1

/-- A context drops a reference it holds on every object that passes a test: its own, or its mapping. -/
def Blk.dropRefs (b : Blk) (h : HalfId) (f : MemObj → MemObj) : Blk :=
  b.updObj h (fun o =>
    let ms := o.mems.map f
    { o with mems := ms.filter (fun k => k.count != 0), dead := o.dead ++ ms.filter (fun k => k.count == 0) })

/-- Frames an allocation of a context may share: private allocations of 1 MiB or less already in them (R122). -/
def Half.packFrames (x : Half) (ctx : Nat) : List Nat :=
  (x.obj.mems.filter (fun o => o.kind == .alloc && o.ctx == ctx && !o.shared && decide (o.size ≤ 2 ^ 20))).flatMap (·.frames)
    |>.eraseDups

/-- A place for n bytes at 4 KiB granularity in a frame. -/
def Half.roomIn (x : Half) (f n : Nat) : Option Nat :=
  let busy := x.obj.mems.filter (fun o => o.frames == [f])
  (findUp (fun k => decide (k * 4096 + n ≤ 2 ^ 21) && busy.all (fun o => !meets (k * 4096) n o.off o.span)) 0 512).map (· * 4096)

/-- A free address range of the heap (R122): the manual leaves the choice open, so a free value is taken where it fits, and the
lowest fit otherwise. -/
def Half.heapFit (x : Half) (c : Ctx) (id n align draw : Nat) : Option Nat :=
  let busy := x.obj.mems.filter (fun o => o.kind == .alloc && o.ctx == id && o.owned)
  let ok (va : Nat) : Bool := decide (c.heapVa ≤ va) && decide (va + n ≤ c.heapVa + c.heapSize) && va % align == 0 &&
    busy.all (fun o => !meets va n o.va (alignUp o.size 4096))
  let pick := Config.heapPlace draw n
  let starts := (alignUp c.heapVa align) :: busy.map (fun o => alignUp (o.va + alignUp o.size 4096) align)
  match starts.filter ok with
  | [] => none
  | s :: ss => some (if ok pick then pick else ss.foldl min s)

/-- n frames for the allocator, programmed for an object. -/
def Mach.takeFrames (m : Mach) (h : HalfId) (part : Nat) (e : Frame) : Nat → Option (Mach × List Nat)
  | 0 => some (m, [])
  | n + 1 =>
    let (b, i) := m.blk.draw
    match (m.blk.half h).pickFrame part i with
    | none => none
    | some f => match Mach.takeFrames { m with blk := b.program h f (some e) } h part e n with
      | none => none
      | some (m1, fs) => some (m1, frameAddr f :: fs)

/-- Write the leaves of an object at its address in its owner's tables (R104): 4 KiB leaves for a part of a frame, 2 MiB leaves
for whole frames. -/
def Mach.objLeaves (m : Mach) (h : HalfId) (o : MemObj) (coherent : Bool) : Option Mach :=
  if o.va % 2 ^ 21 = 0 ∧ o.off = 0 ∧ o.size % 2 ^ 21 = 0 then
    m.setLeaves h o.ctx o.part o.va 1 (blockAttrs coherent) (o.size / 2 ^ 21) (fun k => o.at (k * 2 ^ 21)) (o.size / 2 ^ 21)
  else
    m.setLeaves h o.ctx o.part o.va 0 (blockAttrs coherent) (o.span / 4096) (fun k => o.at (k * 4096)) (o.span / 4096)

/-- ALLOC (R122): status, DETAIL and RESULT. -/
def Mach.alloc (m : Mach) (h : HalfId) (id size align : Nat) (shared : Bool) : Mach × Nat × Nat × Nat :=
  let x := m.blk.half h
  match x.ctx? id with
  | none => (m, 0x40, 0, 0)
  | some c =>
    let small := !shared && decide (size ≤ 2 ^ 20)
    let n := if small then alignUp size 4096 else alignUp size (2 ^ 21)
    let al := if small then 2 ^ align else max (2 ^ align) (2 ^ 21)
    let (b, i) := m.blk.draw
    match x.heapFit c id n al i with
    | none => (m, 0x40, 0, 0)
    | some va =>
      let e : Frame := if shared then { mode := 2, part := c.part } else { mode := 1, part := c.part, owner := id }
      let packed := if small then (x.packFrames id).findSome? (fun f => (x.roomIn f n).map (fun o => (f, o))) else none
      let got : Option (Mach × List Nat × Nat) := match packed with
        | some (f, o) => some ({ m with blk := b }, [f], o)
        | none => (Mach.takeFrames { m with blk := b } h c.part e (if small then 1 else n / 2 ^ 21)).map (fun r => (r.1, r.2, 0))
      match got with
      | none => (m, 0x40, 0, 0)
      | some (m1, fs, off) =>
        let o : MemObj := { ctx := id, part := c.part, va := va, size := n, frames := fs, off := off, shared := shared }
        let co := (x.devWindow c.part (fs.headD 0)).isSome
        match m1.objLeaves h o co with
        | none => (m, 0x40, 0, 0)
        | some m2 =>
          let b2 := (m2.blk.updObj h (fun k => { k with mems := k.mems ++ [o] })).mirror h (.allocator o)
          ({ m2 with blk := b2 }, 0, 0, va)

/-- Drop every translation of a set of frames from a half's caches (R121). -/
def Half.purgeFrames (x : Half) (fs : List Nat) : Half :=
  { x with xlt := { x.xlt with iotlb := x.xlt.iotlb.filter (fun s =>
      !(s.target == 0 && fs.any (fun f => meets s.frame s.bytes f (2 ^ 21)))) } }

/-- A dead object goes back to the allocator: each of its frames that nothing else lies in takes its default owner again (its owner's
leaves went with the owner's reference). On a lost half's die this waits (R71). -/
def Mach.reclaimObj (m : Mach) (h : HalfId) (o : MemObj) : Mach :=
  let x := m.blk.half h
  if o.frames.all (fun f => x.dieReach (dieOf f) && !(x.tdm.st == .freewheel && dieOf f != x.id.num)) then
    let b1 := m.blk.updObj h (fun k => { k with dead := k.dead.erase o })
    let lone := o.frames.filter (fun f => !(x.obj.mems ++ x.obj.dead.erase o).any (fun k => k.frames.contains f))
    let b2 := (b1.upd .A (fun y => y.purgeFrames lone)).upd .B (fun y => y.purgeFrames lone)
    { m with blk := lone.foldl (fun b f => b.program h (f / 2 ^ 21) none) b2 }
  else m

/-- OBJECT_RECLAIM (R121): the oldest object that can be reclaimed, its translations invalidated, goes back to the allocator. -/
def Mach.reclaim (m : Mach) (h : HalfId) : Mach :=
  let x := m.blk.half h
  match x.obj.dead.find? (fun o => o.frames.all (fun f => x.dieReach (dieOf f) &&
      !(x.tdm.st == .freewheel && dieOf f != x.id.num))) with
  | none => m
  | some o => m.reclaimObj h o

end Sys2Proof.Machine
end

