-- ==== Sys2Proof/Machine/Access.lean ====
section
/-! DEFINITION. Turning a packet's address into a place: physical form, holder entries, walks and ATS results (R78, R145, R148 to
R151, R200). -/
namespace Sys2Proof.Machine

/-- The host port through which a packet of a queue reaches host memory (R200): partition 0 uses its ring port's logical number on
the half that executes it; a virtual-function partition uses pair port 0. -/
def Blk.dataPort (b : Blk) (q : Nat) : Nat :=
  let r := b.getQ q
  if r.part = 0 then (b.queueHome q).num * 2 + r.ringPort % 2 else 0

/-- What became of an access. -/
inductive Res where
  | ok (p : Place) (pageEnd : Nat)
  | absent
  | prot (detail : Nat)
  | wait
  deriving DecidableEq, Repr

/-- A physical address of an admin packet (R78): the page is its aligned 4 KiB block (R175). -/
def physPlace (a : Nat) : Res :=
  let e := a / 4096 * 4096 + 4096
  if bitAt a 63 then .ok (.host (a % 2 ^ 63) false 0) e else .ok (.dev (a % 2 ^ 46)) e

/-- Where an address of a held span lands (R136, R150, R151). -/
def Span.place (s : Span) (va : Nat) (ats : Option Nat) : Place :=
  match s.target, ats with
  | 0, _ => .dev (s.phys va)
  | 1, some a => .host (a + va % 4096) true s.ctx
  | 1, none => .host (s.phys va) false s.ctx
  | _, _ => .fab (s.phys va)

/-- End of the page that holds an address of a span. -/
def Span.pageEnd (s : Span) (va : Nat) : Nat :=
  let pb := pageBytes s.size
  va / pb * pb + pb

/-- Run at once the walk that a holder entry waits for. -/
def Mach.runMiss (m : Mach) (h : HalfId) (n : Nat) : Mach :=
  let x := m.blk.half h
  match x.xlt.queue.find? (fun q => q.who == .holder n) with
  | none => m
  | some q =>
    let b := m.blk.upd h (fun y => { y with xlt := { y.xlt with queue := y.xlt.queue.erase q } })
    let (m1, r) := Mach.walkAll { m with blk := b } h 64 (x.walkBegin q)
    { m1 with blk := m1.blk.upd h (fun y => y.holderResult n r) }

/-- ATS requests outstanding on a pair port (R149). -/
def Half.atsBusy (x : Half) (pp : Nat) : Nat :=
  (x.xlt.holders.filter (fun e => match e.2.atsOut with
    | some (p, _) => p == pp
    | none => false)).length

/-- Ask the host IOMMU for a span's pages from an address on (R148): at most 256 requests wait per port (R149). -/
def Blk.atsAsk (b : Blk) (h : HalfId) (n pp va : Nat) : Blk :=
  let x := b.half h
  match Tab.look x.xlt.holders n with
  | none => b
  | some d =>
    if d.atsOut.isSome ∨ 256 ≤ x.atsBusy pp then b
    else
      let pb := pageBytes d.span.size
      let first := (va - d.span.va) / 4096
      (b.upd h (fun y => { y with xlt := { y.xlt with holders := Tab.modify y.xlt.holders n (fun k =>
        { k with atsOut := some (pp, first) }) } })).emit
        (.atsRequest pp d.span.ctx (d.span.frame + first * 4096) (d.span.pages * (pb / 4096) - first) d.write)

/-- Where an access of a packet lands: through the operand's holder entry, which is made if there is none. `sync` runs the walk at
once; otherwise a miss waits for its Spoke. -/
def Mach.resolve (m : Mach) (h : HalfId) (q slot opnd eng ctx part va : Nat) (write : Bool) (pp : Nat) (sync : Bool) : Mach × Res :=
  if q = 0 then (m, physPlace va)
  else
    let m1 := match (m.blk.half h).holderAt q slot opnd ctx va with
      | some _ => m
      | none => { m with blk := m.blk.upd h (fun y => y.holdAt eng q slot opnd ctx part va write 3) }
    let m2 := if sync then
        match (m1.blk.half h).holderAt q slot opnd ctx va with
        | some (n, d) => if d.st = 0 ∧ ¬ d.absent ∧ d.denied.isNone then m1.runMiss h n else m1
        | none => m1
      else m1
    match (m2.blk.half h).holderAt q slot opnd ctx va with
    | none => (m2, .wait)
    | some (n, d) =>
      if d.absent then (m2, .absent)
      else match d.denied with
        | some k => (m2, .prot k)
        | none =>
          if d.st ≠ 1 then (m2, .wait)
          else if d.span.target = 1 ∧ ((m2.blk.half (HalfId.ofPort pp)).fn (pp % 2) part).ats then
            match Tab.look d.ats ((va - d.span.va) / 4096) with
            | some a => (m2, .ok (d.span.place va (some a)) (d.span.pageEnd va))
            | none => ({ m2 with blk := m2.blk.atsAsk h n pp va }, .wait)
          else (m2, .ok (d.span.place va none) (d.span.pageEnd va))

/-- Release a packet's holder entries (R146). -/
def Blk.release (b : Blk) (h : HalfId) (q slot : Nat) : Blk :=
  b.upd h (fun y => y.dropHolders (fun d => d.q == q && d.slot == slot))

/-- An access to a place can be made now: a device address in reach, or a host port that can send (R210, R504). -/
def Blk.placeReady (b : Blk) (pp part : Nat) : Place → Bool
  | .host _ _ _ => b.portReady pp part
  | _ => true

end Sys2Proof.Machine
end

