-- ==== Sys2Proof/Machine/Windows.lean ====
section
/-! DEFINITION. Which lines of coherent windows are held by a chiplet or the host, so that an access of the block must be ordered by their
home (R291, R313). -/
namespace Sys2Proof.Machine

/-- An enabled DEVICE window of any partition that holds an offset. -/
def Half.anyWindow (x : Half) (off : Nat) : Option Nat :=
  (x.obj.windows.find? (fun w => w.2.enabled && w.2.kind == 1 && decide (w.2.base ≤ off) && decide (off < w.2.base + w.2.size))).map (·.1)

/-- A line of a HOST window (Table 11-1); a DEVICE line's local offset. -/
def lineHost (line : Nat) : Bool := bitAt line 40
def lineOff (line : Nat) : Nat := line % 2 ^ 40 * 64
/-- The tags of a line: (key, state). -/
def Half.tagsOf (x : Half) (line : Nat) : List (Nat × Nat) :=
  (x.coh.tags.filter (fun t => t.2.1 == line)).map (fun t => (t.1, t.2.2))
/-- The directory entry of a line. -/
def Half.hrdOf (x : Half) (line : Nat) : Option (Nat × HrdEnt) := x.coh.hrd.find? (fun e => e.2.line == line)

/-- Lines a device access touches. -/
def winLines (a n : Nat) : List Nat := (List.range ((a + n + 63) / 64 - a / 64)).map (fun i => a / 64 + i)

/-- A line of a DEVICE window that some chiplet or the host holds, or that has a transaction: an access of a channel goes to its home. -/
def Blk.lineHeld (b : Blk) (line : Nat) : Bool :=
  let x := b.half (homeOf (lineOff line))
  !(x.tagsOf line).isEmpty || (x.hrdOf line).isSome || x.coh.txns.any (fun t => t.line == line)

/-- An access of a channel must be ordered by the home: it lies in an enabled window and a line of it is held. -/
def Blk.toHome (b : Blk) (h : HalfId) (a n : Nat) : Bool :=
  ((b.half h).anyWindow a).isSome && (winLines a n).any b.lineHeld

end Sys2Proof.Machine
end

