-- ==== Sys2Proof/Machine/Fence.lean ====
section
/-! DEFINITION. Fences, waiters and events (R111 to R119). -/
namespace Sys2Proof.Machine

/-- Where a fence address leads (R111). -/
inductive FenceAt where
  | area (off : Nat)
  | fabric (addr : Nat)
  | outside
  | absent
  | prot (detail : Nat)
  | wait
  deriving DecidableEq, Repr

/-- The fence area of a partition that holds a local offset; another half's objects are not needed, since both hold them. -/
def Half.areaAt (x : Half) (part off : Nat) : Option MemObj :=
  x.obj.mems.find? (fun o => o.kind == .fenceArea && o.part == part && o.holds off)

/-- Resolve a fence address (R111). -/
def Mach.fenceAt (m : Mach) (h : HalfId) (q slot ctx part va : Nat) (write sync : Bool) : Mach × FenceAt :=
  let (m1, r) := m.resolve h q slot 3 0xFFFF ctx part va write (m.blk.dataPort q) sync
  (m1, match r with
    | .ok (.dev off) _ => if ((m1.blk.half h).areaAt part off).isSome then .area off else .outside
    | .ok (.fab a) _ => .fabric a
    | .ok (.host _ _ _) _ => .outside
    | .absent => .absent
    | .prot d => .prot d
    | .wait => .wait)

/-- The half whose fence unit serves a fence word (R113, R118): the half of its die, or the survivor. -/
def Blk.fenceHome (b : Blk) (off : Nat) : HalfId :=
  let h := homeOf off
  if (b.half h.other).tdm.st = .freewheel ∧ ¬ (b.half h).serves then h.other else h

/-- The outcome of a waiter by the first matching row of Table 05-7: status and DETAIL, none where it keeps waiting. -/
def waitOutcome (word value abandoned : Nat) (expired : Bool) : Option (Nat × Nat) :=
  if bitAt word 63 ∧ abandoned ≠ 0 then some (0x33, abandoned)
  else if value ≤ word % 2 ^ 63 then some (0, if bitAt word 63 then 1 else 0)
  else if expired then some (0x32, 0)
  else none

/-- Complete a waiter if its fence lets it (R115); RESULT is the fence word as observed. Completion is a fence acquire: it advances
the context's GEN (R280), and waits for the scrub pass where that would be one advance too many (R281). -/
def Mach.waiterTry (m : Mach) (fh : HalfId) (w : Waiter) (expired : Bool) : Mach :=
  let word := m.mem.word false w.fence
  let ab := (((m.blk.half fh).obj.mems.find? (fun o => o.kind == .fenceArea && o.holds w.fence)).map (·.abandoned)).getD 0
  match waitOutcome word w.value ab expired with
  | none => m
  | some (st, d) =>
    let h := m.blk.queueHome w.ref.q
    if ¬ (m.blk.half h).mayAdvance w.ctx then m
    else
      let b1 := m.blk.upd fh (fun x => { x with waiters := x.waiters.filter (fun k => k.ref != w.ref) })
      let b2 := if w.ctx = 0 then b1 else b1.upd h (fun x => x.advance w.ctx false)
      { m with blk := (b2.finish h w.ref st d word 0 none).release h w.ref.q w.ref.slot }

/-- Wake the waiters of a fence that hold an entry (R116). -/
def Mach.wake (m : Mach) (fh : HalfId) (off : Nat) : Mach :=
  ((m.blk.half fh).waiters.filter (fun w => w.entry && w.fence == off)).foldl (fun k w => k.waiterTry fh w false) m

/-- FENCE_SIGNAL applied by the fence unit (R113): status and DETAIL. A trailer's refusal is journalled and leaves its packet's
reply alone. -/
def Mach.fenceApply (m : Mach) (off value : Nat) (err : Bool) (ctx : Nat) (trailer : Bool) : Mach × Nat × Nat :=
  let fh := m.blk.fenceHome off
  let x := m.blk.half fh
  let old := m.mem.word false off
  let ab := ((x.obj.mems.find? (fun o => o.kind == .fenceArea && o.holds off)).map (·.abandoned)).getD 0
  let note (y : Half) : Half := y.journal (m.clk.now fh) ⟨3, ctx⟩ 15 off old value
  if bitAt old 63 ∧ ab ≠ 0 then
    ({ m with blk := if trailer then m.blk.upd fh note else m.blk }, 0x12, 0x08)
  else if value < old % 2 ^ 63 then
    let b := m.blk.upd fh note
    ({ m with blk := if trailer then b else b.updPair fh (fun y => y.bump 0x0030060 31 0 1) }, 0x31, 0)
  else
    let v := value % 2 ^ 63 + (if err then 2 ^ 63 else 0)
    (Mach.wake { m with mem := m.mem.setWord false off v } fh off, 0, 0)

/-- Set bit 63 of n fence words from an address on. -/
def abandonWords (ms : MemSys) (a : Nat) : Nat → MemSys
  | 0 => ms
  | n + 1 =>
    let v := ms.word false a
    abandonWords (if bitAt v 63 then ms else ms.setWord false a (v + 2 ^ 63)) (a + 8) n

/-- A context's fence area becomes ABANDONED (R117), with the DETAIL its waiters will carry: 1 owner lost, 2 owner destroyed. -/
def Mach.abandon (m : Mach) (h : HalfId) (ctx why : Nat) : Mach :=
  match (m.blk.half h).obj.mems.find? (fun o => o.kind == .fenceArea && o.ctx == ctx && o.abandoned == 0 && o.owned) with
  | none => m
  | some o =>
    let b := m.blk.updObj h (fun k => { k with mems := k.mems.map (fun e => if e = o then { e with abandoned := why } else e) })
    let a := o.at 0
    let m1 : Mach := { m with mem := abandonWords m.mem a (o.size / 8), blk := b }
    let fh := b.fenceHome a
    ((b.half fh).waiters.filter (fun w => o.holds w.fence)).foldl (fun k w => k.waiterTry fh w false) m1

/-- FENCE_WAIT (R115, R116): complete by the word as it stands, or register; a waiter that finds no entry polls. -/
def Mach.fenceWait (m : Mach) (ref : PktRef) (ctx off value limit start : Nat) : Mach :=
  let fh := m.blk.fenceHome off
  let used := ((m.blk.half fh).waiters.filter (·.entry)).length
  let w : Waiter := { ref := ref, ctx := ctx, fence := off, value := value, limit := limit, start := start,
                      entry := decide (used < 4096) }
  let b := m.blk.upd fh (fun x => { x with waiters := x.waiters ++ [w] })
  Mach.waiterTry { m with blk := b } fh w (limit != 0 && decide (start + limit ≤ m.clk.now fh))

/-- FENCE_WAIT_POLL (R116): a waiter without an entry re-reads its word, taking an entry if one is free. -/
def Mach.fencePoll (m : Mach) (fh : HalfId) (q slot : Nat) : Mach :=
  match (m.blk.half fh).waiters.find? (fun w => w.ref.q == q && w.ref.slot == slot && !w.entry) with
  | none => m
  | some w =>
    let used := ((m.blk.half fh).waiters.filter (·.entry)).length
    let m1 := if used < 4096 then
        { m with blk := m.blk.upd fh (fun x => { x with waiters := x.waiters.map (fun k => if k = w then { k with entry := true } else k) }) }
      else m
    m1.waiterTry fh (if used < 4096 then { w with entry := true } else w) false

/-- FENCE_WAIT_TIMEOUT (R115): LIMIT has elapsed since dispatch. -/
def Mach.fenceTimeout (m : Mach) (fh : HalfId) (q slot : Nat) : Mach :=
  match (m.blk.half fh).waiters.find? (fun w => w.ref.q == q && w.ref.slot == slot && w.limit != 0) with
  | none => m
  | some w => m.waiterTry fh w true

/-- An event record (Table 05-8). -/
def eventRecord (payload event ctx time tag : Nat) : List Byte :=
  leBytes 8 payload ++ leBytes 2 event ++ [0, 0] ++ leBytes 4 ctx ++ leBytes 8 time ++ leBytes 8 tag

/-- Read and write 8 bytes or more at a place. -/
def MemSys.readAt (ms : MemSys) (p : Place) (n : Nat) : List Byte :=
  match p with
  | .dev a => ms.readDev a n
  | .host a _ _ => ms.readHost a n
  | .fab _ => List.replicate n 0
def MemSys.writeAt (ms : MemSys) (p : Place) (bs : List Byte) : MemSys :=
  match p with
  | .dev a => ms.writeDev a bs
  | .host a _ _ => ms.writeHost a bs
  | .fab _ => ms

end Sys2Proof.Machine
end

