-- ==== Sys2Proof/Machine/Fab.lean ====
section
/-! DEFINITION. The Peloton fabric (chapter 12): ports, lanes, routes, requests this package makes, and requests it serves. What a
result does to its requester is in Machine/Deliver.lean. -/
namespace Sys2Proof.Machine

def Half.fabPort (x : Half) (p : Nat) : FabPort := Tab.dflt x.fab.ports p {}
def Half.updFabPort (x : Half) (p : Nat) (f : FabPort → FabPort) : Half :=
  { x with fab := { x.fab with ports := Tab.upd x.fab.ports p {} f } }

/-- State of pair port pp (16 × HALF + logical port). -/
def Blk.optPort (b : Blk) (pp : Nat) : FabPort := (b.half (if pp / 16 % 2 = 0 then .A else .B)).fabPort (pp % 16)
/-- UP or NARROW. -/
def FabPort.carries (p : FabPort) : Bool := p.st == 2 || p.st == 3

/-- Pair ports UP or NARROW, as a mask (WQ_FAB_STATUS). -/
def Blk.portsUp (b : Blk) : Nat :=
  (List.range 32).foldl (fun m pp => if (b.optPort pp).carries then m + 2 ^ pp else m) 0

/-- The route in force to a package: PRIMARY, or ALTERNATE once switched (R352). -/
def Half.routeMask (x : Half) (d : Nat) : Nat :=
  let r := Tab.dflt x.obj.routes d {}
  if x.fab.switched.contains d then r.alternate else r.primary

/-- Hash slots of the candidate ports (R335): two for an UP port, one for a NARROW one; the half's own ports if it has any. -/
def Blk.portSlots (b : Blk) (h : HalfId) (mask : Nat) : List Nat :=
  let cand (k : HalfId) := ((List.range 16).map (· + 16 * k.num)).filter (fun pp => bitAt mask pp && (b.optPort pp).carries)
  let own := cand h
  let use := if own.isEmpty ∧ b.linked then cand h.other else own
  use.flatMap (fun pp => if (b.optPort pp).st = 2 then [pp, pp] else [pp])

/-- The port the hash selects (R335). -/
def Blk.pickPort (b : Blk) (h : HalfId) (mask k1 k2 k3 : Nat) : Option Nat :=
  let s := b.portSlots h mask
  if s.isEmpty then none else s[Config.fabHash k1 k2 k3 % s.length]?

def Half.requestPort (x : Half) (b : Blk) (dst addr : Nat) : Option Nat :=
  b.pickPort x.id (x.routeMask dst) dst (addr / 256) x.id.num
def Half.responsePort (x : Half) (b : Blk) (dst tag : Nat) : Option Nat :=
  b.pickPort x.id (x.routeMask dst) dst tag 2

/-! ### Requests served here (R337 to R343) -/

/-- The grant for a requester with a right (WQ_FAB_GRANT bit), as its LCTX (R339). -/
def Half.grantFor (x : Half) (src ctx right : Nat) : Option Nat :=
  (x.obj.grants.find? (fun g => bitAt g.2 63 && bits g.2 51 40 == src && bits g.2 39 20 == ctx && bitAt g.2 right)).map
    (fun g => bits g.2 19 0)

/-- A NACK this package sends: counted and reported (R339, R358). -/
def Half.nackCount (x : Half) (reason : Nat) (p : FabPkt) : Half :=
  if reason = 3 then (x.bump 0x0500048 63 32 1).raiseErr 10 0 0x36 0 10 p.addr
  else if reason = 6 then x.raiseErr 10 0 0x38 2 10 p.addr
  else if reason = 4 then x
  else (x.bump 0x0500048 31 0 1).raiseErr 10 0 0x35 0 10 p.addr

/-- An inbound request against R339: its local context and partition, or the NACK reason of the first check that fails. -/
def Half.inboundCheck (x : Half) (p : FabPkt) : Nat × Nat × Nat :=
  let right := if p.ty = 1 then 60 else if p.ty = 2 then 61 else 62
  match x.grantFor p.src p.ctx right with
  | none => (1, 0, 0)
  | some l =>
    match x.ctx? l with
    | none => (2, 0, 0)
    | some c =>
      if c.st ≠ .active ∨ ¬ c.fabric then (2, 0, 0)
      else if ¬ x.devOk p.addr then (5, 0, 0)
      else if p.ty = 3 ∧ p.code = 3 ∧ (p.addr % 8 ≠ 0 ∨ (x.areaAt c.part p.addr).isNone) then (7, 0, 0)
      else if ¬ x.checkOk p.addr l c.part false then (3, 0, 0)
      else (0, l, c.part)

/-- A read, write or atomic done on device memory (R342, R343). -/
def Mach.memOp (m : Mach) (p : FabPkt) (ctx : Nat) : Mach × FabRes :=
  if p.ty = 1 then (m, .data (m.mem.readDev p.addr p.len) (m.mem.poisoned p.addr p.len))
  else if p.ty = 2 then ({ m with mem := m.mem.writeDev p.addr (p.payload.take p.len) p.poison }, .ack)
  else if p.code = 3 then
    let w := leNat (p.payload.take 8)
    let (m1, st, _) := m.fenceApply p.addr (w % 2 ^ 63) (bitAt w 63) ctx false
    (m1, .atomic (m1.mem.word false p.addr) (if st = 0 then 0 else if st = 0x31 then 1 else 2) false)
  else
    let old := m.mem.word false p.addr
    if m.mem.poisoned p.addr 8 then (m, .atomic old 0 true)
    else
      let a := leNat (p.payload.take 8)
      let b := leNat ((p.payload.drop 8).take 8)
      let new := if p.code = 1 then (old + a) % 2 ^ 64 else if old = a then b else old
      ({ m with mem := m.mem.setWord false p.addr new }, .atomic old 0 false)

/-- A request to window lines that some cache holds joins those the home will serve (R313). -/
def Blk.toWindow (b : Blk) (p : FabPkt) (ctx : Nat) (h : HalfId) (tag : Option Nat) : Blk :=
  let home := homeOf p.addr
  b.upd home (fun x => { x with coh := { x.coh with
    fabIn := x.coh.fabIn ++ [{ id := x.coh.next, pkt := { p with hop := h.num }, ctx := ctx, tag := tag }], next := x.coh.next + 1 } })

/-- Serve a request at this package (R339, R340): its result, or none where a coherent window's home will serve it (R313). -/
def Mach.serve (m : Mach) (h : HalfId) (p : FabPkt) : Mach × Option FabRes :=
  if p.ty = 4 then (m, some .pong)
  else
    let (reason, l, _) := (m.blk.half h).inboundCheck p
    if reason ≠ 0 then ({ m with blk := m.blk.upd h (fun x => x.nackCount reason p) }, some (.nack reason))
    else if m.blk.toHome (homeOf p.addr) p.addr (max p.len 8) then (m, none)
    else
      let (m1, r) := m.memOp p l
      (m1, some r)

/-- The response packet for a result. -/
def respPkt (p : FabPkt) (r : FabRes) : FabPkt :=
  let base : FabPkt := { srcHalf := p.srcHalf, tag := p.tag, dst := p.src, src := p.src, ctx := p.ctx }
  match r with
  | .data bs po => { base with ty := 0x11, poison := po, len := bs.length, payload := bs }
  | .ack => { base with ty := 0x12 }
  | .atomic old code po => { base with ty := 0x13, code := code, poison := po, len := 8, payload := leBytes 8 old }
  | .pong => { base with ty := 0x14 }
  | .nack k => { base with ty := 0x1F, code := k }
  | .unreachable => { base with ty := 0x1F, code := 4 }

/-- Send a response by the route of the requesting package (R335). -/
def Blk.respond (b : Blk) (h : HalfId) (p : FabPkt) (r : FabRes) : Blk :=
  let q := respPkt p r
  match (b.half h).responsePort b q.dst q.tag with
  | some port => b.emit (.fabric port q)
  | none => b

/-! ### Requests made here (R335, R336, R345) -/

/-- The Peloton packet of a request. -/
def FabReq.pkt (r : FabReq) (tag src half : Nat) : FabPkt :=
  { ty := r.op / 16, code := r.op % 16, poison := r.err && r.op / 16 == 2, srcHalf := half, len := r.len, tag := tag, dst := r.dst, src := src,
    ctx := r.ctx, addr := r.addr % 2 ^ 46, payload := r.data }

/-- A free request tag (R345). -/
def Half.freeTag (x : Half) (now : Nat) : Option Nat :=
  findUp (fun t => (Tab.look x.fab.reqs t).isNone && !(x.fab.retired.any (fun k => k.1 == t && decide (now < k.2)))) 0 32768

/-- Issue a fabric request. It fails at once on a package that has not joined, or to one marked unreachable (R327, R352); to the
package's own ID it is served here (R337); during a path drain it waits (R336); with no port left of either route the package is
unreachable. -/
def Mach.fabIssue (m : Mach) (h : HalfId) (r : FabReq) : Mach :=
  let x := m.blk.half h
  let now := m.clk.now h
  match x.freeTag now with
  | none => { m with blk := m.blk.upd h (fun y => { y with fab := { y.fab with waiting := y.fab.waiting ++ [r] } }) }
  | some tag =>
    let held (pt : Nat) (b : Blk) : Blk := b.upd h (fun y =>
      { y with fab := { y.fab with reqs := Tab.put y.fab.reqs tag { r with start := now, port := pt } } })
    let fail : Blk := (held 0 m.blk).upd h (fun y => { y with fab := { y.fab with instant := y.fab.instant ++ [(tag, FabRes.unreachable)] } })
    match x.obj.join with
    | none => { m with blk := fail }
    | some j =>
      if r.dst = j.pkg then
        let m1 : Mach := { m with blk := held 0 m.blk }
        let (m2, res) := m1.serve h (r.pkt tag j.pkg h.num)
        match res with
        | some v => { m2 with blk := m2.blk.upd h (fun y => { y with fab := { y.fab with instant := y.fab.instant ++ [(tag, v)] } }) }
        | none => { m2 with blk := m2.blk.toWindow (r.pkt tag j.pkg h.num) ((m2.blk.half h).inboundCheck (r.pkt tag j.pkg h.num)).2.1 h (some tag) }
      else if x.obj.unreach.contains r.dst then { m with blk := fail }
      else if x.fab.drains.contains r.dst then
        { m with blk := m.blk.upd h (fun y => { y with fab := { y.fab with waiting := y.fab.waiting ++ [r] } }) }
      else match x.requestPort m.blk r.dst r.addr with
        | none => { m with blk := fail }
        | some port => { m with blk := (held port m.blk).emit (.fabric port (r.pkt tag j.pkg h.num)) }

/-- Requests outstanding to a package. -/
def Half.reqsTo (x : Half) (d : Nat) : List Nat := (x.fab.reqs.filter (fun e => e.2.dst == d)).map (·.1)

/-- Start a path drain for a destination that has requests outstanding (R336). -/
def Half.startDrain (x : Half) (d : Nat) : Half :=
  if (x.reqsTo d).isEmpty ∨ x.fab.drains.contains d then x else { x with fab := { x.fab with drains := d :: x.fab.drains } }

/-- Destinations whose routes use a pair port. -/
def Half.routedBy (x : Half) (pp : Nat) : List Nat := (x.obj.routes.filter (fun e => bitAt e.2.primary pp || bitAt e.2.alternate pp)).map (·.1)

/-- Drain every destination whose candidates a pair port belongs to, on both halves (R336). -/
def Blk.drainsFor (b : Blk) (pp : Nat) : Blk :=
  [HalfId.A, HalfId.B].foldl (fun k h => k.upd h (fun x => (x.routedBy pp).foldl Half.startDrain x)) b

/-- Mark a package unreachable, pair-wide (R352): outstanding requests to it fail at once; kind 0x34. -/
def Blk.markUnreach (b : Blk) (h : HalfId) (d : Nat) : Blk :=
  if (b.half h).obj.unreach.contains d then b
  else
    let b1 := (b.updObj h (fun o => { o with unreach := setAdd o.unreach d })).upd h (fun x => x.raiseErr 10 0 0x34 2 11)
    let flush (x : Half) : Half := { x with fab := { x.fab with
      instant := x.fab.instant ++ ((x.reqsTo d).filter (fun t => !x.fab.instant.any (fun i => i.1 == t))).map (fun t => (t, .unreachable))
      drains := x.fab.drains.filter (· != d) } }
    if b1.linked then (b1.upd .A flush).upd .B flush else b1.upd h flush

/-- PATH_DRAIN_END (R336): every request outstanding to the destination has ended, and those that waited are issued. -/
def Mach.drainEnd (m : Mach) (h : HalfId) (d : Nat) : Mach :=
  let x := m.blk.half h
  if ¬ x.fab.drains.contains d ∨ ¬ (x.reqsTo d).isEmpty then m
  else
    let go := x.fab.waiting.filter (fun r => r.dst == d)
    let b := m.blk.upd h (fun y => { y with fab := { y.fab with drains := y.fab.drains.filter (· != d),
                                                                waiting := y.fab.waiting.filter (fun r => r.dst != d) } })
    go.foldl (fun k r => k.fabIssue h r) { m with blk := b }

/-- Take the request a response names; a response without one is discarded and counted, kind 0x3B (R345). -/
def Half.takeReq (x : Half) (tag : Nat) : Half × Option FabReq :=
  match Tab.look x.fab.reqs tag with
  | none => ((x.bump 0x0500050 63 32 1).raiseErr 10 0 0x3B 0, none)
  | some r => ({ x with fab := { x.fab with reqs := Tab.del x.fab.reqs tag, misses := Tab.del x.fab.misses r.dst,
                                            instant := x.fab.instant.filter (fun i => i.1 != tag) } }, some r)

/-- A response arrives: its result joins the results this half still has to act on. -/
def Half.gotResult (x : Half) (tag : Nat) (r : FabRes) : Half :=
  match Tab.look x.fab.reqs tag with
  | none => (x.bump 0x0500050 63 32 1).raiseErr 10 0 0x3B 0
  | some q => { x with fab := { x.fab with instant := x.fab.instant ++ [(tag, r)], misses := Tab.del x.fab.misses q.dst } }

/-- A NACK of reason 4 or 6 changes the route (R352). -/
def Blk.nackRoute (b : Blk) (h : HalfId) (dst reason : Nat) : Blk :=
  let x := b.half h
  if reason ≠ 4 ∧ reason ≠ 6 then b
  else if (Tab.dflt x.obj.routes dst {}).alternate = 0 ∨ x.fab.switched.contains dst then b.markUnreach h dst
  else b.upd h (fun y => ({ y with fab := { y.fab with switched := dst :: y.fab.switched } }).startDrain dst)

/-- FABRIC_REQ_TIMEOUT (R345, R352): no response within REQ_TIMEOUT. -/
def Blk.fabTimeout (b : Blk) (t : Clk) (h : HalfId) (tag : Nat) : Blk :=
  let x := b.half h
  match Tab.look x.fab.reqs tag with
  | none => b
  | some r =>
    let n := Tab.dflt x.fab.misses r.dst 0 + 1
    let until_ := t.now h + 2000 * x.regFld 0x0500000 15 0
    let b1 := b.upd h (fun y =>
      let f1 : FabUnit := { y.fab with retired := (tag, until_) :: y.fab.retired, misses := Tab.put y.fab.misses r.dst n }
      let f2 : FabUnit := { f1 with instant := f1.instant ++ [(tag, FabRes.unreachable)] }
      (({ y with fab := f2 } : Half).bump 0x0500050 31 0 1).raiseErr 10 0 0x37 2 0 r.addr)
    if x.regFld 0x0500000 27 24 ≤ n then b1.markUnreach h r.dst else b1

/-- UNREACH_PING (R352): every 1 ms a PING goes to an unreachable package on each of its routes. -/
def Mach.unreachPing (m : Mach) (h : HalfId) (d : Nat) : Mach :=
  let x := m.blk.half h
  match x.obj.join with
  | none => m
  | some j =>
    if ¬ x.obj.unreach.contains d then m
    else
      let r := Tab.dflt x.obj.routes d {}
      [r.primary, r.alternate].foldl (fun k mask =>
        match k.blk.pickPort h mask d 0 h.num, (k.blk.half h).freeTag (k.clk.now h) with
        | some port, some tag =>
          let q : FabReq := { op := 0x40, dst := d, start := k.clk.now h, port := port, what := .ping }
          let b1 := k.blk.upd h (fun y => { y with fab := { y.fab with reqs := Tab.put y.fab.reqs tag q } })
          { k with blk := b1.emit (.fabric port (q.pkt tag j.pkg h.num)) }
        | _, _ => k) m

/-- The first PONG restores a package (R352). -/
def Blk.restore (b : Blk) (h : HalfId) (d : Nat) : Blk :=
  let back (x : Half) : Half := ({ x with fab := { x.fab with switched := x.fab.switched.filter (· != d) } }).startDrain d
  let b1 := b.updObj h (fun o => { o with unreach := o.unreach.filter (· != d) })
  if b1.linked then (b1.upd .A back).upd .B back else b1.upd h back

/-- PACKET_FORWARD (R332, R333, R335): a packet for another package passes through, one HOP on; a reserved type is discarded and
counted; at HOP 7 a request is answered NACK 6 and a response is dropped and counted; with no working route a request is answered
NACK 4. -/
def Blk.forward (b : Blk) (h : HalfId) (port : Nat) (p : FabPkt) : Blk :=
  let x := b.half h
  let isReq := decide (1 ≤ p.ty) && decide (p.ty ≤ 4)
  let isRsp := (decide (0x11 ≤ p.ty) && decide (p.ty ≤ 0x14)) || p.ty == 0x1F
  if ¬ isReq ∧ ¬ isRsp then b.upd h (fun y => y.updFabPort port (fun q => { q with replays := min 65535 (q.replays + 1) }))
  else if p.hop = 7 then
    if isReq then (b.upd h (fun y => y.nackCount 6 p)).respond h p (.nack 6)
    else b.upd h (fun y => { y with fab := { y.fab with discarded := y.fab.discarded + 1 } })
  else match (if x.obj.join.isNone then none else if isReq then x.requestPort b p.dst p.addr else x.responsePort b p.dst p.tag) with
    | some out => b.emit (.fabric out { p with hop := p.hop + 1 })
    | none => if isReq then b.respond h p (.nack 4) else b

/-- FLIT_CRC_FAIL (R334, R351): a flit is sent again; eight failures of one flit take the port DOWN. -/
def Half.crcFail (x : Half) (p : Nat) : Half :=
  x.updFabPort p (fun q => { q with replays := min 65535 (q.replays + 1), fails := q.fails + 1 })

/-- PORT_DOWN (R351): NACK 4 for the requests of this package in its transmit queue or replay buffer, path drains, kind 0x33. -/
def Blk.portDown (b : Blk) (h : HalfId) (p : Nat) (tags : List Nat) : Blk :=
  let x := b.half h
  if (x.fabPort p).st = 0 then b
  else
    let b1 := b.upd h (fun y => (y.updFabPort p (fun q => { q with st := 0, fails := 0, swap := none })).raiseErr 10 p 0x33 2 11)
    let b2 := b1.upd h (fun y => { y with fab := { y.fab with instant := y.fab.instant ++
      (tags.filter (fun t => (Tab.look y.fab.reqs t).isSome && !(y.fab.instant.any (fun i => i.1 == t)))).map (fun t => (t, .nack 4)) } })
    let b3 := b2.drainsFor (16 * h.num + p)
    ((b3.half h).routedBy (16 * h.num + p)).foldl (fun k d =>
      let r := Tab.dflt (k.half h).obj.routes d {}
      if (k.portSlots h (Nat.lor r.primary r.alternate)).isEmpty then k.markUnreach h d else k) b3

/-- Send LINK_HELLO on a port with a VALID neighbour word that carries no traffic (R330, R351). -/
def Blk.linkHelloSend (b : Blk) (h : HalfId) (p : Nat) : Blk :=
  let x := b.half h
  let id := match x.obj.joinCmd, x.obj.join with
    | some c, _ => some (c.pkg, c.domain)
    | none, some j => some (j.pkg, j.domain)
    | none, none => none
  match id with
  | none => b
  | some (pkg, dom) =>
    if (Tab.look x.obj.neigh (16 * h.num + p)).isNone ∨ (x.fabPort p).carries then b
    else
      (b.upd h (fun y => y.updFabPort p (fun q => if q.st = 0 then { q with st := 1 } else q))).emit
        (.fabric (16 * h.num + p) { ty := 0x20, src := pkg, len := 8, addr := pkg + dom * 2 ^ 16 + (16 * h.num + p) * 2 ^ 32 })

/-- Pair ports with a VALID neighbour word are all UP or HELD. -/
def Blk.joinSettled (b : Blk) (h : HalfId) : Bool :=
  (b.half h).obj.neigh.all (fun e => (b.optPort e.1).carries || (b.optPort e.1).st == 4)

/-- Complete a join (R330): the package takes its identity; RESULT is the mask of pair ports UP. -/
def Mach.joinDone (m : Mach) (h : HalfId) (c : JoinCmd) : Mach :=
  let b := m.blk.updObj h (fun o => { o with join := some { pkg := c.pkg, domain := c.domain }, joinCmd := none })
  let b1 := b.upd h (fun x => x.journal (m.clk.now h) ⟨1, b.adminPort h⟩ 10 c.pkg 0 (c.pkg + c.domain * 2 ^ 16))
  { m with blk := b1.finish h c.ref 0 0 b1.portsUp 0 none }

/-- LINK_HELLO (R330, R351): a port comes UP when it names the expected package and DOMAIN, and is HELD otherwise; LEAVING takes it
DOWN. -/
def Mach.linkHello (m : Mach) (h : HalfId) (p pkg domain : Nat) (leaving : Bool) : Mach :=
  let x := m.blk.half h
  let pp := 16 * h.num + p
  let id := match x.obj.joinCmd, x.obj.join with
    | some c, _ => some c.domain
    | none, some j => some j.domain
    | none, none => none
  if leaving then { m with blk := m.blk.portDown h p [] }
  else match Tab.look x.obj.neigh pp, id with
    | some want, some dom =>
      if (x.fabPort p).carries then m
      else
        let ok := want == pkg && dom == domain
        let held := (x.fabPort p).st == 4
        let b := m.blk.upd h (fun y =>
          let y1 := y.updFabPort p (fun q => { q with st := if held then 4 else if ok then 2 else 4, neighbour := pkg,
                                                      replays := if ok && !held then 0 else q.replays })
          if ok || held then y1 else y1.raiseErr 10 p 0x39 2 11)
        let b1 := if ok ∧ ¬ held then b.drainsFor pp else b
        match x.obj.joinCmd with
        | some c => if ¬ c.update ∧ b1.joinSettled h ∧ b1.portsUp ≠ 0 then Mach.joinDone { m with blk := b1 } h c else { m with blk := b1 }
        | none => { m with blk := b1 }
    | _, _ => m

/-- FABRIC_JOIN_LIMIT_EXPIRY (R330): OK if a port is UP, else TIMEOUT with the package unjoined and every port DOWN. -/
def Mach.joinLimit (m : Mach) (h : HalfId) : Mach :=
  match (m.blk.half h).obj.joinCmd with
  | none => m
  | some c =>
    if c.update then m
    else if m.blk.portsUp ≠ 0 then m.joinDone h c
    else
      let drop (x : Half) : Half := { x with fab := { x.fab with ports := x.fab.ports.map (fun e => (e.1, { e.2 with st := 0 })) } }
      let b := (m.blk.updObj h (fun o => { o with joinCmd := none, neigh := [], routes := [] })).upd .A drop |>.upd .B drop
      { m with blk := b.finish h c.ref 0x32 0 0 0 none }

/-! ### Lanes (R41, R347 to R350) -/

/-- A signed 16-bit reading. -/
def sgn16 (v : Nat) : Int := int16 v

/-- A lane judged over its last 16 records (R41, R347): 2 FAILED, 1 DEGRADED, 0 GOOD; a lane heard from never is judged by block time. -/
def judgeLane (l : Lane) (now thresh : Nat) : Nat :=
  let rx := (l.recs.map (·.1)).foldl (· + ·) 0
  let er := (l.recs.map (·.2.1)).foldl (· + ·) 0
  let fail := bits thresh 15 8
  let degr := bits thresh 7 0
  let pmin := sgn16 (bits thresh 47 32)
  let limit := bits thresh 63 48
  match l.recs with
  | [] => if 5000000 ≤ now - l.seen then 2 else 0
  | (_, _, pw, bias) :: _ =>
    if 5000000 ≤ now - l.seen ∨ (rx ≠ 0 ∧ rx ≤ er * 10 ^ fail) ∨ sgn16 pw < pmin ∨ limit ≤ bias then 2
    else if (rx ≠ 0 ∧ rx ≤ er * 10 ^ degr) ∨ sgn16 pw < pmin + 200 then 1
    else 0

/-- LANE_HEALTH_RECORD (R41): RXBITS, ERRBITS, RXPWR and BIAS of one lane. -/
def Half.laneRecord (x : Half) (now p lane rec : Nat) : Half :=
  x.updFabPort p (fun q => { q with lanes := Tab.upd q.lanes lane {} (fun l =>
    { l with recs := ((bits rec 95 64, bits rec 63 32, bits rec 31 16, bits rec 15 0) :: l.recs).take 16, seen := now }) })

/-- Lanes of a port that are in use: data lanes in their place and spares that stand in. -/
def FabPort.inUse (q : FabPort) : List Nat := (List.range 18).filter (fun l => bitAt q.mask l)

/-- What a port does about its lanes: the lane to replace and the spare, or the fall to NARROW or DOWN. -/
inductive LaneMove where
  | none
  | swap (lane spare kind : Nat)
  | narrow
  | down
  deriving DecidableEq, Repr

def FabPort.laneMove (q : FabPort) : LaneMove :=
  let st (l : Nat) : Nat := (Tab.dflt q.lanes l {}).st
  let use := q.inUse
  let spare := [16, 17].find? (fun s => !bitAt q.mask s && st s != 2)
  let failed := use.find? (fun l => st l == 2)
  let degraded := use.find? (fun l => st l == 1 || (Tab.dflt q.lanes l {}).moveSoon)
  match failed, spare with
  | some l, some s => if q.st = 2 then .swap l s 0x31 else .none
  | some _, Option.none =>
    let good := (List.range 18).filter (fun l => st l != 2)
    if good.length < 8 then .down else if q.st = 2 then .narrow else .none
  | Option.none, some s => match degraded with
    | some l => if q.st = 2 then .swap l s 0x30 else .none
    | Option.none => .none
  | Option.none, Option.none => .none

/-- LANE_HEALTH_EVAL (R347 to R349): every lane of every port that has been named is judged, and a port that needs one starts a replacement, or falls to NARROW or
DOWN. -/
def Blk.laneEval (b : Blk) (t : Clk) (h : HalfId) : Blk :=
  let th := ((b.half h).reg 0x0500030).toNat
  let now := t.now h
  let b1 := b.upd h (fun x => { x with fab := { x.fab with ports := x.fab.ports.map (fun e =>
    (e.1, { e.2 with lanes := (List.range 18).map (fun l =>
      let k := Tab.dflt e.2.lanes l {}
      (l, { k with st := judgeLane k now th })) })) } })
  (b1.half h).fab.ports.foldl (fun k e =>
    let p := e.1
    if ¬ e.2.carries ∨ e.2.swap.isSome then k
    else match e.2.laneMove with
      | .none => k
      | .swap l s kind =>
        (k.upd h (fun x => x.updFabPort p (fun q => { q with swap := some (l, s, false, kind) }))).emit
          (.fabric (16 * h.num + p) { ty := 0x21, addr := l + s * 256 })
      | .narrow =>
        (k.upd h (fun x => x.updFabPort p (fun q => { q with swap := some (18, 18, false, 0x32) }))).emit
          (.fabric (16 * h.num + p) { ty := 0x21, addr := 18 })
      | .down => k.portDown h p []) b1

/-- The lane map a swap asks for: enable mask and substitutions. -/
def FabPort.newMap (q : FabPort) (l s : Nat) : Nat × List (Nat × Nat) :=
  if l = 18 then
    let good := ((List.range 18).filter (fun k => (Tab.dflt q.lanes k {}).st != 2)).take 8
    (good.foldl (fun m k => m + 2 ^ k) 0, [])
  else (q.mask - (if bitAt q.mask l then 2 ^ l else 0) + (if bitAt q.mask s then 0 else 2 ^ s), (l, s) :: q.subst.filter (fun e => e.1 != l))

/-- LSWAP (R348): the neighbour proposes a replacement; it is accepted and the new map goes to the photonic engine. -/
def Blk.lswap (b : Blk) (h : HalfId) (p lane spare : Nat) : Blk :=
  let q := (b.half h).fabPort p
  if ¬ q.carries ∨ q.swap.isSome then b
  else
    let kind := if lane = 18 then 0x32 else if (Tab.dflt q.lanes lane {}).st = 2 then 0x31 else 0x30
    let m := q.newMap lane spare
    ((b.upd h (fun x => x.updFabPort p (fun k => { k with swap := some (lane, spare, true, kind) }))).emit
      (.fabric (16 * h.num + p) { ty := 0x22, addr := lane })).emit (.laneMap h p m.1 (m.2.map (fun e => e.1 * 32 + e.2)))

/-- LSWAP_ACK (R348): the neighbour accepts; both ends stop at the switch sequence and the new map goes to the photonic engine. -/
def Blk.lswapAck (b : Blk) (h : HalfId) (p : Nat) : Blk :=
  let q := (b.half h).fabPort p
  match q.swap with
  | some (l, s, false, kind) =>
    let m := q.newMap l s
    (b.upd h (fun x => x.updFabPort p (fun k => { k with swap := some (l, s, true, kind) }))).emit
      (.laneMap h p m.1 (m.2.map (fun e => e.1 * 32 + e.2)))
  | _ => b

/-- LANE_MAP_CONFIRM (R40, R348, R349): the photonic engine confirms; the lane set is in force, journalled, counted and reported. -/
def Blk.laneConfirm (b : Blk) (t : Clk) (h : HalfId) (p : Nat) : Blk :=
  let q := (b.half h).fabPort p
  match q.swap with
  | some (l, s, true, kind) =>
    let m := q.newMap l s
    let b1 := b.upd h (fun x =>
      let y := x.updFabPort p (fun k => { k with swap := none, mask := m.1, subst := m.2, st := if l = 18 then 3 else k.st })
      let y1 := (y.journal (t.now h) fwOrigin 17 (p * 32 + l) l s).raiseErr 10 p kind (if l = 18 then 2 else 1) 11
      if l = 18 then y1.bump 0x0500060 63 32 1 else y1.bump 0x0500060 31 0 1)
    if l = 18 then b1.drainsFor (16 * h.num + p) else b1
  | _ => b

/-- FAB_GRANT_WRITE (R338, Table 12-14): the selected entry of the grant table; a VALID write is refused, and VALID reads 0, where
LCTX is not CREATED or ACTIVE or the requester already has an entry. -/
def Blk.grantWrite (b : Blk) (h : HalfId) (t : Clk) (o : Origin) (n v : Nat) : Blk :=
  let x := b.half h
  let w := Nat.land v 0xF00FFFFFFFFFFFFF
  let l := bits w 19 0
  let live := match x.ctx? l with
    | some c => c.st == .created || c.st == .active
    | none => false
  let dup := x.obj.grants.any (fun g => g.1 != n && bitAt g.2 63 && bits g.2 51 20 == bits w 51 20)
  let w1 := if bitAt w 63 && (!live || dup) then w % 2 ^ 63 else w
  let old := Tab.dflt x.obj.grants n 0
  let b1 := b.updObj h (fun k => { k with grants := if w1 = 0 then Tab.del k.grants n else Tab.put k.grants n w1 })
  if old = w1 then b1 else b1.upd h (fun y => y.journal (t.now h) o 10 n old w1)

end Sys2Proof.Machine
end

