-- ==== Sys2Proof/Machine/Coh.lean ====
section
/-! DEFINITION. The home agent of coherent windows and the CXL.cache proxy (R288 to R322), apart from window enable and disable. -/
namespace Sys2Proof.Machine

def Half.updCoh (x : Half) (f : CohUnit → CohUnit) : Half := { x with coh := f x.coh }
def Blk.updCoh (b : Blk) (h : HalfId) (f : CohUnit → CohUnit) : Blk := b.upd h (fun x => x.updCoh f)
def Mach.updCoh (m : Mach) (h : HalfId) (f : CohUnit → CohUnit) : Mach := { m with blk := m.blk.updCoh h f }
def CohUnit.updTxn (u : CohUnit) (id : Nat) (f : CohTxn → CohTxn) : CohUnit :=
  { u with txns := u.txns.map (fun t => if t.id = id then f t else t) }
def Half.txn (x : Half) (id : Nat) : Option CohTxn := x.coh.txns.find? (fun t => t.id == id)

/-- Window of a HOST line, and the host address of the line (R318). -/
def lineWin (line : Nat) : Nat := line / 2 ^ 34 % 64
def Half.lineAddr (x : Half) (line : Nat) : Nat := (Tab.dflt x.obj.windows (lineWin line) {}).base + line % 2 ^ 34 * 64

/-- The enabled window of a partition, homed on this half, that holds a line (R294). -/
def Half.lineWindow (x : Half) (part : Option Nat) (line : Nat) : Option (Nat × Window) :=
  x.obj.windows.find? (fun w => w.2.enabled && w.2.half == x.id.num && (part.isNone || part == some w.2.part) &&
    (if lineHost line then w.2.kind == 2 && w.1 == lineWin line && decide (line % 2 ^ 34 * 64 < w.2.size)
     else w.2.kind == 1 && decide (w.2.base ≤ lineOff line) && decide (lineOff line < w.2.base + w.2.size)))

/-- Credit class of a message the home sends: 0 SNP, 1 RSP, 2 DAT (Table 11-5). -/
def cohClass (ty : Nat) : Nat := if ty < 0x60 then 0 else if ty < 0x70 then 1 else 2

/-- Send a coherence message against a credit of its class, or leave it waiting (R299). -/
def Blk.cohSend (b : Blk) (h : HalfId) (d : Nat) (o : CohOut) : Blk :=
  let c := Tab.dflt (b.half h).coh.cred d (0, 0, 0)
  let k := cohClass o.ty
  let have_ := if k = 0 then c.1 else if k = 1 then c.2.1 else c.2.2
  if have_ = 0 then b.updCoh h (fun u => { u with outq := Tab.upd u.outq d [] (fun l => l ++ [o]) })
  else
    let c1 := if k = 0 then (c.1 - 1, c.2) else if k = 1 then (c.1, c.2.1 - 1, c.2.2) else (c.1, c.2.1, c.2.2 - 1)
    (b.updCoh h (fun u => { u with cred := Tab.put u.cred d c1 })).emit (.coh h d o.ty o.info o.tid o.line o.bs)

/-- Try the messages that wait on a port again, in order. -/
def Blk.cohFlush (b : Blk) (h : HalfId) (d : Nat) : Blk :=
  let l := Tab.dflt (b.half h).coh.outq d []
  l.foldl (fun k o => k.cohSend h d o) (b.updCoh h (fun u => { u with outq := Tab.del u.outq d }))

/-- CRD (R300): credits the chiplet returns; a REQ credit is the block's own. -/
def Blk.crd (b : Blk) (h : HalfId) (d snp rsp dat : Nat) : Blk :=
  (b.updCoh h (fun u => { u with cred := Tab.upd u.cred d (0, 0, 0) (fun c => (c.1 + snp, c.2.1 + rsp, c.2.2 + dat)) })).cohFlush h d

/-- The block returns the credit of a message it has accepted (R300): class 0 REQ, 2 RSP, 3 DAT. -/
def Blk.credBack (b : Blk) (h : HalfId) (d cls : Nat) : Blk := b.emit (.coh h d 0x3F cls 0 0 [])

def tagPort (key : Nat) : Nat := key / 8192
/-- The tag of a port's way for the set of a line. -/
def tagKey (port line way : Nat) : Nat := port * 8192 + line % 512 * 16 + way
/-- A port's state of a line. -/
def Half.tagOf (x : Half) (port line : Nat) : Nat := (((x.tagsOf line).find? (fun t => tagPort t.1 == port)).map (·.2)).getD 0
/-- A port's tag of a line takes a state; 0 makes it I. -/
def CohUnit.setTag (u : CohUnit) (port line st : Nat) : CohUnit :=
  { u with tags := u.tags.filterMap (fun t => if tagPort t.1 = port ∧ t.2.1 = line then (if st = 0 then none else some (t.1, (line, st))) else some t) }

/-- A line's open transaction. -/
def Half.openTxn (x : Half) (line : Nat) : Option CohTxn := x.coh.txns.find? (fun t => t.line == line && t.opened)

/-- Memory of a line: device memory, or host memory for a HOST window. -/
def Mach.lineRead (m : Mach) (h : HalfId) (line : Nat) : List Byte × Bool :=
  if lineHost line then (m.mem.readHost ((m.blk.half h).lineAddr line) 64, false)
  else (m.mem.readDev (lineOff line) 64, m.mem.poisoned (lineOff line) 64)
/-- Write a line (R310: POISON marks it; a HOST line goes to the host by the proxy, code 5 WOWrInv). -/
def Mach.lineWrite (m : Mach) (h : HalfId) (line : Nat) (bs : List Byte) (poison : Bool) : Mach :=
  if lineHost line then
    let x := m.blk.half h
    let pp := h.num * 2 + (Tab.dflt x.obj.windows (lineWin line) {}).port
    { m with mem := m.mem.writeHost (x.lineAddr line) bs, blk := m.blk.emit (.d2h pp 5 (x.lineAddr line) (2 ^ 64 - 1) bs) }
  else { m with mem := m.mem.writeDev (lineOff line) bs poison }

/-- Poison a line in memory without new data. -/
def Mach.linePoison (m : Mach) (_ : HalfId) (line : Nat) : Mach :=
  if lineHost line then m else { m with mem := { m.mem with poison := setAdd m.mem.poison (lineOff line / 64) } }

/-- Send a snoop of a transaction (R304). -/
def Mach.snoop (m : Mach) (h : HalfId) (id line port ty : Nat) : Mach :=
  let b := m.blk.updCoh h (fun u => u.updTxn id (fun t => { t with snoops := t.snoops ++ [(port, ty, m.clk.now h)] }))
  { m with blk := b.cohSend h port { ty := ty, tid := id % 128, line := line } }

/-- Send a back-invalidate of a line on a host port (R315). -/
def Mach.backInv (m : Mach) (h : HalfId) (id line port : Nat) (inv : Bool) : Mach :=
  let b := m.blk.updCoh h (fun u => u.updTxn id (fun t => { t with bis := t.bis ++ [port] }))
  { m with blk := (b.upd h (fun x => x.bump 0x0400050 31 0 1)).emit (.biSnp (h.num * 2 + port) line inv) }

/-- The request class of Table 11-7 a transaction falls under: 0x40 read shared, 0x41 read own, 0x42 upgrade, 0x43 read once, 0x44 write. -/
def CohTxn.cls (t : CohTxn) (x : Half) : Nat :=
  match t.op, t.who with
  | 0x42, .chip p _ => if x.tagOf p t.line = 0 then 0x41 else 0x42
  | 0x80, _ => 0x43
  | 0x81, _ => 0x44
  | 0xA0, _ => 0x44
  | 0x90, .host _ k => if k = 0 then 0x40 else if k = 1 then 0x41 else 0x43
  | o, _ => o

/-- Port of the chiplet that asked. -/
def CohWho.port? : CohWho → Option Nat
  | .chip p _ => some p
  | _ => none
/-- Logical host port that asked. -/
def CohWho.host? : CohWho → Option Nat
  | .host p _ => some p
  | _ => none

/-- Snoops and back-invalidates of a transaction that opens, by the first matching row of Table 11-7. -/
def Mach.cohActs (m : Mach) (h : HalfId) (t : CohTxn) : Mach :=
  let x := m.blk.half h
  let tags := (x.tagsOf t.line).filter (fun k => some (tagPort k.1) != t.who.port?)
  let host := (x.hrdOf t.line).map (·.2)
  let others : List Nat := match host with
    | some e => e.ports.filter (fun p => some p != t.who.host?)
    | none => []
  let hostA : Bool := match host with
    | some e => e.st == 2 && !others.isEmpty
    | none => false
  let send (m : Mach) (k : Nat × Nat) (ty : Nat) : Mach := m.snoop h t.id t.line (tagPort k.1) ty
  let inv (m : Mach) : Mach := others.foldl (fun k p => k.backInv h t.id t.line p true) m
  let c := t.cls x
  if c = 0x40 ∨ c = 0x43 then
    match tags.find? (fun k => k.2 == 2), tags.find? (fun k => decide (3 ≤ k.2)) with
    | some f, _ => send m f 0x50
    | none, some e => send m e 0x51
    | none, none => if hostA then others.foldl (fun k p => k.backInv h t.id t.line p false) m else m
  else if c = 0x41 then inv (tags.foldl (fun k g => send k g (if g.2 = 1 then 0x52 else 0x53)) m)
  else inv (tags.foldl (fun k g => send k g 0x52) m)

/-- The proxy request a transaction of a HOST line needs (Table 11-11): codes 1 RdShared, 2 RdOwn, 3 RdOwnNoData, 4 RdCurr, 5 WOWrInv. -/
def CohTxn.d2hCode (t : CohTxn) (x : Half) : Option Nat :=
  if ¬ lineHost t.line then none
  else
    let held := Tab.dflt x.coh.proxy t.line 0
    let c := t.cls x
    if t.op = 0xA0 then none
    else if c = 0x44 then some 5
    else if c = 0x43 then (if t.data.isSome then none else some 4)
    else if c = 0x40 then (if t.data.isSome ∨ held ≠ 0 then none else some 1)
    else if held = 2 then none
    else if c = 0x42 ∧ held = 1 then some 3
    else some 2

/-- Merge written bytes over a line under a byte mask. -/
def mergeMask (mask : Nat) (new old : List Byte) : List Byte :=
  (List.range 64).map (fun i => if bitAt mask i then new.getD i 0 else old.getD i 0)

/-- A line of a Peloton request has been recalled; with the last one memory holds the current data and the request is done there (R313). -/
def Mach.fabLine (m : Mach) (h : HalfId) (id txn : Nat) : Mach :=
  match (m.blk.half h).coh.fabIn.find? (fun f => f.id == id) with
  | none => m
  | some f =>
    let need := f.need.erase txn
    if ¬ need.isEmpty then m.updCoh h (fun u => { u with fabIn := u.fabIn.map (fun k => if k.id = id then { k with need := need } else k) })
    else
      let src : HalfId := if f.pkt.hop = 0 then .A else .B
      let (m1, r) := (m.updCoh h (fun u => { u with fabIn := u.fabIn.filter (fun k => k.id != id) })).memOp f.pkt f.ctx
      match f.tag with
      | some tag => { m1 with blk := m1.blk.upd src (fun y => { y with fab := { y.fab with instant := y.fab.instant ++ [(tag, r)] } }) }
      | none => { m1 with blk := m1.blk.respond src f.pkt r }

/-- The proxy tells the host that a HOST line's last copy in the half has left (Table 11-11): 6 DirtyEvict, 7 CleanEvict, 8
CleanEvictNoData. -/
def Mach.lastCopy (m : Mach) (h : HalfId) (line st : Nat) (bs : List Byte) : Mach :=
  let x := m.blk.half h
  if lineHost line ∧ (x.tagsOf line).isEmpty then
    let pp := h.num * 2 + (Tab.dflt x.obj.windows (lineWin line) {}).port
    let b := (m.blk.updCoh h (fun u => { u with proxy := Tab.del u.proxy line })).emit
      (.d2h pp (if st = 4 then 6 else if st = 3 then 7 else 8) (x.lineAddr line) 0 bs)
    { m with blk := b, mem := if st = 4 then m.mem.writeHost (x.lineAddr line) bs else m.mem }
  else m

/-- Hand the result of a transaction to its requester, write memory where its row does, set the tags, and leave it closing
(R303, R304). -/
def Mach.cohGrant (m : Mach) (h : HalfId) (t : CohTxn) : Mach :=
  let x := m.blk.half h
  let c := t.cls x
  let (md, mp) := m.lineRead h t.line
  let data := t.data.getD md
  let bad := t.poison || (t.data.isNone && mp)
  let full := t.mask == 2 ^ 64 - 1
  -- memory
  let m1 : Mach :=
    if c = 0x44 ∧ t.op ≠ 0xA0 then
      let bs := if full then t.wdata else mergeMask t.mask t.wdata data
      if lineHost t.line then { m with mem := m.mem.writeHost (x.lineAddr t.line) bs } else m.lineWrite h t.line bs (!full && bad)
    else if t.dirty ∧ (c ≠ 0x41 ∨ t.op = 0x90) then m.lineWrite h t.line data bad
    else if bad ∧ t.poison ∧ c ≠ 0x41 then m.linePoison h t.line
    else m
  let m2 : Mach := if bad ∧ t.op ≠ 0xA0 ∧ c ≠ 0x44 then { m1 with blk := m1.blk.upd h (fun y => y.raiseErr 9 0 0x26 2 1 (lineOff t.line)) } else m1
  let pz := if bad then 128 else 0
  let done (m : Mach) : Mach := m.updCoh h (fun u => u.updTxn t.id (fun k => { k with closing := true }))
  let grant (m : Mach) (p : Nat) (r : CohReq) (st ty : Nat) : Mach :=
    let b := m.blk.updCoh h (fun u => { u.setTag p t.line 0 with tags := Tab.put (u.setTag p t.line 0).tags (tagKey p t.line r.way) (t.line, st) })
    { m with blk := b.cohSend h p { ty := ty, info := st + (if ty = 0x78 then pz else 0), tid := r.tid, line := t.line,
                                    bs := if ty = 0x78 then data else [] } }
  done (match t.who with
  | .chip p r =>
    if c = 0x40 then
      let excl := t.alone && (!lineHost t.line || Tab.dflt x.coh.proxy t.line 0 == 2)
      grant m2 p r (if excl then 3 else 2) 0x78
    else if c = 0x41 then grant m2 p r (if t.dirty then 4 else 3) 0x78
    else if c = 0x42 then grant m2 p r 3 0x68
    else if c = 0x43 then { m2 with blk := m2.blk.cohSend h p { ty := 0x79, info := pz, tid := r.tid, line := t.line, bs := data } }
    else { m2 with blk := m2.blk.cohSend h p { ty := 0x6C, tid := r.tid, line := t.line } }
  | .io tag => { m2 with blk := m2.blk.emit (.ioDone h tag (if c = 0x44 then [] else data) (c != 0x44 && bad)) }
  | .chanRead k ch off n =>
    let bs := (data.drop (off % 64)).take n
    { m2 with blk := m2.blk.upd k (fun y => { y with dma := { y.dma with chans := Tab.modify y.dma.chans ch (fun e =>
        { e with fabBuf := e.fabBuf ++ [(2 ^ 60 + off, bs, bad)] }) } }) }
  | .chanWrite k q slot =>
    { m2 with blk := m2.blk.upd k (fun y => { y with dma := { y.dma with
        chans := y.dma.chans.map (fun e => if e.2.disp.ref.q = q ∧ e.2.disp.ref.slot = slot then (e.1, { e.2 with acks := e.2.acks - 1 }) else e)
        owed := y.dma.owed.map (fun o => if o.q = q ∧ o.slot = slot then { o with acks := o.acks - 1 } else o) } }) }
  | .host p k =>
    let b := m2.blk.emit (.memRsp (h.num * 2 + p) t.line (if k = 2 then 0 else k + 1) data bad)
    if k = 2 then { m2 with blk := b }
    else { m2 with blk := b.updCoh h (fun u =>
        let hrd := u.hrd.map (fun e => if e.2.line = t.line then
          (e.1, { e.2 with st := if k = 1 then 2 else 1, ports := if k = 1 then [p] else (e.2.ports.filter (· != p)) ++ [p] }) else e)
        { u with hrd := hrd, hrdMax := max u.hrdMax hrd.length }) }
  | .recall _ => if lineHost t.line then m2.lastCopy h t.line (if t.dirty then 4 else 3) data else m2
  | .fab id => m2.fabLine h id t.id
  | .nobody => m2)

/-- The answer to a forwarded host snoop once the chiplets have answered (Table 11-12); poisoned data raises kind 0x25; data a dead agent owed is
sent poisoned, with a free value (R319). -/
def Mach.hostSnoopDone (m : Mach) (h : HalfId) (t : CohTxn) : Mach :=
  let port := match t.who with
    | .host p _ => p
    | _ => 0
  let pp := h.num * 2 + port
  let inv := t.op == 0xB0
  let fwd := t.dirty || (t.poison && t.data.isNone)
  let code := if fwd then (if inv then 2 else 4) else if inv then 1 else 3
  let m1 := m.updCoh h (fun u => { u with txns := u.txns.filter (fun k => k.id != t.id), proxy := if inv then Tab.del u.proxy t.line else Tab.put u.proxy t.line 1 })
  let m2 : Mach := if t.poison then { m1 with blk := m1.blk.upd h (fun y => y.raiseErr 9 0 0x25 2 6 (lineOff t.line)) } else m1
  let m3 : Mach := if t.dirty then { m2 with mem := m2.mem.writeHost ((m.blk.half h).lineAddr t.line) (t.data.getD []) } else m2
  let (b, i) := m3.blk.draw
  if t.mask = 0 then m3
  else if fwd then { m3 with blk := b.emit (.d2hRsp pp code (t.data.getD (freeBytes i 64)) t.poison) }
  else { m3 with blk := m3.blk.emit (.d2hRsp pp code [] t.poison) }

/-- A transaction goes on as far as it can: with every answer in, it asks the host where it must, and then is granted. -/
def Mach.cohPoke (m : Mach) (h : HalfId) (id : Nat) : Mach :=
  match (m.blk.half h).txn id with
  | none => m
  | some t =>
    if ¬ t.opened ∨ t.closing ∨ ¬ t.snoops.isEmpty ∨ ¬ t.evict.isEmpty ∨ ¬ t.bis.isEmpty ∨ t.needData ∨ t.go ∨ t.way.isSome then m
    else if 0xB0 ≤ t.op then m.hostSnoopDone h t
    else match t.d2hCode (m.blk.half h) with
      | none => m.cohGrant h t
      | some code =>
        let x := m.blk.half h
        let w := Tab.dflt x.obj.windows (lineWin t.line) {}
        if ¬ x.hasLease 0 w.port w.part then
          { m with blk := m.blk.upd h (fun y => (y.askLease 0 w.port w.part).updCoh (fun u => u.updTxn id (fun k => { k with lease := true }))) }
        else
          let b := m.blk.upd h (fun y => (y.takeLease 0 w.port w.part 64).updCoh (fun u => u.updTxn id (fun k => { k with go := true, lease := false })))
          { m with blk := b.emit (.d2h (h.num * 2 + w.port) code (x.lineAddr t.line) (if code = 5 then t.mask else 0) (if code = 5 then t.wdata else [])) }

/-- Open a transaction: its row of Table 11-7 is chosen by the holders there are now, and its snoops and back-invalidates go out. -/
def Mach.cohOpen (m : Mach) (h : HalfId) (t : CohTxn) : Mach :=
  let x := m.blk.half h
  let alone := (x.tagsOf t.line).all (fun k => some (tagPort k.1) == t.who.port?) && (x.hrdOf t.line).isNone
  let m1 := m.updCoh h (fun u => u.updTxn t.id (fun k => { k with opened := true, alone := alone }))
  (m1.cohActs h { t with opened := true }).cohPoke h t.id

/-- Admit a request to the tracker; it opens unless its line has an open transaction (R303, R309). -/
def Mach.cohAdmit (m : Mach) (h : HalfId) (t0 : CohTxn) : Mach :=
  let x := m.blk.half h
  let t : CohTxn := { t0 with id := x.coh.next }
  let busy := (x.openTxn t.line).isSome
  let m1 := m.updCoh h (fun u => { u with txns := u.txns ++ [t], next := u.next + 1 })
  if busy ∨ t.way.isSome then m1 else m1.cohOpen h t

/-- The request next in a line's queue: aged ones first, then by arrival (R303, R309). -/
def Half.nextTxn (x : Half) (line : Nat) : Option CohTxn :=
  let q := x.coh.txns.filter (fun t => t.line == line && !t.opened && t.way.isNone)
  match q.find? (·.aged) with
  | some t => some t
  | none => q.head?

/-- A die port is fenced: every message from it but CRD is discarded, and its requests are denied (R311). -/
def Half.fenced (x : Half) (port : Nat) : Bool := (Tab.dflt x.dies port {}).st == 3

/-- DENY a request (Table 11-6). -/
def Blk.deny (b : Blk) (h : HalfId) (port tid line reason : Nat) : Blk := b.cohSend h port { ty := 0x6D, info := reason, tid := tid, line := line }

/-- Fence a die port as a dead agent, from the row at 1 µs of Table 11-10 (R310 to R312, R187): lines tagged E or M are written poisoned, the
tags become I, reservations are freed, outstanding REQs are denied, and what waits on the port goes on as if answered RSP_I, poisoned
where the port owed data. -/
def Mach.fencePort (m : Mach) (h : HalfId) (port kind : Nat) : Mach :=
  let x := m.blk.half h
  let chip := h.num * 8 + port
  let mine := x.coh.tags.filter (fun t => tagPort t.1 == port)
  let m1 := (mine.filter (fun t => decide (3 ≤ t.2.2))).foldl (fun (k : Mach) t => k.linePoison h t.2.1) m
  let owes (t : CohTxn) : Bool := t.evict.contains port || (t.snoops.any (fun s => s.1 == port) && decide (3 ≤ x.tagOf port t.line))
  let waits := (x.coh.txns.filter (fun t => t.evict.contains port || t.snoops.any (fun s => s.1 == port))).map (·.id)
  let asks := x.coh.txns.filter (fun t => t.who.port? == some port && !t.closing)
  let tidOf (t : CohTxn) : Nat := match t.who with
    | .chip _ r => r.tid
    | _ => 0
  let b := m1.blk.upd h (fun y =>
    let y1 := (y.bump 0x0400038 31 0 1).setFld 0x0400038 39 32 chip
    let y2 := if kind = 0 then y1 else y1.raise 9 { (mkErr y1 9 port kind 3) with source := h.num * 2 ^ 11 + 9 * 2 ^ 7 + chip }
    { y2 with
      dies := Tab.upd y2.dies port {} (fun d => { d with st := 3 })
      coh := { y2.coh with
        tags := y2.coh.tags.filter (fun t => tagPort t.1 != port)
        resv := y2.coh.resv.filter (fun r => r.port != port)
        outq := Tab.del y2.coh.outq port
        txns := (y2.coh.txns.filter (fun t => !(asks.contains t && !t.opened))).map (fun t =>
          { t with snoops := t.snoops.filter (fun s => s.1 != port), evict := t.evict.filter (· != port), poison := t.poison || owes t,
                   who := if t.who.port? = some port ∧ ¬ t.closing then .nobody else t.who, needData := t.needData && t.who.port? != some port }) } })
  let m2 : Mach := { m1 with blk := asks.foldl (fun k t => k.deny h port (tidOf t) t.line 4) b }
  waits.foldl (fun k id => k.cohPoke h id) m2

/-- A breach (R312): DENY reason 5, the port fenced, kind 0x21. -/
def Mach.breach (m : Mach) (h : HalfId) (port : Nat) (r : CohReq) : Mach :=
  Mach.fencePort { m with blk := m.blk.deny h port r.tid r.line 5 } h port 0x21

/-- A REQ of a chiplet breaks R297 in a way the home detects (R312). -/
def Half.breaches (x : Half) (port op : Nat) (r : CohReq) : Bool :=
  let at_ := Tab.look x.coh.tags (tagKey port r.line r.way)
  let own := x.tagOf port r.line
  let out := (Tab.dflt x.coh.outq port []).any (fun o => o.ty == 0x6B && o.line == r.line)
  x.coh.txns.any (fun t => t.line == r.line && t.who.port? == some port && !t.closing) || out ||
  (match at_ with
    | some (l, st) => (decide (op ≤ 0x42) && decide (3 ≤ st)) || (op == 0x42 && l != r.line)
    | none => false) ||
  ((op == 0x40 || op == 0x41) && own != 0)

/-- A chiplet's REQ (R294, R304, R307 to R309, R311, R312): checks in order, breaches, a reservation's reissue, a free entry, or RETRY. -/
def Mach.cohReq (m : Mach) (h : HalfId) (port op : Nat) (r : CohReq) : Mach :=
  let x := m.blk.half h
  let m0 : Mach := { m with blk := m.blk.credBack h port 0 }
  let deny (reason : Nat) : Mach := { m0 with blk := m0.blk.deny h port r.tid r.line reason }
  let c? := x.ctx? r.ctx
  let ok : Bool := match c? with
    | some c => c.st == .active && bitAt c.dieAllow (h.num * 8 + port)
    | none => false
  let part := (c?.map (·.part)).getD 0
  if ¬ ok then
    let m1 := deny 1
    { m1 with blk := m1.blk.upd h (fun y => (y.bump 0x0100040 31 0 1).raiseErr 9 port 0x22 0 (if op = 0x40 ∨ op = 0x43 then 1 else 2) (lineOff r.line) (c?.map (·.part)) (h.num * 8 + port)) }
  else if x.fenced port then deny 4
  else match x.lineWindow (some part) r.line with
    | none =>
      let m1 := deny 2
      let b := m1.blk.upd h (fun y => y.raiseErr 9 port 0x22 3 (if op = 0x40 ∨ op = 0x43 then 1 else 2) (lineOff r.line) (some part) (h.num * 8 + port))
      { m1 with blk := { b with lossQ := b.lossQ ++ [{ ctx := r.ctx, cause := 2, master := 2 ^ 15 + part * 512 + h.num * 8 + port, addr := lineOff r.line, half := h }] } }
    | some (_, w) =>
      if w.disabling ∨ (w.kind = 2 ∧ (x.port w.port).contained) then deny 3
      else if x.breaches port op r then m0.breach h port r
      else
        let aged := decide (8 ≤ r.rtry)
        let m1 : Mach := if aged then { m0 with blk := m0.blk.upd h (fun y => y.bump 0x0400048 31 0 1) } else m0
        let t : CohTxn := { op := op, line := r.line, who := .chip port r, aged := aged, needData := op == 0x44 }
        match x.coh.resv.find? (fun k => k.port == port && k.tid == r.tid && k.rcid.isSome && k.rcid == r.rcid) with
        | some k => (m1.updCoh h (fun u => { u with resv := u.resv.erase k })).cohAdmit h { t with reserved := true }
        | none =>
          if (x.coh.txns.filter (fun k => !k.reserved)).length < 896 then m1.cohAdmit h t
          else
            let b := (m1.blk.upd h (fun y => (y.bump 0x0400040 31 0 1).updCoh (fun u =>
              { u with resv := u.resv ++ [{ port := port, tid := r.tid, rtry := r.rtry }] }))).cohSend h port { ty := 0x69, tid := r.tid, line := r.line }
            { m1 with blk := b }

/-- DAT_WR (R304, R307): the data of a WR_ONCE; after a RETRY it is discarded. -/
def Mach.datWr (m : Mach) (h : HalfId) (port tid mask : Nat) (bs : List Byte) (poison : Bool) : Mach :=
  let m0 : Mach := { m with blk := m.blk.credBack h port 3 }
  if (m.blk.half h).fenced port then m else
  let asks (t : CohTxn) : Bool := t.needData && (match t.who with
    | .chip p r => p == port && r.tid == tid
    | _ => false)
  match (m.blk.half h).coh.txns.find? asks with
  | none => m0
  | some t => (m0.updCoh h (fun u => u.updTxn t.id (fun k => { k with wdata := bs, mask := mask, needData := false, poison := k.poison || poison }))).cohPoke h t.id

/-- The transaction a port's answer belongs to: the home's TID names it (Table 11-4). -/
def Half.snoopTxn (x : Half) (port tid : Nat) : Option CohTxn :=
  x.coh.txns.find? (fun t => t.id % 128 == tid && t.snoops.any (fun s => s.1 == port))

/-- A snoop answer takes its snoop off. -/
def CohTxn.answered (t : CohTxn) (port : Nat) : CohTxn := { t with snoops := t.snoops.filter (fun s => s.1 != port) }

/-- RSP_I and RSP_S (R305): the port's tag becomes I or S; expected data is taken from memory. -/
def Mach.snoopRsp (m : Mach) (h : HalfId) (port tid st : Nat) : Mach :=
  let m0 : Mach := { m with blk := m.blk.credBack h port 2 }
  if (m.blk.half h).fenced port then m else
  match (m.blk.half h).snoopTxn port tid with
  | none => m0
  | some t => (m0.updCoh h (fun u => (u.setTag port t.line st).updTxn t.id (fun k => k.answered port))).cohPoke h t.id

/-- RSP_I_EVICTING (R306): the eviction's data is awaited, unless it was absorbed already. -/
def Mach.rspEvicting (m : Mach) (h : HalfId) (port tid : Nat) : Mach :=
  let m0 : Mach := { m with blk := m.blk.credBack h port 2 }
  if (m.blk.half h).fenced port then m else
  match (m.blk.half h).snoopTxn port tid with
  | none => m0
  | some t =>
    let gone := (m.blk.half h).tagOf port t.line = 0
    (m0.updCoh h (fun u => u.updTxn t.id (fun k => { k.answered port with evict := if gone then k.evict else k.evict ++ [port] }))).cohPoke h t.id

/-- DAT_SNP (R305): snoop data with the state after and DIRTY. -/
def Mach.datSnp (m : Mach) (h : HalfId) (port tid st : Nat) (dirty poison : Bool) (bs : List Byte) : Mach :=
  let m0 : Mach := { m with blk := m.blk.credBack h port 3 }
  if (m.blk.half h).fenced port then m else
  match (m.blk.half h).snoopTxn port tid with
  | none => m0
  | some t => (m0.updCoh h (fun u => (u.setTag port t.line st).updTxn t.id (fun k =>
      { k.answered port with data := some bs, dirty := k.dirty || dirty, poison := k.poison || poison }))).cohPoke h t.id

/-- EVC and EVD (R306): absorbed into an open transaction of the line, else written to memory when dirty; EVACK; the tag becomes I. An
eviction from a tag that is I already is only acknowledged. -/
def Mach.evictLine (m : Mach) (h : HalfId) (port tid line : Nat) (data : Option (List Byte)) (poison : Bool) : Mach :=
  let x := m.blk.half h
  if x.fenced port then m
  else
    let m0 : Mach := { m with blk := m.blk.credBack h port (if data.isSome then 3 else 2) }
    let ack (k : Mach) : Mach := { k with blk := k.blk.cohSend h port { ty := 0x6B, tid := tid, line := line } }
    let st := x.tagOf port line
    if st = 0 then ack m0
    else
      let m1 := m0.updCoh h (fun u => u.setTag port line 0)
      match (x.openTxn line).filter (fun t => !t.closing) with
      | some t =>
        let m2 := m1.updCoh h (fun u => u.updTxn t.id (fun k =>
          { k with evict := k.evict.filter (· != port),
                   data := match data with
                     | some d => some d
                     | none => k.data
                   dirty := k.dirty || data.isSome, poison := k.poison || poison }))
        (ack m2).cohPoke h t.id
      | none =>
        match data with
        | some d => ack (if lineHost line then m1.lastCopy h line 4 d else m1.lineWrite h line d poison)
        | none => ack (m1.lastCopy h line (if st = 4 then 3 else st) [])

/-- RESERVATION_GRANT (R308, R309): one of the 128 held-back entries is set aside; aged requests first, then by age. -/
def Blk.resvGrant (b : Blk) (h : HalfId) : Blk :=
  let u := (b.half h).coh
  let used := (u.resv.filter (fun r => r.rcid.isSome)).length + (u.txns.filter (·.reserved)).length
  let waiting := u.resv.filter (fun r => r.rcid.isNone)
  let pick := match waiting.find? (fun r => decide (8 ≤ r.rtry)) with
    | some r => some r
    | none => waiting.head?
  match pick, findUp (fun n => !u.resv.any (fun r => r.rcid == some n)) 0 128 with
  | some r, some n =>
    if 128 ≤ used then b
    else (b.updCoh h (fun v => { v with resv := v.resv.map (fun k => if k = r then { k with rcid := some n } else k) })).cohSend h r.port
      { ty := 0x6A, tid := r.tid + n * 256 + 2 ^ 15 }
  | _, _ => b

/-- RESERVATION_EXPIRY (R308): 64 µs after CREDIT_GNT with no reissue. -/
def Half.resvExpiry (x : Half) (rcid : Nat) : Half :=
  if x.coh.resv.any (fun r => r.rcid == some rcid) then
    ((x.updCoh (fun u => { u with resv := u.resv.filter (fun r => r.rcid != some rcid) })).bump 0x0400040 63 32 1).raiseErr 9 0 0x23 0
  else x

/-- SNOOP_TIMEOUT (R310): the port is a dead agent; the line is poisoned where it owed data. -/
def Mach.snoopTimeout (m : Mach) (h : HalfId) (port tid : Nat) : Mach :=
  match (m.blk.half h).coh.txns.find? (fun t => t.id % 128 == tid && (t.evict.contains port || t.snoops.any (fun s => s.1 == port))) with
  | none => m
  | some _ => m.fencePort h port 0x20

/-! ### I/O and the host -/

/-- The enabled window that holds a line is disabling (R292). -/
def Half.disablingAt (x : Half) (line : Nat) : Bool :=
  match x.lineWindow none line with
  | some (_, w) => w.disabling
  | none => false

/-- In place of a directory way: an I/O request waits for its window's disable to end. -/
def ioHold : Nat := 2 ^ 21

/-- IO_REQUEST (R292, R313): an access to one line of an enabled DEVICE window is ordered by its home; it never sees RETRY. While the window is
disabling, a new I/O request waits; one of the block's own channels does not, for the withdrawal that ends the disable waits for them. -/
def Mach.ioReq (m : Mach) (h : HalfId) (who : CohWho) (write : Bool) (line : Nat) (bs : List Byte) (mask : Nat) : Mach :=
  let outside : Bool := match who with
    | .io _ => true
    | _ => false
  m.cohAdmit h { op := if write then 0x81 else 0x80, line := line, who := who, wdata := bs, mask := mask,
                 way := if outside && (m.blk.half h).disablingAt line then some ioHold else none }

/-- I/O requests that waited for a disable proceed once it has ended (R292). -/
def Mach.ioRelease (m : Mach) (h : HalfId) : Mach :=
  let go := (m.blk.half h).coh.txns.filter (fun t => t.way == some ioHold && !(m.blk.half h).disablingAt t.line)
  go.foldl (fun k t =>
    let k1 := k.updCoh h (fun u => u.updTxn t.id (fun e => { e with way := none }))
    if ((k1.blk.half h).openTxn t.line).isSome then k1 else k1.cohOpen h { t with way := none }) m

/-- Directory set of a line (R314): local offset bits [16:6]. -/
def hrdSet (line : Nat) : Nat := line % 2048

/-- A way is locked: a transaction on its line is open, or a victim's back-invalidate or a parked request has claimed it (R315, R316). -/
def Half.hrdLocked (x : Half) (key : Nat) : Bool :=
  match Tab.look x.coh.hrd key with
  | none => x.coh.txns.any (fun t => t.way == some key)
  | some e => (x.openTxn e.line).isSome || x.coh.txns.any (fun t => t.way == some key)

/-- A local offset lies in the range of a sealed partition (R408). -/
def Half.sealedAt (x : Half) (off : Nat) : Bool :=
  x.obj.parts.any (fun e => e.2.sealed && decide (x.framePart (off / 2 ^ 21) = some e.1))

/-- HOST_MEM_REQUEST (R315, R316, R408): a host CXL.mem request: kind 0 read for S, 1 read for A, 2 read without caching, 3 write-back. Lines
outside HOST_SHARE windows are served without the directory. -/
def Mach.hostMem (m : Mach) (h : HalfId) (port kind line : Nat) (bs : List Byte) : Mach :=
  let x := m.blk.half h
  if ¬ lineHost line ∧ x.sealedAt (lineOff line) then
    let b := m.blk.upd h (fun y => (if kind = 3 then y.bump 0x0600060 31 0 1 else y.bump 0x0600060 63 32 1).raiseErr port 0 0x76 0 (if kind = 3 then 2 else 1) (lineOff line) none port)
    if kind = 3 then { m with blk := b }
    else
      let (b1, i) := b.draw
      { m with blk := b1.emit (.memRsp (h.num * 2 + port) line 0 (freeBytes i 64) true) }
  else
  let share : Bool := match x.lineWindow none line with
    | some (_, w) => w.hostShare && w.kind == 1
    | none => false
  if kind = 3 then
    let m1 := m.lineWrite h line bs false
    m1.updCoh h (fun u => { u with hrd := u.hrd.filterMap (fun e => if e.2.line = line then
      (if e.2.ports.all (· == port) then none else some (e.1, { e.2 with ports := e.2.ports.filter (· != port) })) else some e) })
  else if kind = 2 ∨ ¬ share ∨ (x.hrdOf line).isSome then m.cohAdmit h { op := 0x90, line := line, who := .host port (if share then kind else 2) }
  else
    let keys := (List.range 16).map (fun w => hrdSet line * 16 + w)
    let t : CohTxn := { op := 0x90, line := line, who := .host port kind }
    let claim (k : Nat) (m : Mach) : Mach := m.updCoh h (fun u =>
      let hrd := Tab.put u.hrd k { line := line, st := kind + 1, ports := [port] }
      { u with hrd := hrd, hrdMax := max u.hrdMax hrd.length })
    match keys.find? (fun k => (Tab.look x.coh.hrd k).isNone && !x.hrdLocked k) with
    | some k => (claim k m).cohAdmit h t
    | none =>
      let free := keys.filter (fun k => !x.hrdLocked k)
      if free.isEmpty then m.cohAdmit h { t with way := some (hrdSet line * 16 + 2 ^ 20) }
      else
        let (b, i) := m.blk.draw
        let key := free.getD (Config.victim i free.length % free.length) 0
        let v := Tab.dflt x.coh.hrd key {}
        let m1 : Mach := { m with blk := v.ports.foldl (fun k p => (k.upd h (fun y => y.bump 0x0400050 31 0 1)).emit (.biSnp (h.num * 2 + p) v.line true)) b }
        m1.cohAdmit h { t with way := some key }

/-- A way of the directory comes free: the victim's line leaves it and the request that claimed it, or the oldest parked one of its
set, takes it (R316). -/
def Mach.wayFree (m : Mach) (h : HalfId) (key : Nat) : Mach :=
  let x := m.blk.half h
  let parked (t : CohTxn) : Bool := t.way == some (key / 16 * 16 + 2 ^ 20)
  match (match x.coh.txns.find? (fun t => t.way == some key) with
    | some t => some t
    | none => x.coh.txns.find? parked) with
  | none => m
  | some t =>
    let (p, k) := match t.who with
      | .host p k => (p, k)
      | _ => (0, 0)
    let m1 := m.updCoh h (fun u =>
      let u1 : CohUnit := { u with hrd := Tab.put u.hrd key { line := t.line, st := k + 1, ports := [p] } }
      u1.updTxn t.id (fun e => { e with way := none }))
    if ((m1.blk.half h).openTxn t.line).isSome then m1 else m1.cohOpen h { t with way := none }

/-- A way of a line's directory set may have unlocked: the parked request of the set takes it; a way that holds another line has its
back-invalidates sent first (R316). -/
def Mach.wayOpen (m : Mach) (h : HalfId) (line : Nat) : Mach :=
  let x := m.blk.half h
  let keys := (List.range 16).map (fun w => hrdSet line * 16 + w)
  match x.coh.txns.find? (fun t => t.way == some (hrdSet line * 16 + 2 ^ 20)), keys.find? (fun k => !x.hrdLocked k) with
  | some t, some key =>
    match Tab.look x.coh.hrd key with
    | none => m.wayFree h key
    | some v =>
      let b := v.ports.foldl (fun (k : Blk) p => (k.upd h (fun y => y.bump 0x0400050 31 0 1)).emit (.biSnp (h.num * 2 + p) v.line true)) m.blk
      { m with blk := b.updCoh h (fun u => u.updTxn t.id (fun e => { e with way := some key })) }
  | _, _ => m

/-- Close a transaction and let the next request for its line proceed (COH_TRANSACTION_CLOSE, R303); with none, its directory way unlocks
(R316). -/
def Mach.cohClose (m : Mach) (h : HalfId) (id : Nat) : Mach :=
  match (m.blk.half h).txn id with
  | none => m
  | some t =>
    if ¬ t.closing then m.cohPoke h id
    else
      let m1 := m.updCoh h (fun u => { u with txns := u.txns.filter (fun k => k.id != id) })
      match (m1.blk.half h).nextTxn t.line with
      | some n => m1.cohOpen h n
      | none => m1.wayOpen h t.line

/-- BIRSP (R315, R316): a back-invalidate is answered, with the host's dirty data if it had any; the entry is freed, or goes to S after a
BISnpData. -/
def Mach.birsp (m : Mach) (h : HalfId) (port line : Nat) (data : Option (List Byte)) : Mach :=
  let x := m.blk.half h
  let m1 := match data with
    | some d => m.lineWrite h line d false
    | none => m
  match x.coh.txns.find? (fun t => t.line == line && t.bis.contains port) with
  | some t =>
    let c := t.cls x
    let keep := c == 0x40 || c == 0x43
    let m2 := m1.updCoh h (fun u =>
      let u1 := u.updTxn t.id (fun k => { k with bis := k.bis.erase port })
      { u1 with hrd := u1.hrd.filterMap (fun e => if e.2.line = line then
          (if keep then some (e.1, { e.2 with st := 1 })
           else if e.2.ports.all (· == port) then none else some (e.1, { e.2 with ports := e.2.ports.filter (· != port) })) else some e) })
    let m3 := m2.cohPoke h t.id
    match x.hrdOf line with
    | some (k, _) => if (Tab.look (m3.blk.half h).coh.hrd k).isNone then m3.wayFree h k else m3
    | none => m3
  | none =>
    match x.hrdOf line with
    | some (k, e) =>
      let left := e.ports.filter (· != port)
      let m2 := m1.updCoh h (fun u => { u with hrd := if left.isEmpty then Tab.del u.hrd k else Tab.put u.hrd k { e with ports := left } })
      if left.isEmpty then m2.wayFree h k else m2
    | none => m1

/-- BI_TIMEOUT (R317): the line is poisoned in memory, the requester completes poisoned, the entry is freed; kind 0x24. -/
def Mach.biTimeout (m : Mach) (h : HalfId) (port line : Nat) : Mach :=
  let x := m.blk.half h
  let m1 : Mach := { m.linePoison h line with blk := m.blk.upd h (fun y => (y.bump 0x0400050 63 32 1).raiseErr 9 0 0x24 3 6 (lineOff line)) }
  let m2 := m1.updCoh h (fun u => { u with
    txns := u.txns.map (fun t => if t.line = line ∧ t.bis.contains port then { t with poison := true, bis := t.bis.erase port } else t)
    hrd := u.hrd.filter (fun e => e.2.line != line) })
  let ids := (x.coh.txns.filter (fun t => t.line == line && t.bis.contains port)).map (·.id)
  let m3 := ids.foldl (fun k id => k.cohPoke h id) m2
  match x.hrdOf line with
  | some (k, _) => m3.wayFree h k
  | none => m3

/-- CXL_CACHE_GO (R318): the host's GO ends a proxy request: state 1 shared, 2 exclusive, with its data where it carries some. -/
def Mach.cacheGo (m : Mach) (h : HalfId) (line st : Nat) (data : Option (List Byte)) : Mach :=
  match (m.blk.half h).coh.txns.find? (fun t => t.line == line && t.go) with
  | none => m
  | some t =>
    let c := t.cls (m.blk.half h)
    let m1 := m.updCoh h (fun u =>
      let u1 := u.updTxn t.id (fun k => { k with go := false, data := match k.data with
        | some d => some d
        | none => data })
      { u1 with proxy := if c = 0x43 ∨ c = 0x44 then u1.proxy else Tab.put u1.proxy line (if c = 0x40 then st else 2) })
    match (m1.blk.half h).txn t.id with
    | some k => m1.cohGrant h k
    | none => m1

/-- HOST_SNOOP (R319, Table 11-12): kind 0 SnpInv, 1 SnpData, 2 SnpCur, answered from the duplicate tags: codes 0 RspIHitI, 1 RspIHitSE, 2
RspIFwdM, 3 RspSHitSE, 4 RspSFwdM. Copies in E or M are snooped with the transaction of the proxy, whose close sends the answer. -/
def Mach.hostSnoop (m : Mach) (h : HalfId) (port kind line : Nat) : Mach :=
  let x := m.blk.half h
  let tags := x.tagsOf line
  let em := tags.any (fun t => decide (3 ≤ t.2))
  let pp := h.num * 2 + port
  let low : Mach := { m with blk := m.blk.upd h (fun y => y.bump 0x0400060 31 0 1) }
  let high : Mach := { m with blk := m.blk.upd h (fun y => y.bump 0x0400060 63 32 1) }
  if tags.isEmpty then { low with blk := low.blk.emit (.d2hRsp pp 0 [] false) }
  else if ¬ em ∧ kind ≠ 0 then { low with blk := low.blk.emit (.d2hRsp pp 3 [] false) }
  else
    let op := if kind = 0 then 0xB0 else 0xB1
    let t : CohTxn := { id := x.coh.next, op := op, line := line, who := .host port kind, opened := true, mask := b2n em }
    let m1 := high.updCoh h (fun u => { u with txns := u.txns ++ [t], next := u.next + 1 })
    let sent := tags.foldl (fun (k : Mach) g => k.snoop h t.id line (tagPort g.1) (if kind ≠ 0 then 0x51 else if 3 ≤ g.2 then 0x53 else 0x52)) m1
    if em then sent
    else { sent with blk := sent.blk.emit (.d2hRsp pp 1 [] false) }

/-! ### Accesses of channels to window lines (R313) -/

/-- A channel's read of window lines (R313): the bytes once every line has been delivered by its home. -/
def Mach.winRead (m : Mach) (h : HalfId) (c a n : Nat) : Mach × Option (List Byte × Bool) :=
  let parts := (winLines a n).map (fun l => (max a (l * 64), min (a + n) (l * 64 + 64) - max a (l * 64)))
  let k := Tab.dflt (m.blk.half h).dma.chans c {}
  let got (p : Nat × Nat) : Option (List Byte × Bool) := (k.fabBuf.find? (fun e => e.1 == 2 ^ 60 + p.1 && e.2.1.length == p.2)).map (·.2)
  let have_ := parts.filterMap got
  if have_.length = parts.length then
    let b := m.blk.upd h (fun y => { y with dma := { y.dma with chans := Tab.modify y.dma.chans c (fun e =>
      { e with fabBuf := e.fabBuf.filter (fun v => !(parts.any (fun p => v.1 == 2 ^ 60 + p.1))) }) } })
    ({ m with blk := b }, some (have_.flatMap (·.1), have_.any (·.2)))
  else
    let ask := parts.filter (fun p => (got p).isNone)
    (ask.foldl (fun (q : Mach) p =>
      let home := homeOf p.1
      if (q.blk.half home).coh.txns.any (fun t => t.who == .chanRead h c p.1 p.2) then q
      else q.ioReq home (.chanRead h c p.1 p.2) false (p.1 / 64) [] 0) m, none)

/-- A channel's write to window lines (R313): one I/O write per line. -/
def Mach.winWrite (m : Mach) (h : HalfId) (q slot a : Nat) (bs : List Byte) : Mach :=
  (winLines a bs.length).foldl (fun (k : Mach) l =>
    let lo := max a (l * 64)
    let hi := min (a + bs.length) (l * 64 + 64)
    let line := List.replicate (lo - l * 64) 0 ++ (bs.drop (lo - a)).take (hi - lo)
    k.ioReq (homeOf lo) (.chanWrite h q slot) true l line ((2 ^ (hi - lo) - 1) * 2 ^ (lo - l * 64))) m

/-- Start the Peloton requests that wait for this home: a read asks for each line as an I/O read, a write or atomic recalls each (R313). -/
def Mach.fabWindows (m : Mach) (h : HalfId) : Mach :=
  ((m.blk.half h).coh.fabIn.filter (fun f => !f.started)).foldl (fun (k : Mach) f =>
    let ls := winLines f.pkt.addr (max f.pkt.len 8)
    let ids := (List.range ls.length).map (· + (k.blk.half h).coh.next)
    let k1 := k.updCoh h (fun u => { u with fabIn := u.fabIn.map (fun e => if e.id = f.id then { e with started := true, need := ids } else e) })
    ls.foldl (fun (q : Mach) l => q.ioReq h (.fab f.id) (f.pkt.ty != 1) l [] 0) k1) m

end Sys2Proof.Machine
end

