-- ==== Sys2Proof/Machine/Gcm.lean ====
section
/-! DEFINITION. AES-256-GCM (FIPS 197, SP 800-38D), the cipher of sealed pages (R411). Keys are numbers whose little-endian bytes are the
key's bytes. -/
namespace Sys2Proof.Machine

/-- The next four words of the AES-256 key schedule from the eight before them: `rot` tells the two alternating forms apart. -/
def aes256Next (k : List Nat) (rot : Bool) (rcon : Nat) : List Nat :=
  let t := if rot then
      match aesSub [k.getD 29 0, k.getD 30 0, k.getD 31 0, k.getD 28 0] with
      | a :: r => Nat.xor a rcon :: r
      | [] => []
    else aesSub (k.drop 28)
  let w0 := xorList (k.take 4) t
  let w1 := xorList ((k.drop 4).take 4) w0
  let w2 := xorList ((k.drop 8).take 4) w1
  let w3 := xorList ((k.drop 12).take 4) w2
  w0 ++ w1 ++ w2 ++ w3

/-- The n rounds that remain of AES-256; `k` holds the last eight words of the schedule, of which the second four are the round key
just used. -/
def aes256Rounds : Nat → Bool → Nat → List Nat → List Nat → List Nat
  | 0, _, _, _, s => s
  | n + 1, rot, rcon, k, s =>
    let nk := aes256Next k rot rcon
    let t := aesShift (aesSub s)
    aes256Rounds n (!rot) (if rot then xtime rcon else rcon) (k.drop 16 ++ nk) (xorList (if n = 0 then t else aesMix t) nk)

/-- AES-256 of a 16-byte block. -/
def aes256 (key blk : List Nat) : List Nat :=
  let k1 := key.drop 16
  let s := xorList (aesMix (aesShift (aesSub (xorList blk (key.take 16))))) k1
  aes256Rounds 13 true 1 key s

/-- The number a block spells, its first byte the most significant. -/
def beNat (bs : List Nat) : Nat := bs.foldl (fun n b => n * 256 + b) 0
/-- The n bytes of a number, the most significant first. -/
def beBytes (n v : Nat) : List Nat := ((leBytes n v).map (·.toNat)).reverse

/-- Product in the field of GHASH: bit 127 is the coefficient of 1. -/
def ghashMul (x y : Nat) : Nat :=
  ((List.range 128).foldl (fun (s : Nat × Nat) i =>
    let z := if bitAt x (127 - i) then Nat.xor s.1 s.2 else s.1
    let v := if bitAt s.2 0 then Nat.xor (s.2 / 2) (0xE1 * 2 ^ 120) else s.2 / 2
    (z, v)) (0, y)).1

/-- A byte list in blocks of 16, the last one padded with zeros. -/
def gcmBlocks (bs : List Nat) : List (List Nat) :=
  (List.range ((bs.length + 15) / 16)).map (fun i => (List.range 16).map (fun j => bs.getD (16 * i + j) 0))

/-- GHASH of additional data and ciphertext. -/
def ghash (hk : Nat) (aad c : List Nat) : Nat :=
  let step (y : Nat) (b : List Nat) : Nat := ghashMul (Nat.xor y (beNat b)) hk
  let y := ((gcmBlocks aad) ++ (gcmBlocks c)).foldl step 0
  ghashMul (Nat.xor y (aad.length * 8 * 2 ^ 64 + c.length * 8)) hk

/-- Counter-mode transformation of a message under a 12-byte IV. -/
def gcmCtr (key iv msg : List Nat) : List Nat :=
  ((gcmBlocks msg).zip (List.range ((msg.length + 15) / 16))).flatMap (fun e => xorList e.1 (aes256 key (iv ++ beBytes 4 (e.2 + 2))))
    |>.take msg.length

/-- The tag of a ciphertext. -/
def gcmTag (key iv aad c : List Nat) : List Nat :=
  xorList (beBytes 16 (ghash (beNat (aes256 key (List.replicate 16 0))) aad c)) (aes256 key (iv ++ [0, 0, 0, 1]))

/-- Bytes as numbers and back. -/
def natsOf (bs : List Byte) : List Nat := bs.map (·.toNat)
def bytesOf (ns : List Nat) : List Byte := ns.map (BitVec.ofNat 8)

end Sys2Proof.Machine
end

