-- ==== Sys2Proof/Machine/Ware.lean ====
section
/-! DEFINITION. Fabric reads through the Ware board, and the stream prefetchers (R278 to R287). -/
namespace Sys2Proof.Machine

/-- Package and local offset of a fabric address (R136). -/
def fabDst (a : Nat) : Nat := a / 2 ^ 46 % 4096

/-- Lines, or parts of lines, that a fabric read touches: (address, length). -/
def linePieces (a n : Nat) : List (Nat × Nat) :=
  (List.range ((a + n + 255) / 256 - a / 256)).map (fun i =>
    let l := (a / 256 + i) * 256
    let s := max a l
    (s, min (a + n) (l + 256) - s))

/-- Bytes that have arrived for a channel at a fabric address. -/
def Chan.fabBytes (k : Chan) (p : Nat × Nat) : Option (List Byte × Bool) :=
  (k.fabBuf.find? (fun e => decide (e.1 ≤ p.1) && decide (p.1 + p.2 ≤ e.1 + e.2.1.length))).map
    (fun e => ((e.2.1.drop (p.1 - e.1)).take p.2, e.2.2))

/-- Issue a fill for a context (R279): the whole line where lines are installed, else the bytes asked for; a fill already on its
way serves both (R286). -/
def Mach.fillIssue (m : Mach) (h : HalfId) (ctx part addr len : Nat) (stable : Bool) (chan pf : Option Nat) (install : Bool) : Mach :=
  let x := m.blk.half h
  let a := if install then addr / 256 * 256 else addr
  let n := if install then 256 else len
  let cs := match chan with
    | some c => [c]
    | none => []
  if x.ware.fills.any (fun f => f.ctx == ctx && f.addr == a && f.len == n && f.stable == stable) then
    { m with blk := m.blk.upd h (fun y => { y with ware := { y.ware with fills := y.ware.fills.map (fun f =>
        if f.ctx = ctx ∧ f.addr = a ∧ f.len = n ∧ f.stable = stable then { f with chans := f.chans ++ cs } else f) } }) }
  else
    let g := x.gens ctx
    let f : WFill := { addr := a, len := n, ctx := ctx, gen := if stable then g.2 else g.1, stable := stable, prefetch := pf,
                       install := install, chans := cs }
    let m1 : Mach := { m with blk := m.blk.upd h (fun y => { y with ware := { y.ware with fills := y.ware.fills ++ [f] } }) }
    m1.fabIssue h { op := 0x10, addr := a, len := n, ctx := ctx, part := part, dst := fabDst a, what := .fill }

/-- A channel's read of one line part (WARE_LOOKUP, R279): a hit puts the bytes with the channel; a miss starts a fill. -/
def Mach.lookup (m : Mach) (h : HalfId) (chan ctx part : Nat) (p : Nat × Nat) : Mach :=
  let x := m.blk.half h
  let line := p.1 / 256 * 256
  match (Tab.look x.dma.chans chan).bind (fun k => k.fabBytes p), x.lineAt ctx line with
  | some _, _ => m
  | none, some l =>
    let bs := (l.data.drop (p.1 - line)).take p.2
    { m with blk := m.blk.upd h (fun y =>
        let z := y.lineHit l
        { z with dma := { z.dma with chans := Tab.modify z.dma.chans chan (fun k => { k with fabBuf := k.fabBuf ++ [(p.1, bs, false)] }) } }) }
  | none, none =>
    let waits := x.ware.fills.any (fun f => f.chans.contains chan && f.ctx == ctx && decide (f.addr ≤ p.1) &&
      decide (p.1 + p.2 ≤ f.addr + f.len))
    if waits then m
    else
      let m1 : Mach := if x.wareOn then { m with blk := m.blk.upd h (fun y => y.bump 0x0580018 47 0 1) } else m
      m1.fillIssue h ctx part p.1 p.2 false (some chan) none (x.wareOn && bitAt (x.reg 0x0580000).toNat 1)

/-- A prefetched stream of the channel's context learns how far its range has been read (R283). -/
def Half.pfRead (x : Half) (now ctx va n : Nat) : Half :=
  { x with ware := { x.ware with pf := x.ware.pf.map (fun e =>
      if e.2.ctx = ctx ∧ e.2.lo ≤ va ∧ va < e.2.hi then (e.1, { e.2 with read := max e.2.read (va + n), last := now }) else e) } }

/-- A channel's fabric read (R279): the bytes and their poison once every line has been delivered. -/
def Mach.fabRead (m : Mach) (h : HalfId) (chan ctx part va addr n : Nat) : Mach × Option (List Byte × Bool) :=
  let ps := linePieces addr n
  let m0 : Mach := { m with blk := m.blk.upd h (fun y => y.pfRead (m.clk.now h) ctx va n) }
  let m1 := ps.foldl (fun k p => k.lookup h chan ctx part p) m0
  match Tab.look (m1.blk.half h).dma.chans chan with
  | none => (m1, none)
  | some k =>
    let got := ps.filterMap k.fabBytes
    if got.length < ps.length then (m1, none)
    else
      let used (e : Nat × List Byte × Bool) : Bool := meets e.1 e.2.1.length addr n
      let b := m1.blk.upd h (fun y => { y with dma := { y.dma with chans := Tab.modify y.dma.chans chan (fun c =>
        { c with fabBuf := c.fabBuf.filter (fun e => !used e) }) } })
      ({ m1 with blk := b }, some (got.flatMap (·.1), got.any (·.2)))

/-- A fill's data or failure reaches its readers (R279, R286, R346): delivered to the channels that wait, installed unless dropped
or poisoned; a failed prefetch ends its stream quietly. -/
def Blk.fillDone (b : Blk) (h : HalfId) (ctx addr len : Nat) (data : Option (List Byte × Bool)) : Blk :=
  let x := b.half h
  match x.ware.fills.find? (fun f => f.ctx == ctx && f.addr == addr && f.len == len) with
  | none => b
  | some f =>
    let (b1, i) := b.draw
    b1.upd h (fun y =>
      let bs := match data with
        | some d => d.1
        | none => freeBytes i len
      let bad : Bool := match data with
        | some d => d.2
        | none => true
      let chans' := f.chans.foldl (fun cs c => Tab.modify cs c (fun k => { k with fabBuf := k.fabBuf ++ [(addr, bs, bad)] })) y.dma.chans
      let y1 : Half := { y with dma := { y.dma with chans := chans' }, ware := { y.ware with fills := y.ware.fills.erase f } }
      let y2 := if f.install ∧ ¬ bad ∧ y1.wareOn then
          y1.linePut { addr := addr, ctx := ctx, gen := f.gen, stable := f.stable, prefetched := f.prefetch.isSome, data := bs }
        else y1
      match f.prefetch with
      | some p => if data.isNone then
            ({ y2 with ware := { y2.ware with pf := Tab.del y2.ware.pf p } } : Half).bump 0x0580028 31 0 1
          else y2
      | none => y2)

/-! ### Prefetchers (R282, R283) -/

/-- A prefetcher ends without a report, counted where R283 says so. -/
def Half.pfEnd (x : Half) (p : Nat) (counted : Bool) : Half :=
  let y : Half := { x with ware := { x.ware with pf := Tab.del x.ware.pf p } }
  if counted then y.bump 0x0580028 31 0 1 else y

/-- PREFETCH_STREAM: claim one of the half's 256 prefetchers: status and RESULT. -/
def Half.pfStart (x : Half) (now ctx part lo n depth : Nat) (stable : Bool) : Half × Nat × Nat :=
  match Tab.free x.ware.pf 0 256 with
  | none => (x, 0x40, 0)
  | some p =>
    let e : Prefetch := { ctx := ctx, part := part, lo := lo, hi := lo + n, depth := depth * 1024, stable := stable, next := lo,
                          read := lo, last := now }
    ({ x with ware := { x.ware with pf := Tab.put x.ware.pf p e } }, 0, x.id.num * 256 + p)

/-- PREFETCH_FILL (R283): the next line of a stream, while it lies within DEPTH of the highest line read. A span that is not
present, is refused or does not lead to the fabric ends the stream quietly. -/
def Mach.pfFill (m : Mach) (h : HalfId) (p : Nat) : Mach :=
  let x := m.blk.half h
  match Tab.look x.ware.pf p with
  | none => m
  | some e =>
    if e.hi ≤ e.next ∨ e.read + e.depth ≤ e.next then m
    else
      let (m1, r) := m.translate h e.ctx e.part e.next false
      let stop : Mach := { m1 with blk := m1.blk.upd h (fun y => y.pfEnd p true) }
      match r with
      | .absent => stop
      | .prot _ => stop
      | .span s =>
        if s.target ≠ 2 then stop
        else
          let a := s.phys e.next
          let line := a / 256 * 256
          let n := min (line + 256 - a) (e.hi - e.next)
          let b1 := m1.blk.upd h (fun y =>
            { y with ware := { y.ware with pf := Tab.modify y.ware.pf p (fun k => { k with next := k.next + n }) } })
          let m2 : Mach := { m1 with blk := b1 }
          if ((b1.half h).lineAt e.ctx line).isSome ∨ ¬ (b1.half h).wareOn then m2
          else m2.fillIssue h e.ctx e.part a n e.stable none (some p) true

/-- PREFETCH_IDLE_END (R283): no read for 1 ms, or the last line has been read. -/
def Half.pfIdle (x : Half) (p : Nat) : Half :=
  match Tab.look x.ware.pf p with
  | none => x
  | some _ => x.pfEnd p false

end Sys2Proof.Machine
end

