-- ==== Sys2Proof/Machine/Dma.lean ====
section
/-! DEFINITION. DMA channels (chapter 8): operand accesses, bursts and pieces, faults of a channel, acknowledgements and
completion. What a group of a transform opcode does is in Machine/Xfm.lean. -/
namespace Sys2Proof.Machine

/-! ### Memory accesses of a context -/

/-- What an access to device memory comes to. -/
inductive DevRes where
  | ok | denied | unreachable
  deriving DecidableEq, Repr

/-- Whether the frame-owner checker and the memory path serve an access (R39, R505). -/
def Half.devAccess (x : Half) (off ctx part : Nat) (priv : Bool) : DevRes :=
  if ¬ x.devOk off then .unreachable else if x.checkOk off ctx part priv then .ok else .denied

/-- A channel. -/
def Half.chan (x : Half) (c : Nat) : Chan := Tab.dflt x.dma.chans c {}
def Half.updChan (x : Half) (c : Nat) (f : Chan → Chan) : Half :=
  { x with dma := { x.dma with chans := Tab.modify x.dma.chans c f } }
def Blk.updChan (b : Blk) (h : HalfId) (c : Nat) (f : Chan → Chan) : Blk := b.upd h (fun x => x.updChan c f)
def Mach.updChan (m : Mach) (h : HalfId) (c : Nat) (f : Chan → Chan) : Mach := { m with blk := m.blk.updChan h c f }
def Mach.chan (m : Mach) (h : HalfId) (c : Nat) : Chan := (m.blk.half h).chan c

/-- Queue, slot, context and partition of the packet a channel runs. -/
def Chan.q (k : Chan) : Nat := k.disp.ref.q
def Chan.slot (k : Chan) : Nat := k.disp.ref.slot
def Chan.ctx (k : Chan) : Nat := k.disp.pkt.hdr.ctx
def Chan.part (k : Chan) : Nat := k.disp.pkt.hdr.part

/-- A channel's packet ends: status, DETAIL, RESULT and FAULT_ADDR. The first cause stands. -/
def Mach.chanEnd (m : Mach) (h : HalfId) (c st d res fa : Nat) : Mach :=
  m.updChan h c (fun k => if k.ends.isSome then k else { k with ends := some (st, d, res, fa) })

/-- A checker denial (R39): kind 0x14, PROTECTION 0x0C, and the context is lost with cause 0x01. -/
def Mach.denied (m : Mach) (h : HalfId) (c off va access : Nat) : Mach :=
  let k := m.chan h c
  let b := m.blk.upd h (fun x => x.raiseErr 4 (c / 8) 0x14 3 access off (some k.part) c)
  let e : LossEv := { ctx := k.ctx, cause := 1, master := 2 ^ 15 + k.part % 64 * 512 + c, access := access, addr := off, half := h,
                      ref := some (k.q, k.slot) }
  Mach.chanEnd { m with blk := { b with lossQ := b.lossQ ++ [e] } } h c 0x21 0x0C k.done va

/-! ### Sagger (R411 to R414) -/

/-- The key slot of a sealed page that a packet reaches at an address, by its holder entry. -/
def Half.sealAt (x : Half) (q slot ctx va : Nat) : Option Nat :=
  (x.xlt.holders.find? (fun e => e.2.q == q && e.2.slot == slot && e.2.span.covers ctx va && e.2.span.sealed)).map (·.2.span.slot)

/-- A context's key slot. -/
def Ctx.key (c : Ctx) (n : Nat) : KeySlot := if n = 0 then c.slot0 else c.slot1

/-- Where a sealed page's record lies (R411): AREA, page index and the record's place; `win` tells a window page from a region page. -/
structure SealRef where
  area : Nat := 0xFFFF
  idx : Nat := 0
  rec_ : Place := .dev 0
  win : Bool := true
  deriving DecidableEq, Repr

/-- What finding a seal record comes to. -/
inductive SealAt where
  | ok (r : SealRef)
  | wait
  | absent (va : Nat)
  | prot (detail va : Nat)
  deriving DecidableEq, Repr

/-- Find the record of a sealed page (R411, R419). -/
def Mach.sealRef (m : Mach) (h : HalfId) (c va : Nat) (place : Place) (write sync : Bool) : Mach × SealAt :=
  let k := m.chan h c
  match place with
  | .dev a =>
    match (m.blk.half h).sealedRegion k.ctx a with
    | some (n, r, lo) =>
      let i := (a - lo) / 4096
      (m, .ok { area := n, idx := i, rec_ := .dev (lo + r.size / 128 * 127 + 32 * i), win := false })
    | none => (m, .prot 0x06 va)
  | _ =>
    match (m.blk.half h).ctx? k.ctx with
    | none => (m, .prot 0x06 va)
    | some cx =>
      let i := (va - cx.sealVa) / 4096
      let a := cx.sealMeta + 32 * i
      match m.resolve h k.q k.slot 3 c k.ctx k.part a write (m.blk.dataPort k.q) sync with
      | (m1, .ok p _) => (m1, .ok { idx := i, rec_ := p })
      | (m1, .wait) => (m1, .wait)
      | (m1, .absent) => (m1, .absent a)
      | (m1, .prot d) => (m1, .prot d a)

/-- The additional authenticated data of a sealed page, and the IV of a write counter (R411). -/
def sealAad (ctx area idx epoch : Nat) : List Nat :=
  natsOf (leBytes 4 ctx ++ leBytes 2 area ++ [0, 0] ++ leBytes 4 idx ++ leBytes 4 epoch)
def sealIv (ctr idx : Nat) : List Nat := natsOf (leBytes 8 ctr ++ leBytes 4 idx)

/-- Bytes at a place, and a write of bytes there. -/
def MemSys.bytesAt (ms : MemSys) (p : Place) (n : Nat) : List Byte :=
  match p with
  | .dev a => ms.readDev a n
  | .host a _ _ => ms.readHost a n
  | .fab _ => List.replicate n 0
def MemSys.putAt (ms : MemSys) (p : Place) (bs : List Byte) : MemSys :=
  match p with
  | .dev a => ms.writeDev a bs
  | .host a _ _ => ms.writeHost a bs
  | .fab _ => ms

/-- The page that holds a place. -/
def Place.page : Place → Place
  | .dev a => .dev (a / 4096 * 4096)
  | .host a t p => .host (a / 4096 * 4096) t p
  | .fab a => .fab (a / 4096 * 4096)

/-- What opening a sealed page comes to (R413). -/
inductive Opened where
  | ok (bs : List Byte)
  | stale
  | poisoned
  | badTag
  deriving DecidableEq, Repr

/-- Open a sealed page (R413): by the slot its leaf names where the record's EPOCH is that slot's, else by the other one. -/
def openPage (c : Ctx) (ctx slot : Nat) (r : SealRef) (page rec_ : List Byte) : Opened :=
  let epoch := byteFld rec_ 27 24
  let fits (s : KeySlot) : Bool := s.st != .free && s.epoch == epoch
  if epoch = 0xFFFFFFFF then .poisoned
  else match (if fits (c.key slot) then some (c.key slot) else if fits (c.key (1 - slot)) then some (c.key (1 - slot)) else none) with
    | none => .stale
    | some s =>
      let key := natsOf (leBytes 32 s.key)
      let iv := sealIv (byteFld rec_ 23 16) r.idx
      if gcmTag key iv (sealAad ctx r.area r.idx epoch) (natsOf page) = natsOf (rec_.take 16) then .ok (bytesOf (gcmCtr key iv (natsOf page)))
      else .badTag

/-- A sealed page and its record, sealed under a slot with a write counter (R411, R412). -/
def sealPage (s : KeySlot) (ctx ctr : Nat) (r : SealRef) (plain : List Byte) : List Byte × List Byte :=
  let key := natsOf (leBytes 32 s.key)
  let iv := sealIv ctr r.idx
  let ct := gcmCtr key iv (natsOf plain)
  (bytesOf ct, bytesOf (gcmTag key iv (sealAad ctx r.area r.idx s.epoch) ct) ++ leBytes 8 ctr ++ leBytes 4 s.epoch ++ leBytes 4 0)

/-- The write counter of the block (R412): block time, half and engine. -/
def sealCtr (now : Nat) (h : HalfId) (engine : Nat) : Nat := now % 2 ^ 58 * 32 + h.num * 16 + engine % 16

/-- What reading a sealed page comes to for a channel: its plaintext, or nothing because it waits or has ended. -/
inductive Unsealed where
  | ok (bs : List Byte) (r : SealRef)
  | wait
  | ended
  deriving DecidableEq, Repr

/-- Read a sealed page on behalf of a channel (R413): no byte is released until the tag verifies. -/
def Mach.unseal (m : Mach) (h : HalfId) (c slot va : Nat) (place : Place) (sync : Bool) : Mach × Unsealed :=
  let k := m.chan h c
  let pva := va / 4096 * 4096
  match m.sealRef h c va place false sync with
  | (m1, .wait) => (m1, .wait)
  | (m1, .absent a) => (m1.chanEnd h c (if k.done = 0 then 0x20 else 0x01) 0xC0 k.done a, .ended)
  | (m1, .prot d a) => (m1.chanEnd h c 0x21 d k.done a, .ended)
  | (m1, .ok r) =>
    match (m1.blk.half h).ctx? k.ctx with
    | none => (m1, .ended)
    | some cx =>
      let dirty : Bool := match place.page with
        | .dev a => m1.mem.poisoned a 4096
        | _ => false
      match (if dirty then .poisoned else openPage cx k.ctx slot r (m1.mem.bytesAt place.page 4096) (m1.mem.bytesAt r.rec_ 32)) with
      | .ok bs => (m1, .ok bs r)
      | .stale =>
        let b := m1.blk.upd h (fun x => (x.bump 0x0800040 31 0 1).raiseErr 4 (c / 8) 0x72 0 1 pva (some k.part) c)
        (Mach.chanEnd { m1 with blk := b } h c 0x60 0 k.done pva, .ended)
      | .poisoned => (m1.chanEnd h c 0x22 0 k.done pva, .ended)
      | .badTag =>
        if r.win then
          let b := m1.blk.upd h (fun x => (x.bump 0x0800038 31 0 1).raiseErr 4 (c / 8) 0x70 3 1 pva (some k.part) c)
          let e : LossEv := { ctx := k.ctx, cause := 6, master := 2 ^ 15 + k.part % 64 * 512 + c, access := 1, addr := pva, half := h,
                              ref := some (k.q, k.slot) }
          (Mach.chanEnd { m1 with blk := { b with lossQ := b.lossQ ++ [e] } } h c 0x22 0x30 k.done pva, .ended)
        else
          let b := m1.blk.upd h (fun x => (x.bump 0x0800038 63 32 1).raiseErr 4 (c / 8) 0x71 2 1 pva (some k.part) c)
          (Mach.chanEnd { m1 with blk := b } h c 0x22 0 k.done pva, .ended)

/-- Write bytes of a sealed page on behalf of a channel (R414): a part of a page is merged into the page as authenticated; the page is
written before its record. The page's bytes and its record's are answered where they may be written. -/
def Mach.reseal (m : Mach) (h : HalfId) (c slot va : Nat) (place : Place) (bs : List Byte) (sync : Bool) : Mach × Option (List Byte × List Byte × SealRef) :=
  let k := m.chan h c
  let old : Mach × Option (List Byte × SealRef) :=
    if bs.length = 4096 then
      match m.sealRef h c va place true sync with
      | (m1, .ok r) => (m1, some (bs, r))
      | (m1, .absent a) => (m1.chanEnd h c (if k.done = 0 then 0x20 else 0x01) 0xC0 k.done a, none)
      | (m1, .prot d a) => (m1.chanEnd h c 0x21 d k.done a, none)
      | (m1, .wait) => (m1, none)
    else
      match m.unseal h c slot va place sync with
      | (m1, .ok p r) => (m1, some (p.take (va % 4096) ++ bs ++ p.drop (va % 4096 + bs.length), r))
      | (m1, _) => (m1, none)
  match old with
  | (m1, none) => (m1, none)
  | (m1, some (p, r)) =>
    match (m1.blk.half h).ctx? k.ctx with
    | none => (m1, none)
    | some cx =>
      let (ct, rec_) := sealPage (cx.key slot) k.ctx (sealCtr (m1.clk.now h) h (c / 8)) r p
      (m1, some (ct, rec_, r))

/-! ### Operands -/

/-- A part of an operand: where it lies, its address, its bytes, and the end of its page. -/
structure Piece where
  place : Place := .dev 0
  va : Nat := 0
  n : Nat := 0
  pageEnd : Nat := 0
  deriving DecidableEq, Repr

/-- What resolving an operand comes to. -/
inductive Parts where
  | ok (l : List Piece)
  | wait
  | absent (va : Nat)
  | prot (detail va : Nat)
  deriving DecidableEq, Repr

/-- Resolve an operand, page by page, in parts that do not cross a 4 KiB boundary (R193). -/
def Mach.parts (m : Mach) (h : HalfId) (c opnd va n : Nat) (write sync : Bool) : Nat → Mach × Parts
  | 0 => (m, .ok [])
  | f + 1 =>
    if n = 0 then (m, .ok [])
    else
      let k := m.chan h c
      let pp := m.blk.dataPort k.q
      let (m1, r) := m.resolve h k.q k.slot opnd c k.ctx k.part va write pp sync
      match r with
      | .wait => (m1, .wait)
      | .absent => (m1, .absent va)
      | .prot d => (m1, .prot d va)
      | .ok p e =>
        let (m2, waits) := match (m1.blk.half h).sealAt k.q k.slot k.ctx va with
          | none => (m1, false)
          | some _ => match m1.sealRef h c va p write sync with
            | (m2, .wait) => (m2, true)
            | (m2, _) => (m2, false)
        if waits ∨ ¬ m2.blk.placeReady pp k.part p then (m2, .wait)
        else
          let n1 := min n (min (e - va) (4096 - va % 4096))
          let (m2, rest) := Mach.parts m2 h c opnd (va + n1) (n - n1) write sync f
          (m2, match rest with
            | .ok l => .ok ({ place := p, va := va, n := n1, pageEnd := e } :: l)
            | r2 => r2)

/-- What an operand read comes to. -/
inductive Got where
  | ok (bs : List Byte) (poison : Bool)
  | wait
  | ended
  | absent (va : Nat)
  | prot (detail va : Nat)
  deriving DecidableEq, Repr

/-- Read one resolved part (R39, R214, R279, R505). -/
def Mach.readPlain (m : Mach) (h : HalfId) (c : Nat) (p : Piece) : Mach × Got :=
  let k := m.chan h c
  match p.place with
  | .host a _ _ => (m, .ok (m.mem.readHost a p.n) false)
  | .fab a =>
    match m.fabRead h c k.ctx k.part p.va a p.n with
    | (m1, some (bs, po)) => (m1, .ok bs po)
    | (m1, none) => (m1, .wait)
  | .dev a =>
    match (m.blk.half h).devAccess a k.ctx k.part (k.q == 0) with
    | .ok =>
      if m.blk.toHome h a p.n then
        match m.winRead h c a p.n with
        | (m1, some (bs, po)) => (m1, .ok bs po)
        | (m1, none) => (m1, .wait)
      else (m, .ok (m.mem.readDev a p.n) (m.mem.poisoned a p.n))
    | .denied => (m.denied h c a p.va 1, .ended)
    | .unreachable =>
      let (b, i) := m.blk.draw
      ({ m with blk := b }, .ok (freeBytes i p.n) true)

/-- Read one resolved part, deciphered where its page is sealed (R413). -/
def Mach.readPart (m : Mach) (h : HalfId) (c : Nat) (p : Piece) : Mach × Got :=
  let k := m.chan h c
  match (m.blk.half h).sealAt k.q k.slot k.ctx p.va with
  | none => m.readPlain h c p
  | some slot =>
    let denied : Bool := match p.place with
      | .dev a => (m.blk.half h).devAccess a k.ctx k.part false != .ok
      | _ => false
    if denied then m.readPlain h c p
    else match m.unseal h c slot p.va p.place true with
      | (m1, .ok bs _) => (m1, .ok ((bs.drop (p.va % 4096)).take p.n) false)
      | (m1, .wait) => (m1, .wait)
      | (m1, .ended) => (m1, .ended)

/-- Read every part in order. -/
def Mach.readParts (m : Mach) (h : HalfId) (c : Nat) : List Piece → Mach × Got
  | [] => (m, .ok [] false)
  | p :: ps =>
    match m.readPart h c p with
    | (m1, .ok bs po) => match m1.readParts h c ps with
      | (m2, .ok cs qo) => (m2, .ok (bs ++ cs) (po || qo))
      | r => r
    | r => r

/-- Read an operand whole. -/
def Mach.readOp (m : Mach) (h : HalfId) (c opnd va n : Nat) (sync : Bool) : Mach × Got :=
  match m.parts h c opnd va n false sync (n + 1) with
  | (m1, .ok l) => m1.readParts h c l
  | (m1, .wait) => (m1, .wait)
  | (m1, .absent v) => (m1, .absent v)
  | (m1, .prot d v) => (m1, .prot d v)

/-- Mark a host write: the context becomes unflushed on the port, and the port's last write is noted (R205, R203). -/
def Half.markHost (x : Half) (now pp ctx addr : Nat) : Half :=
  { x with dma := { x.dma with marks := setAdd x.dma.marks (pp * 2 ^ 20 + ctx), last := Tab.put x.dma.last pp (now, addr, false) } }

/-- Write one resolved part. Device and fabric writes are acknowledged later unless the exchange is taken as done; a host write
is covered by a flush read (Table 08-5). A denied or unreachable write ends the packet (R39, R505). -/
def Mach.writePlain (m : Mach) (h : HalfId) (c : Nat) (p : Piece) (bs : List Byte) (poison sync : Bool) : Mach :=
  let k := m.chan h c
  match p.place with
  | .host a _ _ =>
    let pp := m.blk.dataPort k.q
    let now := m.clk.now h
    let m1 : Mach := { m with mem := m.mem.writeHost a bs, blk := m.blk.upd h (fun x => x.markHost now pp k.ctx a) }
    m1.updChan h c (fun e => { e with flush := Tab.put e.flush pp a })
  | .fab a =>
    let m1 : Mach := { m with blk := m.blk.upd h (fun x => x.lineDrop a bs.length) }
    let m2 := (linePieces a bs.length).foldl (fun (n : Mach) l =>
      n.fabIssue h { op := 0x20, addr := l.1, len := l.2, ctx := k.ctx, part := k.part, dst := fabDst l.1,
                     data := (bs.drop (l.1 - a)).take l.2, err := poison, pre := k.done, va := p.va + (l.1 - a), what := .write k.q k.slot k.work.written }) m1
    m2.updChan h c (fun e => { e with acks := e.acks + (linePieces a bs.length).length })
  | .dev a =>
    match (m.blk.half h).devAccess a k.ctx k.part (k.q == 0) with
    | .ok =>
      if m.blk.toHome h a bs.length then
        (m.updChan h c (fun e => { e with acks := e.acks + (winLines a bs.length).length })).winWrite h k.q k.slot a bs
      else
      let m1 : Mach := { m with mem := m.mem.writeDev a bs poison }
      if sync then m1 else m1.updChan h c (fun e => { e with acks := e.acks + 1 })
    | .denied => m.denied h c a p.va 2
    | .unreachable =>
      Mach.chanEnd { m with blk := m.blk.upd h (fun x => x.raiseErr 4 (c / 8) 0x13 3 2 a (some k.part) c) } h c 0x21 0x0E k.done p.va

/-- Write one resolved part, sealed where its page is (R414): the page, then its record, through the same port. A sealed page cannot carry
poison: the write of poisoned data marks its record instead (EPOCH 0xFFFF_FFFF). -/
def Mach.writePart (m : Mach) (h : HalfId) (c : Nat) (p : Piece) (bs : List Byte) (poison sync : Bool) : Mach :=
  let k := m.chan h c
  match (m.blk.half h).sealAt k.q k.slot k.ctx p.va with
  | none => m.writePlain h c p bs poison sync
  | some slot =>
    let denied : Bool := match p.place with
      | .dev a => (m.blk.half h).devAccess a k.ctx k.part false != .ok
      | _ => false
    if denied then m.writePlain h c p bs poison sync
    else match m.reseal h c slot p.va p.place bs true with
      | (m1, none) => m1
      | (m1, some (ct, rec_, r)) =>
        let page := p.va / 4096 * 4096
        let rec1 := if poison then rec_.take 24 ++ leBytes 4 0xFFFFFFFF ++ rec_.drop 28 else rec_
        let m2 := m1.writePlain h c { p with place := p.place.page, va := page, n := 4096 } ct false sync
        m2.writePlain h c { place := r.rec_, va := page, n := 32, pageEnd := 0 } rec1 false sync

/-- Write bytes over resolved parts. -/
def Mach.writeParts (m : Mach) (h : HalfId) (c : Nat) (bs : List Byte) (poison sync : Bool) : List Piece → Mach
  | [] => m
  | p :: ps => (m.writePart h c p (bs.take p.n) poison sync).writeParts h c (bs.drop p.n) poison sync ps

/-! ### Faults of a channel (R166 to R176) -/

/-- An unrecoverable fault (R176): PARTIAL once a piece is complete, else TRANSLATION_FAULT. -/
def Mach.chanUnrec (m : Mach) (h : HalfId) (c opnd reason va : Nat) : Mach :=
  let k := m.chan h c
  let m1 : Mach := { m with blk := m.blk.upd h (fun x => x.bump 0x0100128 63 32 1) }
  (m1.chanEnd h c (if k.done = 0 then 0x20 else 0x01) (opnd * 64 + reason) k.done va).updChan h c (fun e => { e with fault := none })

/-- A translation refused at an access of a channel: PROTECTION with the walk's DETAIL (R140, R173). -/
def Mach.chanProt (m : Mach) (h : HalfId) (c detail va : Nat) : Mach := m.chanEnd h c 0x21 detail (m.chan h c).done va

/-- Start REWALK (R170, R172): the page counts one more service, and its holder is translated again in class 1. -/
def Mach.rewalk (m : Mach) (h : HalfId) (c : Nat) : Mach :=
  let k := m.chan h c
  match k.fault with
  | none => m
  | some f =>
    let page := f.va / 4096
    { m with blk := m.blk.upd h (fun x =>
        let y := x.dropHolders (fun d => d.q == k.q && d.slot == k.slot && d.opnd == f.opnd && (d.absent || d.st != 1) && d.span.va == f.va)
        let z := y.updChan c (fun e => { e with st := 5, retries := Tab.put e.retries page (Tab.dflt e.retries page 0 + 1) })
        z.holdAt c k.q k.slot f.opnd k.ctx k.part f.va f.write 1) }

/-- The allocator's answer to a heap fault (R171): a page of a live allocation is RESOLVED, any other INVALID (reason 0x05). -/
def Mach.allocAnswer (m : Mach) (h : HalfId) (c : Nat) : Mach :=
  let k := m.chan h c
  match k.fault with
  | none => m
  | some f =>
    if k.st ≠ 4 ∨ ¬ f.heap then m
    else
      let live := (m.blk.half h).obj.mems.any (fun o => o.kind == .alloc && o.ctx == k.ctx && o.owned && decide (o.va ≤ f.va) &&
        decide (f.va < o.va + o.span))
      if live then m.rewalk h c else m.chanUnrec h c f.opnd 5 f.va

/-- A channel meets a missing translation on a served range (R168, R172, R173). -/
def Mach.chanFault (m : Mach) (h : HalfId) (c opnd va : Nat) (write : Bool) : Mach :=
  let k := m.chan h c
  let x := m.blk.half h
  let m1 : Mach := { m with blk := m.blk.upd h (fun y => y.bump 0x0100128 31 0 1) }
  match x.ctx? k.ctx with
  | none => m1.chanUnrec h c opnd 0 va
  | some e =>
    let inFence := e.fenceLog2 != 0 && decide (e.fenceVa ≤ va) && decide (va < e.fenceVa + 8 * 2 ^ e.fenceLog2)
    let inHeap := decide (e.heapVa ≤ va) && decide (va < e.heapVa + e.heapSize)
    let pp := m.blk.ringPort k.q
    let fn := (m.blk.half (HalfId.ofPort pp)).fn (pp % 2) k.part
    if inFence then m1.chanUnrec h c opnd 0 va
    else if x.regFld 0x0100120 35 32 ≤ Tab.dflt k.retries (va / 4096) 0 then m1.chanUnrec h c opnd 4 va
    else if inHeap then
      m1.updChan h c (fun e => { e with st := 4, fault := some { va := va, opnd := opnd, write := write, start := m.clk.now h, heap := true } })
    else if (m.blk.hport pp).contained then m1.chanUnrec h c opnd 7 va
    else if ¬ fn.pri ∨ (m.blk.half (HalfId.ofPort pp)).xlt.priFailed.contains (pp % 2 * 64 + k.part) then m1.chanUnrec h c opnd 2 va
    else m1.updChan h c (fun e => { e with st := 4, fault := some { va := va, opnd := opnd, write := write, start := m.clk.now h } })

/-- A channel in REWALK looks at its holder again (Table 07-2). -/
def Mach.settleOne (m : Mach) (h : HalfId) (c : Nat) : Mach :=
  let k := m.chan h c
  match k.fault with
  | none => m
  | some f =>
    if k.st ≠ 5 then m
    else match (m.blk.half h).holderAt k.q k.slot f.opnd k.ctx f.va with
      | none => m
      | some (_, d) =>
        if d.absent then m.chanFault h c f.opnd f.va f.write
        else match d.denied with
          | some v => m.chanProt h c v f.va
          | none => if d.st = 1 then m.updChan h c (fun e => { e with st := 1, fault := none }) else m

/-- Every channel in REWALK of a half. -/
def Mach.settle (m : Mach) (h : HalfId) : Mach :=
  ((m.blk.half h).dma.chans.map (·.1)).foldl (fun k c => k.settleOne h c) m

/-- A channel that waits in FAULT_WAIT or REWALK, at once: the allocator answers, and the page is walked. -/
def Mach.serveNow (m : Mach) (h : HalfId) (c : Nat) : Mach :=
  let m1 := m.allocAnswer h c
  let k := m1.chan h c
  match k.fault with
  | none => m1
  | some f =>
    if k.st ≠ 5 then m1
    else match (m1.blk.half h).holderAt k.q k.slot f.opnd k.ctx f.va with
      | none => m1
      | some (n, _) => (m1.runMiss h n).settleOne h c

/-! ### Bursts of the byte-moving opcodes (R197 to R199) -/

/-- Bytes a packet moves, in piece order (R209). -/
def Chan.total (k : Chan) : Nat :=
  let p := k.disp.pkt
  match p.op with
  | 0x01 => p.arg 2
  | 0x02 => p.arg 1
  | 0x03 => p.arg 1
  | 0x04 => p.arg 2 * p.arg 3 * p.arg 4
  | 0x05 => p.arg 3 * 2 ^ p.arg 4
  | 0x06 => p.arg 3 * 2 ^ p.arg 4
  | 0x50 => k.data.length
  | _ => 0

/-- One contiguous move: source address (none for bytes the packet carries), destination address, bytes to the next break. -/
structure Move where
  src : Option Nat := none
  dst : Nat := 0
  run : Nat := 0
  deriving DecidableEq, Repr

/-- Bytes the packet carries, from a position on. -/
def Chan.literal (k : Chan) (pos n : Nat) : List Byte :=
  let p := k.disp.pkt
  match p.op with
  | 0x02 =>
    let pat := leBytes 16 (p.arg 2)
    (List.range n).map (fun i => pat.getD ((pos + i) % 16) 0)
  | 0x03 => (p.hdr.payload.drop pos).take n
  | _ => (k.data.drop pos).take n

/-- Destination address of a position, where it follows from the packet alone; the destination's base otherwise. -/
def Chan.dstAt (k : Chan) (pos : Nat) : Nat :=
  let p := k.disp.pkt
  match p.op with
  | 0x01 => p.arg 1 + pos
  | 0x02 => p.arg 0 + pos
  | 0x03 => p.arg 0 + pos
  | 0x04 => p.arg 1 + pos / (p.arg 2 * p.arg 3) * p.arg 8 + pos / p.arg 2 % p.arg 3 * p.arg 7 + pos % p.arg 2
  | 0x05 => p.arg 1 + pos
  | 0x50 => p.arg 2 + pos
  | 0x19 => p.arg 2
  | _ => p.arg 1

/-- What looking up the next move comes to. -/
inductive MoveRes where
  | ok (v : Move)
  | wait
  | ended
  | absent (va : Nat)
  | prot (detail va : Nat)
  deriving DecidableEq, Repr

/-- The move at a channel's position; GATHER and SCATTER read their index. -/
def Mach.moveAt (m : Mach) (h : HalfId) (c : Nat) (sync : Bool) : Mach × MoveRes :=
  let k := m.chan h c
  let p := k.disp.pkt
  let pos := k.pos
  match p.op with
  | 0x01 => (m, .ok { src := some (p.arg 0 + pos), dst := p.arg 1 + pos, run := p.arg 2 - pos })
  | 0x02 => (m, .ok { dst := p.arg 0 + pos, run := p.arg 1 - pos })
  | 0x03 => (m, .ok { dst := p.arg 0 + pos, run := p.arg 1 - pos })
  | 0x50 => (m, .ok { dst := p.arg 2 + pos, run := k.data.length - pos })
  | 0x04 =>
    let xb := p.arg 2
    let xx := pos % xb
    let y := pos / xb % p.arg 3
    let z := pos / (xb * p.arg 3)
    (m, .ok { src := some (p.arg 0 + z * p.arg 6 + y * p.arg 5 + xx), dst := p.arg 1 + z * p.arg 8 + y * p.arg 7 + xx, run := xb - xx })
  | _ =>
    let es := 2 ^ p.arg 4
    let i := pos / es
    let o := pos % es
    let w := if bitAt (p.arg 5) 0 then 8 else 4
    let inline := bitAt p.hdr.flags 4
    let stride := if p.arg 6 = 0 then es else p.arg 6
    let (m1, g) := if inline then (m, Got.ok ((p.hdr.payload.drop (i * w)).take w) false) else m.readOp h c 2 (p.arg 2 + i * w) w sync
    match g with
    | .wait => (m1, .wait)
    | .ended => (m1, .ended)
    | .absent v => (m1, .absent v)
    | .prot d v => (m1, .prot d v)
    | .ok bs po =>
      let idx := leNat bs
      let far := (if p.op = 0x05 then p.arg 0 else p.arg 1) + idx * stride
      let near := (if p.op = 0x05 then p.arg 1 else p.arg 0) + i * es
      if po then (m1.chanEnd h c 0x22 0 k.done (p.arg 2 + i * w), .ended)
      else if 2 ^ 57 < far + es ∨ 2 ^ 57 < near + es then (m1.chanEnd h c 0x11 (if inline then 32 else 16) k.done 0, .ended)
      else if p.op = 0x05 then (m1, .ok { src := some (far + o), dst := near + o, run := es - o })
      else (m1, .ok { src := some (near + o), dst := far + o, run := es - o })

/-- What a burst attempt comes to. -/
inductive Burst1 where
  | more | wait | done | ended
  deriving DecidableEq, Repr

/-- First poisoned byte of a read at an operand address. -/
def firstPoison (ms : MemSys) (p : Piece) : Nat :=
  match p.place with
  | .dev a => match findUp (fun i => ms.poison.contains ((a + i) / 64)) 0 p.n with
    | some i => p.va + i
    | none => p.va
  | _ => p.va

/-- Bytes of a burst of COPY that lie in the overlap of its two ranges are left undefined where DST is above SRC (R197): they are free
values. -/
def Chan.overlapped (k : Chan) (draw va : Nat) (bs : List Byte) : List Byte :=
  let p := k.disp.pkt
  let n := p.arg 0 + p.arg 2 - va
  if p.op = 1 ∧ p.arg 0 < p.arg 1 ∧ p.arg 1 < p.arg 0 + p.arg 2 then freeBytes draw (min n bs.length) ++ bs.drop n else bs

/-- A burst's bytes have come: they are written onward, marked where they are poisoned (R214). -/
def Mach.deliver (m : Mach) (h : HalfId) (c : Nat) (dst : Piece) (bs : List Byte) (poison : Option Nat) (sync : Bool) : Mach :=
  let k := m.chan h c
  let m0 : Mach := match poison with
    | some a => Mach.updChan { m with blk := m.blk.upd h (fun x => x.raiseErr 4 (c / 8) 0x10 2 1 a (some k.part) c) } h c
        (fun e => if e.poison.isSome then e else { e with poison := some a })
    | none => m
  let (b, i) := m0.blk.draw
  Mach.writePart { m0 with blk := b } h c dst (k.overlapped i dst.va bs) poison.isSome sync

/-- The completed prefix reaches a piece's end once nothing of it is outstanding. -/
def Mach.pieceDone (m : Mach) (h : HalfId) (c : Nat) : Mach :=
  m.updChan h c (fun e => if e.reads.isEmpty ∧ e.pos = e.pieceEnd ∧ e.ends.isNone then { e with done := e.pos } else e)

/-- Units of a class an access at a place takes, and its meter point (R23, R196). -/
def leaseOf (pp : Nat) : Place → Option (Nat × Nat)
  | .host _ _ _ => some (0, pp % 2)
  | .fab _ => some (1, 0)
  | .dev _ => none

/-- Take the lease a place needs, or ask for one. -/
def Half.meter (x : Half) (pp part n : Nat) (p : Place) : Half × Bool :=
  match leaseOf pp p with
  | none => (x, true)
  | some (cls, pt) => if x.hasLease cls pt part then (x.takeLease cls pt part n, true) else (x.askLease cls pt part, false)

/-- One burst of a byte-moving packet (R175, R193): resolve source, then destination; at a piece's start its end is found. With
`sync` the read, the write and the lease are taken as done at once. -/
def Mach.burst (m : Mach) (h : HalfId) (c : Nat) (sync : Bool) : Mach × Burst1 :=
  let k := m.chan h c
  let total := k.total
  if k.ends.isSome then (m, .ended)
  else if k.st = 4 ∨ k.st = 5 then (m, .wait)
  else if k.pos = k.pieceEnd ∧ ¬ k.reads.isEmpty then (m, .wait)
  else match (if k.pos = k.pieceEnd then k.poison else none) with
  | some a => (m.chanEnd h c 0x22 0 k.pos a, .ended)
  | none =>
    if total ≤ k.pos then (m, if k.reads.isEmpty then .done else .wait)
    else
      let (m1, mv) := m.moveAt h c sync
      match mv with
      | .wait => (m1, .wait)
      | .ended => (m1, .ended)
      | .absent v => (m1.chanFault h c 2 v false, .wait)
      | .prot d v => (m1.chanProt h c d v, .ended)
      | .ok v =>
        let cut (a n : Nat) : Nat := min n (4096 - a % 4096)
        let n := cut v.dst (match v.src with
          | some s => cut s (min v.run (total - k.pos))
          | none => min v.run (total - k.pos))
        let (m2, rs) := match v.src with
          | some s => m1.parts h c 0 s n false sync 2
          | none => (m1, .ok [])
        match rs with
        | .wait => (m2, .wait)
        | .absent a => (m2.chanFault h c 0 a false, .wait)
        | .prot d a => (m2.chanProt h c d a, .ended)
        | .ok sl =>
          let (m3, rd) := m2.parts h c 1 v.dst n true sync 2
          match rd with
          | .wait => (m3, .wait)
          | .absent a => (m3.chanFault h c 1 a true, .wait)
          | .prot d a => (m3.chanProt h c d a, .ended)
          | .ok dl =>
            match dl with
            | [] => (m3, .done)
            | d :: _ =>
              let pp := m3.blk.dataPort k.q
              let lim := min (min v.run (total - k.pos)) (min (d.pageEnd - v.dst) (match sl with
                | s :: _ => s.pageEnd - s.va
                | [] => total))
              let (x1, okS) := match sl with
                | s :: _ => if sync then (m3.blk.half h, true) else (m3.blk.half h).meter pp k.part n s.place
                | [] => (m3.blk.half h, true)
              let (x2, okD) := if sync ∨ ¬ okS then (x1, okS) else x1.meter pp k.part n d.place
              let m4 : Mach := { m3 with blk := m3.blk.upd h (fun _ => x2) }
              if ¬ okS ∨ ¬ okD then (m4.updChan h c (fun e => { e with st := 3 }), .wait)
              else
                let m5 := m4.updChan h c (fun e => if e.pos = e.pieceEnd then { e with pieceEnd := e.pos + lim } else e)
                match sl with
                | [] =>
                  let m6 := m5.deliver h c d (k.literal k.pos n) none sync
                  ((m6.updChan h c (fun e => { e with pos := e.pos + n })).pieceDone h c, .more)
                | s :: _ =>
                  match sync || (match s.place with
                      | .fab _ => true
                      | _ => false) with
                  | true =>
                    match m5.readPart h c s with
                    | (m6, .ok bs po) =>
                      let m7 := m6.deliver h c d bs (if po then some (firstPoison m6.mem s) else none) sync
                      ((m7.updChan h c (fun e => { e with pos := e.pos + n })).pieceDone h c, .more)
                    | (m6, .ended) => (m6, .ended)
                    | (m6, _) => (m6, .wait)
                  | false =>
                    let b1 : Burst := { src := s.place, srcVa := s.va, dst := some d.place, dstVa := d.va, n := n, pos := k.pos }
                    (m5.updChan h c (fun e => { e with reads := e.reads ++ [b1], pos := e.pos + n }), .more)

/-! ### Completion (R202 to R209) -/

/-- Issue flush reads for a set of ports: each covers the marks set before it (R203, R205). -/
def Half.flushFor (x : Half) (ports : Tab Nat) (w : FlushFor) : Half :=
  ports.foldl (fun y p =>
    let z : Half := { y with dma := { y.dma with
      flushes := y.dma.flushes ++ [{ port := p.1, addr := p.2, marks := y.dma.marks.filter (fun k => k / 2 ^ 20 == p.1), what := w }]
      last := Tab.modify y.dma.last p.1 (fun l => (l.1, l.2.1, true)) } }
    z.bump 0x0200030 31 0 1) x

/-- A channel's flush reads still out. -/
def Half.flushing (x : Half) (w : FlushFor) : Bool := x.dma.flushes.any (fun f => f.what == w)

/-- Send the half-way message of a queue (R209, R100). -/
def Mach.halfCause (m : Mach) (h : HalfId) (c : Nat) : Mach :=
  let k := m.chan h c
  let r := m.blk.getQ k.q
  let m1 := m.updChan h c (fun e => { e with halfSent := true })
  { m1 with blk := m1.blk.cause m.clk (m.blk.ringPort k.q) r.part r.vec }

/-- The half-way point (R209): reached once the completed prefix covers half of the total; with BARRIER the writes so far are
flushed first. -/
def Mach.halfWay (m : Mach) (h : HalfId) (c total : Nat) : Mach :=
  let k := m.chan h c
  if ¬ bitAt k.disp.ref.flags 1 ∨ k.halfSent ∨ k.done < (total + 1) / 2 ∨ k.done = 0 then m
  else if ¬ bitAt k.disp.ref.flags 0 then m.halfCause h c
  else if (m.blk.half h).flushing (.half c) then m
  else if k.flush.isEmpty ∧ k.acks = 0 then m.halfCause h c
  else if k.flush.isEmpty then m
  else { m with blk := m.blk.upd h (fun x => x.flushFor k.flush (.half c)) }

/-- A channel gives up its engine and becomes IDLE (Table 08-2). -/
def Half.freeChan (x : Half) (c : Nat) : Half :=
  { x with dma := { x.dma with chans := Tab.del x.dma.chans c
                               active := if Tab.look x.dma.active (c / 8) = some c then Tab.del x.dma.active (c / 8) else x.dma.active
                               flushes := x.dma.flushes.map (fun f =>
                                 if f.what = .chan c ∨ f.what = .half c then { f with what := .idle } else f) }
           xlt := { x.xlt with pri := x.xlt.pri.map (fun r => if r.chan = c then { r with retired := true } else r) }
           ware := { x.ware with fills := x.ware.fills.map (fun f => { f with chans := f.chans.filter (· != c) }) } }

/-- A packet leaves its channel with a status: reply, holders released, writes not yet acknowledged kept for the operations that
wait for them (R203). -/
def Mach.chanFinish (m : Mach) (h : HalfId) (c st d res fa : Nat) (sync : Bool) (trailer : Bool := true) : Mach :=
  let k := m.chan h c
  let b1 := m.blk.upd h (fun x =>
    let y := x.freeChan c
    let z : Half := if k.acks = 0 ∧ k.flush.isEmpty ∨ bitAt k.disp.ref.flags 0 ∧ st = 0 then y
      else { y with dma := { y.dma with owed := y.dma.owed ++ [{ q := k.q, slot := k.slot, acks := k.acks, flush := k.flush }] } }
    { z with xfm := { z.xfm with slots := z.xfm.slots.filter (fun s => !(s.2.q == k.q && s.2.slot == k.slot)) } })
  let b2 := b1.release h k.q k.slot
  { m with blk := b2.finish h k.disp.ref st d res fa (if trailer then k.disp.pkt.hdr.trailer else none) sync }

/-- A QUERY that was cut by MAX completes with PARTIAL (R126); the cut is noted in the channel's work. -/
def Chan.okStatus (k : Chan) : Nat := if k.disp.pkt.op = 0x50 ∧ k.work.stop ≠ 0 then 1 else 0

/-- A channel has issued everything (R202, R203): with BARRIER it waits for every acknowledgement and for a flush read on each
port that carried its writes; then it completes OK. -/
def Mach.chanDone (m : Mach) (h : HalfId) (c total : Nat) (sync : Bool) : Mach :=
  let k := m.chan h c
  if bitAt k.disp.ref.flags 0 then
    if ¬ k.flushed ∧ ¬ k.flush.isEmpty then
      (Mach.updChan { m with blk := m.blk.upd h (fun x => x.flushFor k.flush (.chan c)) } h c
        (fun e => { e with flushed := true, st := 6 }))
    else if k.acks ≠ 0 ∨ (m.blk.half h).flushing (.chan c) ∨ (m.blk.half h).flushing (.half c) then m.updChan h c (fun e => { e with st := 6 })
    else
      let m1 := m.halfWay h c total
      m1.chanFinish h c k.okStatus 0 total 0 sync
  else m.chanFinish h c k.okStatus 0 total 0 sync

/-- A channel whose packet has ended, once its bursts are back. -/
def Mach.chanEnded (m : Mach) (h : HalfId) (c : Nat) (sync : Bool) : Mach :=
  let k := m.chan h c
  match k.ends with
  | none => m
  | some (st, d, res, fa) => if k.reads.isEmpty ∨ st = 0x21 then m.chanFinish h c st d res fa sync else m.updChan h c (fun e => { e with st := 7 })

end Sys2Proof.Machine
end

