-- ==== Sys2Proof/Machine/Xfm.lean ====
section
/-! DEFINITION. Transform engines (chapter 9): slots, programs and tables, and the groups of TRANSFORM and REDUCE. -/
namespace Sys2Proof.Machine

/-! ### Slots and residency (R219, R220, R241, R244) -/

/-- Slots of an engine in use. -/
def Half.slotsUsed (x : Half) (e : Nat) : Nat := ((List.range 4).filter (fun s => (Tab.look x.xfm.slots (e * 4 + s)).isSome)).length

/-- An engine is in service and has a free slot. -/
def Half.engineFree (x : Half) (e : Nat) : Bool := bitAt x.xfm.map e && decide (x.slotsUsed e < 4)

/-- The engine for a packet (R220): its program resident, its table's quad, else most free slots, lowest number first. -/
def Half.pickEngine (x : Half) (ctx aux gen : Nat) (relay table : Bool) : Option Nat :=
  let free := (List.range 16).filter x.engineFree
  let has (l : List Resident) (u : Nat) : Bool := l.any (fun r => r.unit == u && r.ctx == ctx && r.va == aux && r.gen == gen)
  let best := free.foldl (fun (b : Option Nat) e => match b with
    | none => some e
    | some k => if x.slotsUsed e < x.slotsUsed k then some e else b) none
  match (if relay then free.find? (fun e => has x.xfm.progs e) else none) with
  | some e => some e
  | none => match (if table then free.find? (fun e => has x.xfm.tables (e / 4)) else none) with
    | some e => some e
    | none => best

/-- Give a packet a slot of an engine. -/
def Half.takeSlot (x : Half) (e : Nat) (s : XSlot) : Half × Nat :=
  match Tab.free x.xfm.slots (e * 4) 4 with
  | some n => ({ x with xfm := { x.xfm with slots := Tab.put x.xfm.slots n s } }, n)
  | none => (x, e * 4)

/-- A resident item of a unit. -/
def resFind (l : List Resident) (unit ctx va gen : Nat) : Option Resident :=
  l.find? (fun r => r.unit == unit && r.ctx == ctx && r.va == va && r.gen == gen)

/-- Make an item resident, most recent first; the unit's least recent item beyond `cap` leaves, apart from those in use. -/
def resPut (l : List Resident) (cap : Nat) (used : Resident → Bool) (r : Resident) : List Resident :=
  let old := l.filter (fun k => !(k.unit == r.unit && k.ctx == r.ctx && k.va == r.va && k.gen == r.gen))
  let mine := old.filter (fun k => k.unit == r.unit)
  if mine.length < cap then r :: old
  else match (mine.filter (fun k => !used k)).getLast? with
    | some v => r :: old.erase v
    | none => r :: old

/-- Programs and tables that the packets in slots use (R241, R244). -/
def Half.progUsed (x : Half) (r : Resident) : Bool :=
  x.xfm.slots.any (fun s => s.1 / 4 == r.unit &&
    (let p := (x.chan s.2.chan).disp.pkt; p.hdr.ctx == r.ctx && (p.arg 10 == r.va && p.arg 9 == r.gen)))
def Half.tableUsed (x : Half) (r : Resident) : Bool :=
  x.xfm.slots.any (fun s => s.1 / 16 == r.unit &&
    (let k := x.chan s.2.chan
     let p := k.disp.pkt
     p.hdr.ctx == r.ctx && p.arg 9 == r.gen && (p.arg 10 == r.va || (match k.work.prog with
       | some g => g.tabs.contains r.va
       | none => false))))

/-- What a load of a program or table comes to. -/
inductive Load (α : Type) where
  | ok (v : α)
  | wait
  | ended

/-- An operand of the table operand that is not served (R239): its absence is a TRANSLATION_FAULT with OPERAND 10. -/
def Mach.readTable (m : Mach) (h : HalfId) (c va n : Nat) (sync : Bool) : Mach × Load (List Byte) :=
  match m.readOp h c 2 va n sync with
  | (m1, .ok bs po) => if po then (m1.chanEnd h c 0x22 0 0 va, .ended) else (m1, .ok bs)
  | (m1, .wait) => (m1, .wait)
  | (m1, .ended) => (m1, .ended)
  | (m1, .absent v) => (m1.chanEnd h c 0x20 0x80 0 v, .ended)
  | (m1, .prot d v) => (m1.chanEnd h c 0x21 d 0 v, .ended)

/-- TABLE_LOAD_COMPLETE (R241): a table from the quad's store, or loaded into it. -/
def Mach.loadTable (m : Mach) (h : HalfId) (c quad va gen : Nat) (sync : Bool) : Mach × Load PwlTable :=
  let k := m.chan h c
  let bad (n : Mach) : Mach × Load PwlTable := (n.chanEnd h c 0x11 28 0 0, .ended)
  match resFind (m.blk.half h).xfm.tables quad k.ctx va gen with
  | some r => match parseTable r.data with
    | some t => (m, .ok t)
    | none => bad m
  | none => match m.readTable h c va 2064 sync with
    | (m1, .wait) => (m1, .wait)
    | (m1, .ended) => (m1, .ended)
    | (m1, .ok bs) => match parseTable bs with
      | none => bad m1
      | some t =>
        let r : Resident := { unit := quad, ctx := k.ctx, va := va, gen := gen, data := bs }
        ({ m1 with blk := m1.blk.upd h (fun x =>
            ({ x with xfm := { x.xfm with tables := resPut x.xfm.tables 64 x.tableUsed r } } : Half).bump 0x0300030 63 32 1) }, .ok t)

/-- Load several tables in order. -/
def Mach.loadTables (m : Mach) (h : HalfId) (c quad gen : Nat) (sync : Bool) : List Nat → Mach × Load (List PwlTable)
  | [] => (m, .ok [])
  | v :: vs => match m.loadTable h c quad v gen sync with
    | (m1, .wait) => (m1, .wait)
    | (m1, .ended) => (m1, .ended)
    | (m1, .ok t) => match m1.loadTables h c quad gen sync vs with
      | (m2, .ok ts) => (m2, .ok (t :: ts))
      | r => r

/-- PROGRAM_LOAD_COMPLETE (R244): a relay program from the engine's store, or loaded into it and checked. -/
def Mach.loadProg (m : Mach) (h : HalfId) (c eng va gen : Nat) (sync : Bool) : Mach × Load Relay :=
  let k := m.chan h c
  let bad (n : Mach) : Mach × Load Relay := (n.chanEnd h c 0x11 28 0 0, .ended)
  match resFind (m.blk.half h).xfm.progs eng k.ctx va gen with
  | some r => match parseRelay r.data with
    | some g => (m, .ok g)
    | none => bad m
  | none => match m.readTable h c va 128 sync with
    | (m1, .wait) => (m1, .wait)
    | (m1, .ended) => (m1, .ended)
    | (m1, .ok hd) =>
      let nops := byteFld hd 0 0
      if nops < 1 ∨ 64 < nops then bad m1
      else match m1.readTable h c (va + 128) (8 * nops) sync with
        | (m2, .wait) => (m2, .wait)
        | (m2, .ended) => (m2, .ended)
        | (m2, .ok tl) => match parseRelay (hd ++ tl) with
          | none => bad m2
          | some g =>
            let r : Resident := { unit := eng, ctx := k.ctx, va := va, gen := gen, data := hd ++ tl }
            ({ m2 with blk := m2.blk.upd h (fun x =>
                ({ x with xfm := { x.xfm with progs := resPut x.xfm.progs 32 x.progUsed r } } : Half).bump 0x0300030 31 0 1) }, .ok g)

/-- Load what a packet's AUX names (OP of Table 09-5 or 10-2): nothing for CONVERT and AFFINE, a table for PWL, a program and
its tables for RELAY. A program must read v1 exactly when there is a second operand (R244, R265). -/
def Mach.loadAux (m : Mach) (h : HalfId) (c : Nat) (op aux gen : Nat) (second sync : Bool) : Mach × Load Unit :=
  let k := m.chan h c
  let eng := (k.work.eng.getD 0) / 4
  if op = 2 then
    match m.loadTable h c (eng / 4) aux gen sync with
    | (m1, .wait) => (m1, .wait)
    | (m1, .ended) => (m1, .ended)
    | (m1, .ok t) => (m1.updChan h c (fun e => { e with work := { e.work with tabs := [t] } }), .ok ())
  else if op = 3 then
    match m.loadProg h c eng aux gen sync with
    | (m1, .wait) => (m1, .wait)
    | (m1, .ended) => (m1, .ended)
    | (m1, .ok g) =>
      if g.in1 ≠ second then (m1.chanEnd h c 0x11 28 0 0, .ended)
      else match m1.loadTables h c (eng / 4) gen sync g.tabs with
        | (m2, .wait) => (m2, .wait)
        | (m2, .ended) => (m2, .ended)
        | (m2, .ok ts) => (m2.updChan h c (fun e => { e with work := { e.work with prog := some g, tabs := ts } }), .ok ())
  else (m, .ok ())

/-! ### Element jobs -/

/-- What TRANSFORM and REDUCE have in common: arrays, formats, count and how values are computed. -/
structure Elt where
  /-- there is a second source: always in REDUCE, with SRC2 in TRANSFORM -/
  two : Bool := false
  a : Nat := 0
  aFmt : Nat := 0
  aScale : Nat := 0
  b : Nat := 0
  bFmt : Nat := 0
  bScale : Nat := 0
  dst : Nat := 0
  dFmt : Nat := 0
  dScale : Nat := 0
  count : Nat := 0
  mode : Nat := 0
  stats : Nat := 0
  sblock : Nat := 0
  salt : Nat := 0
  deriving DecidableEq, Repr

/-- Rounding, SAT and STATS of MODE (Table 09-5). -/
def Elt.round (e : Elt) : Nat := e.mode % 4
def Elt.sat (e : Elt) : Bool := bitAt e.mode 2
def Elt.hasStats (e : Elt) : Bool := bitAt e.mode 3

/-- The element job of a TRANSFORM (0x18) or REDUCE (0x19) packet. -/
def Pkt.elt (p : Pkt) : Elt :=
  if p.op = 0x18 then
    { two := p.arg 16 != 0, a := p.arg 0, aFmt := p.arg 3, aScale := p.arg 11, b := p.arg 16, bFmt := p.arg 3, bScale := p.arg 17, dst := p.arg 1,
      dFmt := p.arg 4, dScale := p.arg 12, count := p.arg 2, mode := p.arg 6, stats := p.arg 13, sblock := p.arg 14, salt := p.arg 15 }
  else
    { two := true, a := p.arg 0, aFmt := p.arg 4, aScale := p.arg 10, b := p.arg 1, bFmt := p.arg 5, bScale := p.arg 11, dst := p.arg 2,
      dFmt := p.arg 6, dScale := p.arg 12, count := p.arg 3, mode := p.arg 8, stats := p.arg 13, sblock := p.arg 14, salt := p.arg 15 }

/-- Elements of a unit (R238). -/
def Elt.unit (e : Elt) : Nat := max (blockOf e.aFmt) (max (if ¬ e.two then 1 else blockOf e.bFmt) (blockOf e.dFmt))

/-- An array of an element job: operand code (0 read, 1 written), base, format, and whether it holds the scales. -/
structure Arr where
  opnd : Nat := 0
  base : Nat := 0
  fmt : Nat := 0
  scale : Bool := false
  deriving DecidableEq, Repr

/-- First byte of element i, bytes of the first i elements, and elements that the first n bytes hold. -/
def Arr.lo (r : Arr) (i : Nat) : Nat :=
  if r.scale then i / 32 else if r.fmt = 0x10 then i / 256 * 144 else i * elemBits r.fmt / 8
def Arr.hi (r : Arr) (i : Nat) : Nat := if r.scale then (i + 31) / 32 else arrayBytes r.fmt i
def Arr.fit (r : Arr) (n : Nat) : Nat :=
  if r.scale then n * 32 else if r.fmt = 0x10 then n / 144 * 256 else n * 8 / elemBits r.fmt

/-- Elements from i on that stay on one 4 KiB page of an array (R238). -/
def Arr.room (r : Arr) (i : Nat) : Nat :=
  let first := r.base + r.lo i
  r.fit (first / 4096 * 4096 + 4096 - r.base) - i

/-- Arrays an element job reads and writes, statistics apart. -/
def Elt.reads (e : Elt) : List Arr :=
  [{ opnd := 0, base := e.a, fmt := e.aFmt }] ++
  (if fmtMx e.aFmt then [{ opnd := 0, base := e.aScale, fmt := e.aFmt, scale := true }] else []) ++
  (if ¬ e.two then [] else [{ opnd := 0, base := e.b, fmt := e.bFmt }] ++
    (if fmtMx e.bFmt then [{ opnd := 0, base := e.bScale, fmt := e.bFmt, scale := true }] else []))
def Elt.writes (e : Elt) : List Arr :=
  [{ opnd := 1, base := e.dst, fmt := e.dFmt }] ++
  (if fmtMx e.dFmt then [{ opnd := 1, base := e.dScale, fmt := e.dFmt, scale := true }] else [])

/-- Statistics records of an element job: those complete once i elements are done. -/
def Elt.recs (e : Elt) (i : Nat) : Nat :=
  if ¬ e.hasStats then 0 else if i = e.count then (i + 2 ^ e.sblock - 1) / 2 ^ e.sblock else i / 2 ^ e.sblock

/-- Bytes a job writes once i elements are done (R238). -/
def Elt.outBytes (e : Elt) (i : Nat) : Nat := (e.writes.map (fun r => r.hi i)).foldl (· + ·) 0 + 16 * e.recs i

/-- Elements of the group that starts at element i (R238). -/
def Elt.group (e : Elt) (i : Nat) : Nat :=
  let u := e.unit
  let rooms := (e.reads ++ e.writes).map (fun r => r.room i)
  let st := if ¬ e.hasStats then e.count - i
    else
      let s := 2 ^ e.sblock
      let first := e.stats + 16 * (i / s)
      let k := (first / 4096 * 4096 + 4096 - first) / 16
      (i / s + k + 1) * s - 1 - i
  let n := rooms.foldl min (min (e.count - i) st) / u * u
  if n = 0 then min u (e.count - i) else n

/-- The value of one element (R235, R245). -/
def Chan.value (k : Chan) (x x2 : Nat) : Nat :=
  let p := k.disp.pkt
  if p.op = 0x19 then
    fMul (if p.arg 7 % 2 = 0 then fAdd x x2 else fMax x x2) (p.arg 9)
  else match p.arg 5 with
    | 1 => fFma x (p.arg 7) (p.arg 8)
    | 2 => pwl (k.work.tabs.getD 0 {}) x
    | 3 => match k.work.prog with
      | some g => g.run k.work.tabs x x2
      | none => x
    | _ => x

/-- Values into statistics records: the record in progress, and the records completed with their numbers. -/
def statRun (s count i : Nat) (st : Stats) (ys : List Nat) : Stats × List (Nat × List Byte) :=
  let r := ys.foldl (fun (a : Stats × List (Nat × List Byte) × Nat) y =>
    let t := a.1.add y
    let j := a.2.2 + 1
    if j % 2 ^ s = 0 ∨ j = count then ({}, a.2.1 ++ [((j - 1) / 2 ^ s, t.bytes)], j) else (t, a.2.1, j)) (st, [], i)
  (r.1, r.2.1)

/-- Resolve several operands before any is touched: sources first. -/
def Mach.partsAll (m : Mach) (h : HalfId) (c : Nat) (sync : Bool) : List (Nat × Nat × Nat) → Mach × Option (List (List Piece)) × Option Burst1
  | [] => (m, some [], none)
  | (o, va, n) :: l =>
    match m.parts h c o va n (o == 1) sync (n + 1) with
    | (m1, .wait) => (m1, none, some .wait)
    | (m1, .absent v) => (m1.chanFault h c o v (o == 1), none, some .wait)
    | (m1, .prot d v) => (m1.chanProt h c d v, none, some .ended)
    | (m1, .ok ps) => match m1.partsAll h c sync l with
      | (m2, some r, e) => (m2, some (ps :: r), e)
      | r => r

/-- Read several operands. -/
def Mach.readAll (m : Mach) (h : HalfId) (c : Nat) : List (List Piece) → Mach × Option (List (List Byte × Bool)) × Option Burst1
  | [] => (m, some [], none)
  | ps :: l => match m.readParts h c ps with
    | (m1, .ok bs po) => match m1.readAll h c l with
      | (m2, some r, e) => (m2, some ((bs, po) :: r), e)
      | r => r
    | (m1, .ended) => (m1, none, some .ended)
    | (m1, _) => (m1, none, some .wait)

/-- Seed of a packet's context for stochastic draws (R231). -/
def Half.encMode (x : Half) (ctx mode salt : Nat) : EncMode :=
  { mode := mode % 4, sat := bitAt mode 2, seed := ((x.ctx? ctx).map (·.seed)).getD 0, salt := salt }

/-- Operand list of a group: reads, writes and the statistics records it completes. -/
def Elt.operands (e : Elt) (i n : Nat) : List (Nat × Nat × Nat) :=
  (e.reads ++ e.writes).map (fun r => (r.opnd, r.base + r.lo i, r.hi (i + n) - r.lo i)) ++
  (if e.recs i < e.recs (i + n) then [(1, e.stats + 16 * e.recs i, 16 * (e.recs (i + n) - e.recs i))] else [])

/-- The last byte of a 4-bit array of odd length keeps its upper half. -/
def mergeOdd (f n : Nat) (old new : List Byte) : List Byte :=
  if elemBits f = 4 ∧ n % 2 = 1 then
    let k := new.length - 1
    new.take k ++ [BitVec.ofNat 8 ((new.getD k 0).toNat % 16 + (old.getD k 0).toNat / 16 * 16)]
  else new

/-- Address of the first poisoned byte among the parts of a group, else `d`. -/
def poisonAt (ms : MemSys) (ps : List Piece) (d : Nat) : Nat :=
  match ps.find? (fun p => match p.place with
      | .dev a => ms.poisoned a p.n
      | _ => false) with
  | some p => firstPoison ms p
  | none => d

/-- One group of a TRANSFORM or REDUCE (R238): resolve every array, read, compute, write. -/
def Mach.eltGroup (m : Mach) (h : HalfId) (c : Nat) (sync : Bool) : Mach × Burst1 :=
  let k := m.chan h c
  let e := k.disp.pkt.elt
  let i := k.pos
  if k.ends.isSome then (m, .ended)
  else if k.st = 4 ∨ k.st = 5 then (m, .wait)
  else match k.poison with
  | some a => (m.chanEnd h c 0x22 0 k.done a, .ended)
  | none =>
    if e.count ≤ i then (m, .done)
    else
      let n := e.group i
      match m.partsAll h c sync (e.operands i n) with
      | (m1, none, r) => (m1, r.getD .wait)
      | (m1, some ps, _) =>
        let nr := e.reads.length
        match m1.readAll h c (ps.take nr) with
        | (m2, none, r) => (m2, r.getD .wait)
        | (m2, some got, _) =>
          let bsOf (j : Nat) : List Byte := (got.getD j ([], false)).1
          let mxA := fmtMx e.aFmt
          let xs := decodeRun e.aFmt n (bsOf 0) (if mxA then bsOf 1 else [])
          let jb := if mxA then 2 else 1
          let x2 := if ¬ e.two then [] else decodeRun e.bFmt n (bsOf jb) (bsOf (jb + 1))
          let ys := (List.range n).map (fun j => k.value (xs.getD j 0) (x2.getD j 0))
          let em := (m2.blk.half h).encMode k.ctx e.mode e.salt
          let (eb, sb, sat) := encodeRun e.dFmt em i ys
          let (st, recs) := if e.hasStats then statRun e.sblock e.count i k.work.stats ys else (k.work.stats, [])
          let bad := got.any (·.2)
          let dparts := ps.drop nr
          let old := match m2.readParts h c (dparts.getD 0 []) with
            | (_, .ok bs _) => bs
            | _ => []
          let m3 := m2.writeParts h c (mergeOdd e.dFmt n old eb) bad sync (dparts.getD 0 [])
          let m4 := if fmtMx e.dFmt then m3.writeParts h c sb bad sync (dparts.getD 1 []) else m3
          let m5 := if recs.isEmpty then m4 else m4.writeParts h c (recs.flatMap (·.2)) bad sync (dparts.getLastD [])
          let m6 : Mach := { m5 with blk := m5.blk.upd h (fun x =>
            let y := x.bump 0x0300038 31 0 sat
            if bad then y.raiseErr 4 (c / 8) 0x10 2 1 e.a (some k.part) c else y) }
          let m7 := m6.updChan h c (fun q => { q with
            pos := i + n, pieceEnd := i + n, done := if q.ends.isSome then q.done else e.outBytes (i + n),
            work := { q.work with stats := st },
            poison := if bad then some (poisonAt m1.mem (ps.take nr).flatten e.a) else q.poison })
          (m7, .more)

end Sys2Proof.Machine
end

