-- ==== Sys2Proof/Machine/Route.lean ====
section
/-! DEFINITION. ROUTE: DISPATCH, RETURN and COMBINE (R246 to R254). -/
namespace Sys2Proof.Machine

/-- Bytes of a row (R247). -/
def rowBytes (f elems : Nat) : Nat :=
  if f = 0x10 then elems / 256 * 144
  else if fmtMx f then alignUp (arrayBytes f elems + elems / 32) 16
  else alignUp ((elems * elemBits f + 7) / 8) 16

/-- Fields of a ROUTE packet (Table 09-11). -/
def Pkt.rMode (p : Pkt) : Nat := p.arg 0
def Pkt.rK (p : Pkt) : Nat := p.arg 1
def Pkt.rTok (p : Pkt) : Nat := p.arg 7
def Pkt.rElems (p : Pkt) : Nat := p.arg 8
def Pkt.rExp (p : Pkt) : Nat := p.arg 10
/-- Offset of the rows of a DISPATCH region (R249). -/
def dispatchOff (cap : Nat) : Nat := alignUp (64 + 8 * cap) 64

/-- A row's FP32 values from its bytes, and its bytes from values. -/
def rowDecode (f elems : Nat) (bs : List Byte) : List Nat :=
  decodeRun f elems (bs.take (arrayBytes f elems)) ((bs.drop (arrayBytes f elems)).take (elems / 32))
def rowEncode (f elems : Nat) (k : EncMode) (base : Nat) (ys : List Nat) : List Byte × Nat :=
  let (eb, sb, sat) := encodeRun f k base ys
  let n := rowBytes f elems
  ((eb ++ sb ++ List.replicate n 0).take n, sat)

/-- Hold a range whole (R147, R248): every span is translated; answers the holder entries it needed, or why it cannot. -/
def Mach.holdWhole (m : Mach) (h : HalfId) (c opnd va stop : Nat) (write : Bool) : Nat → Nat → Mach × Parts × Nat
  | 0, n => (m, .ok [], n)
  | f + 1, n =>
    if stop ≤ va then (m, .ok [], n)
    else
      let k := m.chan h c
      let (m1, r) := m.resolve h k.q k.slot opnd c k.ctx k.part va write (m.blk.dataPort k.q) true
      match r with
      | .wait => (m1, .wait, n)
      | .absent => (m1, .absent va, n)
      | .prot d => (m1, .prot d va, n)
      | .ok p e =>
        let next := match (m1.blk.half h).holderAt k.q k.slot opnd k.ctx va with
          | some (_, d) => d.span.va + d.span.bytes
          | none => e
        match Mach.holdWhole m1 h c opnd (max next (va + 1)) stop write f (n + 1) with
        | (m2, .ok l, n2) => (m2, .ok ({ place := p, va := va, n := next - va, pageEnd := e } :: l), n2)
        | r2 => r2

/-- Bytes of an entry's region. -/
def regionBytes (p : Pkt) (cap : Nat) : Nat :=
  if p.rMode = 0 then dispatchOff cap + cap * rowBytes (p.arg 3) p.rElems else cap * rowBytes (p.arg 3) p.rElems

/-- A place is host memory. -/
def Place.isHost : Place → Bool
  | .host _ _ _ => true
  | _ => false

/-- Hold the regions and fences of a map's entries (R248). `n` counts the holder entries. -/
def Mach.holdRegions (m : Mach) (h : HalfId) (c : Nat) (p : Pkt) : List (Nat × Nat × Nat) → Nat → Mach × Option Burst1
  | [], _ => (m, none)
  | (base, cap, fence) :: l, n =>
    let go (m : Mach) (opnd lo hi n : Nat) : Mach × Option Burst1 × Nat :=
      match m.holdWhole h c opnd lo hi true (1026 - n) n with
      | (m1, .wait, _) => (m1, some .wait, n)
      | (m1, .absent v, _) => (m1.chanEnd h c 0x20 (opnd * 64) 0 v, some .ended, n)
      | (m1, .prot d v, _) => (m1.chanEnd h c 0x21 d 0 v, some .ended, n)
      | (m1, .ok ps, n1) =>
        if 1024 < n1 then (m1.chanEnd h c 0x40 0 0 0, some .ended, n1)
        else if ps.any (fun q => q.place.isHost) then (m1.chanEnd h c 0x11 24 0 0, some .ended, n1)
        else (m1, none, n1)
    match go m 1 base (base + regionBytes p cap) n with
    | (m1, some r, _) => (m1, some r)
    | (m1, none, n1) =>
      match (if fence = 0 then (m1, none, n1) else go m1 3 fence (fence + 8) n1) with
      | (m2, some r, _) => (m2, some r)
      | (m2, none, n2) => Mach.holdRegions m2 h c p l n2

/-- Map entries from the map's bytes (Table 09-12); none where one breaks its layout. -/
def parseMap (n : Nat) (bs : List Byte) : Option (List (Nat × Nat × Nat)) :=
  let es := (List.range n).map (fun i =>
    let b := bs.drop (32 * i)
    (byteFld b 7 0, byteFld b 11 8, byteFld b 23 16, byteFld b 15 12 + byteFld b 31 24))
  if es.any (fun e => e.1 % 64 != 0 || e.2.1 == 0 || decide (2 ^ 24 < e.2.1) || e.2.2.1 % 8 != 0 || e.2.2.2 != 0) then none
  else some (es.map (fun e => (e.1, e.2.1, e.2.2.1)))

/-- Before the first row: read the map and hold its regions and fences (R248). -/
def Mach.routeBegin (m : Mach) (h : HalfId) (c : Nat) (sync : Bool) : Mach × Option Burst1 :=
  let p := (m.chan h c).disp.pkt
  if p.rMode = 2 then (m, none)
  else match m.readTable h c (p.arg 9) (32 * p.rExp) sync with
    | (m1, .wait) => (m1, some .wait)
    | (m1, .ended) => (m1, some .ended)
    | (m1, .ok bs) => match parseMap p.rExp bs with
      | none => (m1.chanEnd h c 0x11 24 0 0, some .ended)
      | some es =>
        let m2 := m1.updChan h c (fun k => { k with work := { k.work with map := es, counts := List.replicate p.rExp 0 } })
        m2.holdRegions h c p es 0

/-- Resolve and write a run of bytes of a ROUTE that is not served (R254). -/
def Mach.putPlain (m : Mach) (h : HalfId) (c opnd va : Nat) (bs : List Byte) (sync : Bool) : Mach × Option Burst1 :=
  match m.parts h c opnd va bs.length true sync (bs.length + 1) with
  | (m1, .wait) => (m1, some .wait)
  | (m1, .absent v) => (m1.chanUnrec h c opnd 0 v, some .ended)
  | (m1, .prot d v) => (m1.chanProt h c d v, some .ended)
  | (m1, .ok ps) => (m1.writeParts h c bs false sync ps, none)

/-- Read a run of bytes, served (sources) or not. -/
def Mach.getRun (m : Mach) (h : HalfId) (c opnd va n : Nat) (served sync : Bool) : Mach × Load (List Byte × Bool) :=
  match m.readOp h c opnd va n sync with
  | (m1, .ok bs po) => (m1, .ok (bs, po))
  | (m1, .wait) => (m1, .wait)
  | (m1, .ended) => (m1, .ended)
  | (m1, .absent v) => if served then (m1.chanFault h c opnd v false, .wait) else (m1.chanUnrec h c opnd 0 v, .ended)
  | (m1, .prot d v) => (m1.chanProt h c d v, .ended)

/-- Count an invalid entry or record, and a capacity drop (R250, R251). -/
def Half.routeBad (x : Half) : Half := x.bump 0x0300040 31 0 1
def Half.routeDrop (x : Half) : Half := x.bump 0x0300040 63 32 1

/-- Copies of token t in DISPATCH, from copy k on (R250). -/
def Mach.dispatchCopies (m : Mach) (h : HalfId) (c t : Nat) (idx : List Nat) (row : List Byte) (sync : Bool) : Nat → Nat → Mach × Option Burst1
  | 0, _ => (m, none)
  | f + 1, kk =>
    let q := m.chan h c
    let p := q.disp.pkt
    let j := t * p.rK + kk
    let e := idx.getD kk 0xFFFF
    let note (m : Mach) (v : Nat) : Mach × Option Burst1 := m.putPlain h c 3 (p.arg 12 + 4 * j) (leBytes 4 v) sync
    let step (r : Mach × Option Burst1) : Mach × Option Burst1 := match r with
      | (m1, none) => m1.dispatchCopies h c t idx row sync f (kk + 1)
      | r1 => r1
    if p.rExp ≤ e then
      let m1 : Mach := if e = 0xFFFF then m else
        Mach.updChan { m with blk := m.blk.upd h Half.routeBad } h c
          (fun y => { y with work := { y.work with flags := Nat.lor y.work.flags 2 } })
      step (note m1 0xFFFFFFFF)
    else
      let (base, cap, _) := q.work.map.getD e (0, 0, 0)
      let s := q.work.counts.getD e 0
      if s = cap then
        step (note (Mach.updChan { m with blk := m.blk.upd h Half.routeDrop } h c
          (fun y => { y with work := { y.work with flags := Nat.lor y.work.flags 1 } })) 0xFFFFFFFF)
      else
        match m.putPlain h c 1 (base + dispatchOff cap + s * row.length) row sync with
        | (m1, some r) => (m1, some r)
        | (m1, none) =>
          match m1.putPlain h c 1 (base + 64 + 8 * s) (leBytes 4 j ++ leBytes 2 (p.arg 11) ++ [0, 0]) sync with
          | (m2, some r) => (m2, some r)
          | (m2, none) =>
            let m3 := m2.updChan h c (fun y => { y with done := y.done + row.length
                                                        work := { y.work with counts := y.work.counts.set e (s + 1) } })
            step (note m3 s)

/-- A step that must wait is taken again as a whole: only the translations and requests it started stay. -/
def Mach.waitAs (m : Mach) (h : HalfId) (after : Mach) : Mach :=
  let b := m.blk.upd h (fun x => { x with xlt := (after.blk.half h).xlt })
  { m with blk := { b with out := after.blk.out, free := after.blk.free } }

/-- Sum of COMBINE for one token (R252). -/
def Mach.combineSum (m : Mach) (h : HalfId) (c t : Nat) (sync : Bool) : Nat → Nat → List Nat → Mach × Load (List Nat)
  | 0, _, acc => (m, .ok acc)
  | f + 1, kk, acc =>
    let p := (m.chan h c).disp.pkt
    let j := t * p.rK + kk
    let rb := rowBytes (p.arg 2) p.rElems
    match m.getRun h c 3 (p.arg 12 + 4 * j) 4 false sync with
    | (m1, .wait) => (m1, .wait)
    | (m1, .ended) => (m1, .ended)
    | (m1, .ok (rc, _)) =>
      if leNat rc = 0xFFFFFFFF then m1.combineSum h c t sync f (kk + 1) acc
      else match m1.getRun h c 3 (p.arg 15 + 4 * j) 4 false sync with
        | (m2, .wait) => (m2, .wait)
        | (m2, .ended) => (m2, .ended)
        | (m2, .ok (gt, _)) => match m2.getRun h c 0 (p.arg 5 + j * rb) rb true sync with
          | (m3, .wait) => (m3, .wait)
          | (m3, .ended) => (m3, .ended)
          | (m3, .ok (bs, po)) =>
            if po then (m3.chanEnd h c 0x22 0 (m3.chan h c).done (p.arg 5 + j * rb), .ended)
            else
              let row := rowDecode (p.arg 2) p.rElems bs
              let g := leNat gt
              m3.combineSum h c t sync f (kk + 1) ((List.range p.rElems).map (fun i => fFma g (row.getD i 0) (acc.getD i 0)))

/-- One token of a ROUTE (R250 to R252). `pos` counts tokens, `done` the row bytes written. -/
def Mach.routeToken (m : Mach) (h : HalfId) (c : Nat) (sync : Bool) : Mach × Burst1 :=
  let q := m.chan h c
  let p := q.disp.pkt
  let t := q.pos
  let em := (m.blk.half h).encMode q.ctx (p.arg 4) (p.arg 16)
  let fin (m : Mach) (r : Option Burst1) : Mach × Burst1 := match r with
    | some b => (m, b)
    | none => (m.updChan h c (fun y => { y with pos := t + 1, pieceEnd := t + 1 }), .more)
  if q.ends.isSome then (m, .ended)
  else if q.st = 4 ∨ q.st = 5 then (m, .wait)
  else if p.rTok ≤ t then (m, .done)
  else if p.rMode = 2 then
    match m.combineSum h c t sync p.rK 0 (List.replicate p.rElems 0) with
    | (m1, .wait) => (m1, .wait)
    | (m1, .ended) => (m1, .ended)
    | (m1, .ok acc) =>
      let (row, sat) := rowEncode (p.arg 3) p.rElems em (t * p.rElems) acc
      let (m2, r) := m1.putPlain h c 1 (p.arg 14 + t * row.length) row sync
      match r with
      | some b => (m2, b)
      | none => fin (Mach.updChan { m2 with blk := m2.blk.upd h (fun x => x.bump 0x0300038 31 0 sat) } h c
          (fun y => { y with done := y.done + row.length })) none
  else
    let w := if p.rMode = 0 then 2 * p.rK else 8
    let inline := bitAt p.hdr.flags 4
    let ix := if inline then (m, Load.ok ((p.hdr.payload.drop (t * w)).take w, false)) else m.getRun h c 2 (p.arg 6 + t * w) w true sync
    match ix with
    | (m1, .wait) => (m1, .wait)
    | (m1, .ended) => (m1, .ended)
    | (m1, .ok (ib, _)) =>
      let rb := rowBytes (p.arg 2) p.rElems
      match m1.getRun h c 0 (p.arg 5 + t * rb) rb true sync with
      | (m2, .wait) => (m2, .wait)
      | (m2, .ended) => (m2, .ended)
      | (m2, .ok (bs, po)) =>
        if po then (m2.chanEnd h c 0x22 0 q.done (p.arg 5 + t * rb), .ended)
        else
          let (row, sat) := rowEncode (p.arg 3) p.rElems em (t * p.rElems) (rowDecode (p.arg 2) p.rElems bs)
          let m3 : Mach := { m2 with blk := m2.blk.upd h (fun x => x.bump 0x0300038 31 0 sat) }
          if p.rMode = 0 then
            let (m4, r) := m3.dispatchCopies h c t ((List.range p.rK).map (fun k => byteFld ib (2 * k + 1) (2 * k))) row sync p.rK 0
            if r = some .wait then (m3.waitAs h m4, .wait) else fin m4 r
          else
            let slot := byteFld ib 3 0
            let e := byteFld ib 5 4
            let (base, cap, _) := q.work.map.getD e (0, 0, 0)
            if p.rExp ≤ e ∨ cap ≤ slot then
              fin (Mach.updChan { m3 with blk := m3.blk.upd h Half.routeBad } h c
                (fun y => { y with work := { y.work with flags := Nat.lor y.work.flags 2 } })) none
            else
              let (m4, r) := m3.putPlain h c 1 (base + slot * row.length) row sync
              match r with
              | some b => (m4, b)
              | none => fin (m4.updChan h c (fun y => { y with done := y.done + row.length })) none

/-- The headers of DISPATCH's regions (R250, R254): COUNT of rows written and ORIGIN. -/
def Mach.routeHeaders (m : Mach) (h : HalfId) (c : Nat) (sync : Bool) : Mach :=
  let q := m.chan h c
  let p := q.disp.pkt
  if p.rMode ≠ 0 then m
  else (List.range q.work.map.length).foldl (fun k e =>
    let (base, _, _) := q.work.map.getD e (0, 0, 0)
    (k.putPlain h c 1 base (leBytes 4 (q.work.counts.getD e 0) ++ leBytes 2 (p.arg 11) ++ List.replicate 58 0) sync).1) m

/-- A fence signal of a ROUTE was refused (R253). -/
def Mach.routeRefused (m : Mach) (h : HalfId) (c : Nat) : Mach :=
  Mach.updChan { m with blk := m.blk.upd h (fun x => x.bump 0x0300048 31 0 1) } h c
    (fun y => { y with work := { y.work with flags := Nat.lor y.work.flags 4 } })

/-- Signal one entry's fence (ROUTE_FENCE_SIGNAL, R253): with the error flag where the packet ended early (R254). -/
def Mach.routeSignal (m : Mach) (h : HalfId) (c e : Nat) (sync : Bool) : Mach :=
  let q := m.chan h c
  let p := q.disp.pkt
  let (_, _, fence) := q.work.map.getD e (0, 0, 0)
  let m0 := m.updChan h c (fun y => { y with work := { y.work with fences := y.work.fences.erase e } })
  if fence = 0 then m0
  else
    let err := q.ends.isSome
    match m0.parts h c 3 fence 8 true sync 2 with
    | (m1, .ok (d :: _)) =>
      match d.place with
      | .dev off =>
        if ((m1.blk.half h).areaAt q.part off).isNone then m1.routeRefused h c
        else
          let (m2, st, _) := m1.fenceApply off (p.arg 13) err q.ctx false
          if st = 0 then m2 else m2.routeRefused h c
      | .fab a =>
        (m1.fabIssue h { op := 0x33, addr := a, len := 8, ctx := q.ctx, part := q.part, dst := fabDst a,
                         data := leBytes 8 (p.arg 13 + (if err then 2 ^ 63 else 0)), what := .route c e }).updChan h c
          (fun y => { y with acks := y.acks + 1 })
      | .host _ _ _ => m1.routeRefused h c
    | (m1, _) => m1.routeRefused h c

/-- After the last row: headers, then, once every write is acknowledged, the fences, then the reply (R253, R254). Answers whether
the packet may now complete. -/
def Mach.routeClose (m : Mach) (h : HalfId) (c : Nat) (sync : Bool) : Mach × Bool :=
  let q := m.chan h c
  if q.disp.pkt.rMode = 2 then (m, true)
  else if ¬ q.work.fencesDue then
    let m1 := m.routeHeaders h c sync
    let m2 := m1.updChan h c (fun y => { y with st := 6, ends := q.ends, work := { y.work with fencesDue := true, fences := List.range y.work.map.length } })
    if (m2.chan h c).acks = 0 then
      let m3 := (List.range q.work.map.length).foldl (fun k e => k.routeSignal h c e sync) m2
      (m3, (m3.chan h c).acks = 0)
    else (m2, false)
  else if q.acks = 0 ∧ q.work.fences.isEmpty then (m, true)
  else if q.acks = 0 ∧ sync then
    let m3 := q.work.fences.foldl (fun k e => k.routeSignal h c e sync) m
    (m3, (m3.chan h c).acks = 0)
  else (m, false)

end Sys2Proof.Machine
end

