-- ==== Sys2Proof/Machine/Draft.lean ====
section
/-! DEFINITION. Draft streams: opening, sending, committing, closing and resyncing (R261 to R275). -/
namespace Sys2Proof.Machine

/-- The stream of a context with a RECORD address. -/
def Half.stream (x : Half) (ctx record : Nat) : Option Stream := x.obj.streams.find? (fun s => s.ctx == ctx && s.record == record)

/-- The 64 bytes of a stream record (Table 10-3). -/
def streamBytes (s : Stream) : List Byte :=
  let fl := match s.flight with
    | some k => 1 + 2 * k.num
    | none => 0
  leBytes 8 s.ring ++ leBytes 4 s.nslot ++ [BitVec.ofNat 8 s.slotLog2, BitVec.ofNat 8 s.st, BitVec.ofNat 8 fl, 0] ++
  leBytes 8 s.arrival ++ leBytes 8 s.credit ++ leBytes 8 s.sent ++ leBytes 4 s.ctx ++ List.replicate 20 0

/-- Rewrite a stream, pair-wide, and its record in memory where that can be reached. -/
def Mach.updStream (m : Mach) (h : HalfId) (ctx record : Nat) (f : Stream → Stream) : Mach :=
  match (m.blk.half h).stream ctx record with
  | none => m
  | some s =>
    let s1 := f s
    let b := m.blk.updObj h (fun o => { o with streams := o.streams.map (fun k => if k.ctx = ctx ∧ k.record = record then s1 else k) })
    { m with mem := if (m.blk.half h).devOk s.off then m.mem.writeDev s.off (streamBytes s1) else m.mem, blk := b }

/-- Take a stream out of the table, its record CLOSED. -/
def Mach.dropStream (m : Mach) (h : HalfId) (ctx record : Nat) : Mach :=
  let m1 := m.updStream h ctx record (fun s => { s with st := 0, flight := none })
  { m1 with blk := m1.blk.updObj h (fun o => { o with streams := o.streams.filter (fun k => !(k.ctx == ctx && k.record == record)) }) }

/-- Signal a stream's arrival fence as a remote fence-signal atomic (R261). -/
def Mach.arrive (m : Mach) (h : HalfId) (s : Stream) (part value : Nat) (err : Bool) (w : FabFor) : Mach :=
  m.fabIssue h { op := 0x33, addr := s.arrivalAt, len := 8, ctx := s.ctx, part := part, dst := fabDst s.arrivalAt,
                 data := leBytes 8 (value % 2 ^ 63 + (if err then 2 ^ 63 else 0)), what := w }

/-- Translate a whole range for an access (R263): none when every leaf is fine and leads to `target`. -/
def Mach.walkRange (m : Mach) (h : HalfId) (ctx part va hi target : Nat) (write : Bool) : Nat → Mach × Option (Option Nat)
  | 0 => (m, none)
  | f + 1 =>
    if hi ≤ va then (m, none)
    else match m.translate h ctx part va write with
      | (m1, .absent) => (m1, some none)
      | (m1, .prot d) => (m1, some (some d))
      | (m1, .span s) => if s.target ≠ target then (m1, some none) else Mach.walkRange m1 h ctx part (s.va + s.bytes) hi target write f

/-- DRAFT_OPEN (R263): status and DETAIL where it ends here; otherwise the arrival signal is out. -/
def Mach.draftOpen (m : Mach) (h : HalfId) (ref : PktRef) (p : Pkt) : Mach × Option (Nat × Nat) :=
  let ctx := p.hdr.ctx
  let part := p.hdr.part
  let record := p.arg 0
  let nslot := p.arg 2
  let sl := p.arg 3
  let x := m.blk.half h
  if 2 ^ 40 < nslot * 2 ^ sl then (m, some (0x11, 12))
  else if (x.stream ctx record).isSome then (m, some (0x41, 0))
  else if 4096 ≤ x.obj.streams.length then (m, some (0x40, 0))
  else match m.walkRange h ctx part (p.arg 1) (p.arg 1 + nslot * 2 ^ sl) 2 true (nslot * 2 ^ sl / 4096 + 1) with
  | (m1, some none) => (m1, some (0x11, 12))
  | (m1, some (some d)) => (m1, some (0x21, d))
  | (m1, none) =>
    match m1.translate h ctx part record true, m1.translate h ctx part (p.arg 5) false, m1.translate h ctx part (p.arg 4) true with
    | (m2, .prot d), _, _ => (m2, some (0x21, d))
    | (m2, .absent), _, _ => (m2, some (0x21, 0x0D))
    | (m2, .span r), (_, .prot d), _ => (m2, some (0x21, if r.target = 0 then d else 0x0D))
    | (m2, .span _), (_, .absent), _ => (m2, some (0x21, 0x0D))
    | (m2, .span r), (_, .span cr), (_, arr) =>
      let off := r.phys record
      let credOff := cr.phys (p.arg 5)
      if r.target ≠ 0 ∨ ¬ r.rd then (m2, some (0x21, 0x0D))
      else if cr.target ≠ 0 ∨ (x.areaAt part credOff).isNone then (m2, some (0x21, 0x0D))
      else if (m2.blk.half h).devAccess off ctx part false = .unreachable then (m2, some (0x21, 0x0E))
      else if (m2.blk.half h).devAccess off ctx part false = .denied then
        let b := m2.blk.upd h (fun y => y.raiseErr 4 0 0x14 3 2 off (some part))
        ({ m2 with blk := { b with lossQ := b.lossQ ++ [{ ctx := ctx, cause := 1, master := 2 ^ 15 + part % 64 * 512, access := 2,
                                                           addr := off, half := h }] } }, some (0x21, 0x0C))
      else match arr with
        | .span a =>
          if a.target ≠ 2 then (m2, some (0x11, 20))
          else
            let s : Stream := { ctx := ctx, record := record, off := off, ring := p.arg 1, nslot := nslot, slotLog2 := sl,
                                arrival := p.arg 4, credit := p.arg 5, arrivalAt := a.phys (p.arg 4), creditAt := credOff,
                                sent := p.arg 6 }
            let m3 : Mach := { m2 with mem := m2.mem.writeDev off (streamBytes s)
                                       blk := m2.blk.updObj h (fun o => { o with streams := o.streams ++ [s] }) }
            (m3.arrive h s part (p.arg 6) false (.open_ ref record), none)
        | .prot d => (m2, some (0x21, d))
        | .absent => (m2, some (0x11, 20))

/-- The stream a channel sends on. -/
def Mach.sendStream (m : Mach) (h : HalfId) (c : Nat) : Option Stream :=
  let p := (m.chan h c).disp.pkt
  (m.blk.half h).stream p.hdr.ctx (p.arg 0)

/-- Length of a send's output (R266). -/
def sendLen (p : Pkt) : Nat :=
  if p.arg 5 = 4 then p.arg 2
  else if blockOf (p.arg 4) = 1 then arrayBytes (p.arg 4) (p.arg 2)
  else p.arg 2 / p.arg 12 * rowBytes (p.arg 4) (p.arg 12)

/-- Before a send's first byte: the ring positions it will write are held whole (R267, R147). -/
def Mach.sendBegin (m : Mach) (h : HalfId) (c : Nat) (s : Stream) : Mach × Option Burst1 :=
  let p := (m.chan h c).disp.pkt
  let sb := 2 ^ s.slotLog2
  let ns := (sendLen p + sb - 1) / sb
  let lo := s.sent % s.nslot
  let segs := if s.nslot ≤ ns then [(0, s.nslot)] else if lo + ns ≤ s.nslot then [(lo, lo + ns)] else [(lo, s.nslot), (0, lo + ns - s.nslot)]
  let r := segs.foldl (fun (a : Mach × Option Burst1 × Nat) seg => match a with
    | (k, some b, n) => (k, some b, n)
    | (k, none, n) =>
      match k.holdWhole h c 1 (s.ring + seg.1 * sb) (s.ring + seg.2 * sb) true (1026 - n) n with
      | (k1, .ok _, n1) => if 1024 < n1 then (k1.chanEnd h c 0x40 0 0 0, some .ended, n1) else (k1, none, n1)
      | (k1, .wait, n1) => (k1, some .wait, n1)
      | (k1, .absent v, n1) => (k1.chanEnd h c 0x20 0x40 0 v, some .ended, n1)
      | (k1, .prot d v, n1) => (k1.chanEnd h c 0x21 d 0 v, some .ended, n1)) (m, none, 0)
  (r.1.updChan h c (fun k => { k with work := { k.work with base := s.sent } }), r.2.1)

/-- The next output bytes of a send from its source (R265, R266): a run of source bytes, a group of elements, or a row. -/
def Mach.sendProduce (m : Mach) (h : HalfId) (c : Nat) (sync : Bool) : Mach × Burst1 :=
  let k := m.chan h c
  let p := k.disp.pkt
  let i := k.pos
  let count := p.arg 2
  let src := p.arg 1
  if p.arg 5 = 4 then
    let va := src + i
    let n := min (4096 - va % 4096) (count - i)
    match m.partsAll h c sync [(0, va, n)] with
    | (m1, none, r) => (m1, r.getD .wait)
    | (m1, some ps, _) => match m1.readAll h c ps with
      | (m2, none, r) => (m2, r.getD .wait)
      | (m2, some got, _) =>
        let bad := got.any (·.2)
        (m2.updChan h c (fun e => { e with pos := i + n, poison := if bad then some va else e.poison
                                           work := { e.work with arrived := e.work.arrived ++ got.map (fun g => (0, g.1)) } }), .more)
  else
    let sf := p.arg 3
    let df := p.arg 4
    let e : Elt := { a := src, aFmt := sf, aScale := p.arg 11, bFmt := 0, dst := 0, dFmt := 0, count := count, mode := p.arg 6,
                     stats := p.arg 14, sblock := p.arg 15 }
    let rows := blockOf df ≠ 1
    let u := max (blockOf sf) 1
    let lim := e.reads.foldl (fun a r => min a (r.room i)) (count - i)
    let n := if rows then p.arg 12 else if lim / u = 0 then min u (count - i) else if lim = count - i then lim else lim / u * u
    let recs0 := e.recs i
    let recs1 := e.recs (i + n)
    let ops := e.reads.map (fun r => (r.opnd, r.base + r.lo i, r.hi (i + n) - r.lo i)) ++
      (if recs0 < recs1 then [(1, e.stats + 16 * recs0, 16 * (recs1 - recs0))] else [])
    match m.partsAll h c sync ops with
    | (m1, none, r) => (m1, r.getD .wait)
    | (m1, some ps, _) => match m1.readAll h c (ps.take e.reads.length) with
      | (m2, none, r) => (m2, r.getD .wait)
      | (m2, some got, _) =>
        let bad := got.any (·.2)
        let xs := decodeRun sf n (got.getD 0 ([], false)).1 (got.getD 1 ([], false)).1
        let ys := xs.map (fun x => k.value x 0)
        let em := (m2.blk.half h).encMode k.ctx e.mode (p.arg 16)
        let (bs, sat) := if rows then rowEncode df n em i ys else
          (let r := encodeRun df em i ys
           (r.1, r.2.2))
        let (st, recs) := if e.hasStats then statRun e.sblock count i k.work.stats ys else (k.work.stats, [])
        let m3 := if recs.isEmpty then m2 else m2.writeParts h c (recs.flatMap (·.2)) bad sync (ps.getLastD [])
        let m4 : Mach := { m3 with blk := m3.blk.upd h (fun x => x.bump 0x0300038 31 0 sat) }
        (m4.updChan h c (fun q => { q with pos := i + n, poison := if bad then some (poisonAt m1.mem ps.flatten src) else q.poison
                                           work := { q.work with stats := st, arrived := q.work.arrived ++ [(0, bs)] } }), .more)

/-- Write pending output into the ring (R267): at a slot's start the credit is looked at. `pieceEnd` counts output bytes written. -/
def Mach.sendWrite (m : Mach) (h : HalfId) (c : Nat) (s : Stream) (bs : List Byte) (rest : List (Nat × List Byte)) (sync : Bool) : Mach × Burst1 :=
  let k := m.chan h c
  let p := k.disp.pkt
  let sb := 2 ^ s.slotLog2
  let out := k.pieceEnd
  let len := sendLen p
  let slot := k.work.base + out / sb
  let cr := m.mem.word false s.creditAt
  if out % sb = 0 ∧ cr % 2 ^ 63 + s.nslot ≤ slot ∧ ¬ bitAt cr 63 then
    (m.updChan h c (fun e => { e with st := 3, work := { e.work with credit := some (e.work.credit.getD (m.clk.now h)) } }), .wait)
  else if out % sb = 0 ∧ bitAt cr 63 then
    (Mach.updChan { m with blk := m.blk.upd h (fun x => x.bump 0x0300110 63 32 1) } h c
      (fun e => { e with work := { e.work with stop := 4, credit := none, arrived := [] } }), .more)
  else
    let n := min bs.length (sb - out % sb)
    let va := s.ring + slot % s.nslot * sb + out % sb
    match m.parts h c 1 va n true sync (n + 1) with
    | (m1, .wait) => (m1, .wait)
    | (m1, .absent v) => (m1.chanUnrec h c 1 0 v, .ended)
    | (m1, .prot d v) => (m1.chanProt h c d v, .ended)
    | (m1, .ok ps) =>
      let m2 := m1.writeParts h c (bs.take n) k.poison.isSome sync ps
      let left := bs.drop n
      (m2.updChan h c (fun e => { e with
        pieceEnd := out + n
        work := { e.work with
          credit := none
          arrived := if left.isEmpty then rest else (0, left) :: rest
          written := if (out + n) % sb = 0 ∨ out + n = len then e.work.written + 1 else e.work.written } }), .more)

/-- One step of a send: write what is pending, else produce more. -/
def Mach.sendStep (m : Mach) (h : HalfId) (c : Nat) (sync : Bool) : Mach × Burst1 :=
  let k := m.chan h c
  match m.sendStream h c with
  | none => (m.chanEnd h c 0x32 3 k.done 0, .ended)
  | some s =>
    if k.ends.isSome then (m, .ended)
    else if k.st = 4 ∨ k.st = 5 then (m, .wait)
    else if k.work.stop ≠ 0 then (m, .done)
    else match k.work.arrived with
      | (_, bs) :: rest => m.sendWrite h c s bs rest sync
      | [] => match k.poison with
        | some a => (m.chanEnd h c 0x22 0 k.pieceEnd a, .ended)
        | none => if k.disp.pkt.arg 2 ≤ k.pos then (m, .done) else m.sendProduce h c sync

/-- A fabric write or a commit of a channel's slot is outstanding. -/
def Half.slotBusy (x : Half) (c n : Nat) : Bool :=
  let k := x.chan c
  let f (w : FabFor) : Bool := w == .write k.q k.slot n || w == .commit c n
  x.fab.reqs.any (fun r => f r.2.what) || x.fab.waiting.any (fun r => f r.what)

/-- DRAFT_SLOT_COMMIT (R267): every write of the next slot is acknowledged, and the arrival fence is signalled. -/
def Mach.commitSlot (m : Mach) (h : HalfId) (c : Nat) : Mach :=
  let k := m.chan h c
  match m.sendStream h c with
  | none => m
  | some s =>
    let n := k.work.committed
    if k.disp.pkt.op ≠ 0x21 ∨ k.work.written ≤ n ∨ (m.blk.half h).slotBusy c n then m
    else m.arrive h s k.part (k.work.base + n + 1) false (.commit c n)

/-- The arrival signal of a slot has completed: the slot is committed and the record written (R267). -/
def Mach.committed (m : Mach) (h : HalfId) (c : Nat) : Mach :=
  let k := m.chan h c
  match m.sendStream h c with
  | none => m
  | some s =>
    let n := k.work.committed + 1
    let m1 := m.updStream h s.ctx s.record (fun e => { e with sent := k.work.base + n })
    let len := sendLen k.disp.pkt
    (m1.updChan h c (fun e => { e with done := min len (n * 2 ^ s.slotLog2), work := { e.work with committed := n } })).halfWay h c len

/-- A stream becomes BROKEN under a send (R270). -/
def Mach.sendBroken (m : Mach) (h : HalfId) (c st d : Nat) : Mach :=
  let k := m.chan h c
  let p := k.disp.pkt
  let m1 := m.updStream h p.hdr.ctx (p.arg 0) (fun e => { e with st := 2 })
  Mach.chanEnd { m1 with blk := m1.blk.upd h (fun x => x.bump 0x0300110 31 0 1) } h c st d k.done 0

/-- The packet on a stream is gone: FLIGHT clears. -/
def Mach.landed (m : Mach) (h : HalfId) (ctx record : Nat) : Mach := m.updStream h ctx record (fun e => { e with flight := none })

/-- A send whose output is written, or which stops for credit, completes once its written slots are committed (R268, R269). -/
def Mach.sendClose (m : Mach) (h : HalfId) (c : Nat) (sync : Bool) : Mach :=
  let k := m.chan h c
  let p := k.disp.pkt
  if k.work.committed < k.work.written then m.updChan h c (fun e => { e with st := 6 })
  else
    let m1 := m.landed h p.hdr.ctx (p.arg 0)
    if k.work.stop ≠ 0 then m1.chanFinish h c 0x32 k.work.stop k.done 0 sync
    else m1.chanDone h c (sendLen p) sync

/-- DRAFT_CREDIT_RESUME (R269): a credit signal, or the error flag, resumes a send that waits. -/
def Mach.creditResume (m : Mach) (h : HalfId) (c : Nat) : Mach :=
  let k := m.chan h c
  match m.sendStream h c with
  | none => m
  | some s =>
    let cr := m.mem.word false s.creditAt
    if k.work.credit.isNone ∨ (cr % 2 ^ 63 + s.nslot ≤ k.work.base + k.pieceEnd / 2 ^ s.slotLog2 ∧ ¬ bitAt cr 63) then m
    else m.updChan h c (fun e => { e with st := 1, work := { e.work with credit := none } })

/-- DRAFT_CREDIT_TIMEOUT (R269): the wait reaches its limit, and the send stops with reason 0x02. -/
def Mach.creditTimeout (m : Mach) (h : HalfId) (c : Nat) : Mach :=
  let k := m.chan h c
  if k.work.credit.isNone then m
  else Mach.updChan { m with blk := m.blk.upd h (fun x => x.bump 0x0300110 63 32 1) } h c
    (fun e => { e with st := 1, work := { e.work with stop := 2, credit := none, arrived := [] } })

/-- DRAFT_CLOSE of a stream with nothing in flight (R271): status and DETAIL, or none while its arrival signal is out. -/
def Mach.draftClose (m : Mach) (h : HalfId) (ref : PktRef) (p : Pkt) : Mach × Option (Nat × Nat) :=
  match (m.blk.half h).stream p.hdr.ctx (p.arg 0) with
  | none => (m, some (0x11, 8))
  | some s =>
    let m1 := m.dropStream h s.ctx s.record
    if s.st = 1 then (m1.arrive h s p.hdr.part s.sent false (.close ref s.record), none) else (m1, some (0, 0))

/-- Streams of a lost context (R274): signalled with the error flag and marked BROKEN. -/
def Mach.streamsLost (m : Mach) (h : HalfId) (ctx part : Nat) : Mach :=
  ((m.blk.half h).obj.streams.filter (fun s => s.ctx == ctx && s.st == 1)).foldl (fun k s =>
    let k1 := k.updStream h ctx s.record (fun e => { e with st := 2, flight := none })
    let k2 : Mach := { k1 with blk := k1.blk.upd h (fun x => x.bump 0x0300110 31 0 1) }
    k2.arrive h s part s.sent true .loss) m

/-- Streams of a context under destruction close (R274): those with nothing in flight, or every one at the bound; `err` marks an
aborted send. -/
def Mach.streamsClose (m : Mach) (h : HalfId) (ctx part : Nat) (all err : Bool) : Mach :=
  ((m.blk.half h).obj.streams.filter (fun s => s.ctx == ctx && (all || s.flight.isNone))).foldl (fun k s =>
    let reach := (k.blk.half h).devOk s.off
    let k1 := k.dropStream h ctx s.record
    if reach then k1.arrive h s part s.sent (s.st == 2 || (err && s.flight.isSome)) .loss else k1) m

/-- DRAFT_RESYNC (R275): for a stream whose packet ran on the lost half, the arrival fence word is read. -/
def Mach.resync (m : Mach) (h : HalfId) : Mach :=
  let x := m.blk.half h
  if x.tdm.st ≠ .freewheel then m
  else (x.obj.streams.filter (fun s => s.flight == some h.other && x.devOk s.off)).foldl (fun k s =>
    k.fabIssue h { op := 0x10, addr := s.arrivalAt, len := 8, ctx := s.ctx, dst := fabDst s.arrivalAt, what := .resyncRead s.record }) m

/-- The arrival fence word has come (R275): SENT takes the larger value, which is signalled with the error flag. -/
def Mach.resynced (m : Mach) (h : HalfId) (ctx record word : Nat) : Mach :=
  match (m.blk.half h).stream ctx record with
  | none => m
  | some s =>
    let v := max s.sent (word % 2 ^ 63)
    let m1 := m.updStream h ctx record (fun e => { e with sent := v, flight := none })
    m1.arrive h s 0 v true .loss

end Sys2Proof.Machine
end

