-- ==== Sys2Proof/Machine/Deliver.lean ====
section
/-! DEFINITION. What the result of a fabric request does to its requester (R346, Table 12-6). -/
namespace Sys2Proof.Machine

/-- The channel that runs a packet. -/
def Half.chanOf (x : Half) (q slot : Nat) : Option Nat :=
  (x.dma.chans.find? (fun e => e.2.disp.ref.q == q && e.2.disp.ref.slot == slot)).map (·.1)

/-- DETAIL of a context refusal by a remote package (Table 12-6). -/
def refuseDetail (reason : Nat) : Nat := if reason = 1 then 0x0A else if reason = 2 then 0x0B else if reason = 3 then 0x0C else 0x0D

/-- The result says the destination cannot be reached (R346). -/
def FabRes.unreached : FabRes → Bool
  | .unreachable => true
  | .nack k => k == 4 || k == 5 || k == 6
  | _ => false

/-- A remote checker denial loses the requesting context with cause 0x01 (R339). -/
def Blk.remoteDenied (b : Blk) (h : HalfId) (r : FabReq) (reason access : Nat) (ref : Option (Nat × Nat)) : Blk :=
  if reason = 3 ∧ r.ctx ≠ 0 then
    { b with lossQ := b.lossQ ++ [{ ctx := r.ctx, cause := 1, master := 2 ^ 15 + r.part % 64 * 512, access := access, addr := r.addr,
                                    half := h, ref := ref }] }
  else b

/-- The address in a packet's form of fabric bytes it reads: by the span it holds over them, from the range's first byte on. -/
def Half.fabVa (x : Half) (k : Chan) (addr len : Nat) : Nat :=
  match x.xlt.holders.find? (fun e => e.2.q == k.q && e.2.slot == k.slot && !e.2.write && e.2.span.target == 2 && e.2.st == 1 &&
      decide (e.2.span.frame < addr + len) && decide (addr < e.2.span.frame + e.2.span.bytes)) with
  | none => 0
  | some (_, e) => e.span.va + (max addr e.span.frame - e.span.frame)

/-- A fill's result (R279, R346). -/
def Mach.gotFill (m : Mach) (h : HalfId) (r : FabReq) (res : FabRes) : Mach :=
  let readers := ((m.blk.half h).ware.fills.filter (fun f => f.ctx == r.ctx && f.addr == r.addr && f.len == r.len)).flatMap (·.chans)
  match res with
  | .data bs po => { m with blk := m.blk.fillDone h r.ctx r.addr r.len (some (bs, po)) }
  | .nack k =>
    if k = 1 ∨ k = 2 ∨ k = 3 then
      let ref := readers.head?.map (fun c => ((m.chan h c).q, (m.chan h c).slot))
      let m1 := readers.foldl (fun (n : Mach) c => n.chanEnd h c 0x21 (refuseDetail k) (n.chan h c).done ((m.blk.half h).fabVa (n.chan h c) r.addr r.len)) m
      { m1 with blk := (m1.blk.fillDone h r.ctx r.addr r.len none).remoteDenied h r k 1 ref }
    else { m with blk := m.blk.fillDone h r.ctx r.addr r.len none }
  | _ => { m with blk := m.blk.fillDone h r.ctx r.addr r.len none }

/-- A fabric write of a channel has failed (R176, R346): the completed prefix is the one before it, whichever failure is answered first. -/
def Mach.writeBack (m : Mach) (h : HalfId) (c : Nat) (r : FabReq) : Mach :=
  m.updChan h c (fun e => { e with
    done := min e.done r.pre
    ends := e.ends.map (fun (st, d, res, fa) =>
      if (st = 0x20 ∨ st = 0x01) ∧ r.pre < res then (if r.pre = 0 then 0x20 else 0x01, d, r.pre, r.va) else (st, d, res, fa)) })

/-- A write's result (R203, R346): one acknowledgement fewer; a failure ends the packet that is still running. -/
def Mach.gotWrite (m : Mach) (h : HalfId) (r : FabReq) (q slot : Nat) (res : FabRes) : Mach :=
  match (m.blk.half h).chanOf q slot with
  | none => { m with blk := m.blk.upd h (fun x => { x with dma := { x.dma with owed := x.dma.owed.map (fun o =>
      if o.q = q ∧ o.slot = slot then { o with acks := o.acks - 1 } else o) } }) }
  | some c =>
    let m1 := m.updChan h c (fun e => { e with acks := e.acks - 1 })
    let send := (m.chan h c).disp.pkt.op == 0x21
    match res with
    | .nack k =>
      if res.unreached then (if send then m1.sendBroken h c 0x32 3 else (m1.writeBack h c r).chanUnrec h c 1 0 r.va)
      else
        let m2 := if send then m1.sendBroken h c 0x21 (refuseDetail k) else (m1.writeBack h c r).chanEnd h c 0x21 (refuseDetail k) (min (m1.chan h c).done r.pre) r.va
        { m2 with blk := m2.blk.remoteDenied h r k 2 (some (q, slot)) }
    | .unreachable => if send then m1.sendBroken h c 0x32 3 else (m1.writeBack h c r).chanUnrec h c 1 0 r.va
    | _ => m1

/-- Status and DETAIL of a remote fence signal (Table 12-6). -/
def fenceOutcome (res : FabRes) : Nat × Nat :=
  match res with
  | .atomic _ code _ => if code = 0 then (0, 0) else if code = 1 then (0x31, 0) else (0x12, 0x08)
  | .nack k => if res.unreached then (0x20, 0xC0) else (0x21, refuseDetail k)
  | _ => (0x20, 0xC0)

/-- The requester of a fabric request takes its result. -/
def Mach.fabResult (m : Mach) (h : HalfId) (r : FabReq) (res : FabRes) : Mach :=
  match r.what with
  | .fill => m.gotFill h r res
  | .write q slot _ => m.gotWrite h r q slot res
  | .fence ref =>
    let (st0, d0) := fenceOutcome res
    let (st, d) := if st0 = 0 ∧ r.err then (0x21, 0x09) else (st0, d0)
    let k := match res with
      | .nack n => n
      | _ => 0
    let fa := match (m.blk.getQ ref.q).inflight.find? (fun d => d.ref.slot == ref.slot) with
      | some d => d.pkt.arg 0
      | none => 0
    let b := ((m.blk.finish h ref st d 0 (if st0 = 0x21 ∨ st0 = 0x20 then fa else 0) none).release h ref.q ref.slot)
    { m with blk := b.remoteDenied h r k 3 (some (ref.q, ref.slot)) }
  | .trailer _ =>
    let (st, _) := fenceOutcome res
    if st = 0 then m
    else { m with blk := m.blk.upd h (fun x => x.journal (m.clk.now h) ⟨3, r.ctx⟩ 15 r.addr 0 (leNat r.data)) }
  | .open_ ref record =>
    let ok := match res with
      | .atomic _ 0 false => true
      | _ => false
    let m1 := if ok then m else m.dropStream h r.ctx record
    { m1 with blk := (m1.blk.finish h ref (if ok then 0 else 0x11) (if ok then 0 else 20) 0 0 (m.blk.trailerOf ref)).release h ref.q ref.slot }
  | .commit c _ =>
    match fenceOutcome res with
    | (0, _) => m.committed h c
    | (0x20, _) => m.sendBroken h c 0x32 3
    | (0x21, d) =>
      let k := match res with
        | .nack n => n
        | _ => 0
      let m1 := m.sendBroken h c 0x21 d
      { m1 with blk := m1.blk.remoteDenied h r k 3 (some ((m.chan h c).q, (m.chan h c).slot)) }
    | _ => m.sendBroken h c 0x21 0x0D
  | .close ref _ => { m with blk := (m.blk.finish h ref 0 0 0 0 (m.blk.trailerOf ref)).release h ref.q ref.slot }
  | .loss => m
  | .route c _ =>
    let m1 := m.updChan h c (fun e => { e with acks := e.acks - 1 })
    if (fenceOutcome res).1 = 0 then m1 else m1.routeRefused h c
  | .resyncRead record =>
    match res with
    | .data bs _ => m.resynced h r.ctx record (leNat bs)
    | _ => m
  | .chip port =>
    let (bs, po) := match res with
      | .data bs po => (bs, po)
      | .atomic old _ po => (leBytes 8 old, po)
      | _ => (freeBytes m.blk.free r.len, true)
    if r.op / 16 = 2 then m else { m with blk := m.blk.draw.1.emit (.chipData h port bs po) }
  | .ping =>
    match res with
    | .pong => { m with blk := m.blk.restore h r.dst }
    | _ => m

/-- Act on the results that have come to a half, oldest first. -/
def Mach.fabDrain (m : Mach) (h : HalfId) : Nat → Mach
  | 0 => m
  | f + 1 =>
    match (m.blk.half h).fab.instant with
    | [] => m
    | (tag, res) :: _ =>
      let (x, r) := (m.blk.half h).takeReq tag
      let x1 : Half := { x with fab := { x.fab with instant := x.fab.instant.filter (fun i => i.1 != tag) } }
      let m1 : Mach := { m with blk := m.blk.upd h (fun _ => x1) }
      match r with
      | none => m1.fabDrain h f
      | some q => (m1.fabResult h q res).fabDrain h f

end Sys2Proof.Machine
end

