-- ==== Sys2Proof/Machine/Order.lean ====
section
/-! DEFINITION. What FENCE_SIGNAL, EVENT_RAISE and signal trailers wait for (R96, R203, R204). -/
namespace Sys2Proof.Machine

/-- An ordered operation of slot `slot` looks at what comes before it in its queue (R96, R203): every earlier packet completed and every
write acknowledged, those to host memory by a flush read. None while it waits, having issued the flush reads still missing; else whether
a flush was refused (R204). `own` counts the packet's own writes too (a signal trailer). -/
def Mach.orderReady (m : Mach) (h : HalfId) (q slot : Nat) (own : Bool) : Mach × Option Bool :=
  let x := m.blk.half h
  let covers (s : Nat) : Bool := slotBefore s slot || (own && s == slot)
  let mine := x.dma.owed.filter (fun o => o.q == q && covers o.slot)
  let flushing := x.dma.flushes.any (fun f => match f.what with
    | .order a s => a == q && covers s
    | _ => false)
  if (m.blk.getQ q).inflight.any (fun d => slotBefore d.ref.slot slot) ∨ mine.any (fun o => o.acks != 0) ∨ flushing then (m, none)
  else if mine.any (fun o => !o.flush.isEmpty) then
    ({ m with blk := m.blk.upd h (fun y => mine.foldl (fun z o => z.flushFor o.flush (.order q o.slot)) y) }, none)
  else (m, some (x.dma.orderErr.any (fun e => e.1 == q && covers e.2)))

/-- An ordered operation has taken effect: what it waited for is forgotten. -/
def Mach.orderClear (m : Mach) (h : HalfId) (q slot : Nat) (own : Bool) : Mach :=
  let covers (s : Nat) : Bool := slotBefore s slot || (own && s == slot)
  { m with blk := m.blk.upd h (fun y => { y with dma := { y.dma with
      owed := y.dma.owed.filter (fun o => !(o.q == q && covers o.slot))
      orderErr := y.dma.orderErr.filter (fun e => !(e.1 == q && covers e.2)) } }) }

end Sys2Proof.Machine
end

