-- ==== Sys2Proof/Machine/Collector.lean ====
section
/-! DEFINITION. The error collector (chapter 16): error queues, acceptance, log, first-error and partition records, counting
in a window, interrupts, ALERT_N, AER and the fatal steps. -/
namespace Sys2Proof.Machine

/-- Kinds defined in Table 16-2 and the owning chapters (R428). -/
def kindDefined (k : Nat) : Bool :=
  decide (k ≤ 0x04) || (decide (0x10 ≤ k) && decide (k ≤ 0x17)) || (decide (0x20 ≤ k) && decide (k ≤ 0x26)) ||
  (decide (0x30 ≤ k) && decide (k ≤ 0x3B)) || (decide (0x40 ≤ k) && decide (k ≤ 0x47)) ||
  (decide (0x50 ≤ k) && decide (k ≤ 0x53)) || (decide (0x60 ≤ k) && decide (k ≤ 0x63)) ||
  (decide (0x70 ≤ k) && decide (k ≤ 0x76)) || (decide (0x80 ≤ k) && decide (k ≤ 0x86)) ||
  (decide (0x90 ≤ k) && decide (k ≤ 0x93)) || k == 0x9F || (decide (0xA0 ≤ k) && decide (k ≤ 0xA4))

/-- KIND and SEVERITY the collector handles a message with (R428): a reserved kind or severity becomes kind 0x9F at DEFERRED or
its own higher defined severity. -/
def handled (m : ErrMsg) : Nat × Nat :=
  if kindDefined m.kind ∧ m.sev ≤ 5 then (m.kind, m.sev)
  else (0x9F, if m.sev ≤ 5 then max 2 m.sev else 2)

/-- MASTER as Table 16-1 lays it out: PART_VALID, PART, AGENT. -/
def masterOf (m : ErrMsg) : Nat := b2n m.partValid * 2 ^ 15 + (m.part % 64) * 2 ^ 9 + m.agent % 512

/-- The 128 bits of a coded message (Table 16-1). -/
def msgBits (m : ErrMsg) : Nat :=
  m.addr % 2 ^ 58 + masterOf m * 2 ^ 58 + (m.access % 16) * 2 ^ 74 + (m.kind % 256) * 2 ^ 78 + (m.source % 4096) * 2 ^ 86 +
    (m.sev % 8) * 2 ^ 98

/-- WQ_ERR_FIRST_INFO and WQ_ERR_FATAL_INFO fields (Table 16-9), VALID apart. -/
def infoBits (m : ErrMsg) (kind sev : Nat) : Nat :=
  m.source % 4096 + kind * 2 ^ 15 + sev * 2 ^ 23 + masterOf m * 2 ^ 26 + (m.access % 16) * 2 ^ 42

/-- A message enters the log ring (R430): replacing an unread entry increments OVERRUN. Answers whether that happened. -/
def Half.logAdd (x : Half) (t : Nat) (m : ErrMsg) (debug : Bool) : Half × Bool :=
  let i := x.err.logNext
  let taken := match Tab.look x.err.log i with
    | some e => !e.read
    | none => false
  let x1 := { x with err := { x.err with log := Tab.put x.err.log i ⟨m, t, false, debug⟩, logNext := (i + 1) % 512 } }
  (if taken then x1.bump 0x0900080 47 32 1 else x1, taken)

/-- First-error capture and merge (R431, R432), for a message handled with a kind and a severity of DEFERRED or above. -/
def Half.firstError (x : Half) (t : Nat) (m : ErrMsg) (kind sev : Nat) : Half :=
  if x.regFld 0x0900010 63 63 = 0 then
    (((x.setReg 0x0900010 (BitVec.ofNat 64 (2 ^ 63 + m.addr % 2 ^ 58))).setReg 0x0900008 (BitVec.ofNat 64 (infoBits m kind sev))).setReg
      0x0900018 (BitVec.ofNat 64 t)).setReg 0x0900020 (BitVec.ofNat 64 (kind * 2 ^ 40 + sev * 2 ^ 32))
  else
    let v := x.reg 0x0900020
    let cnt := min 65535 (fld v 15 0 + 1)
    let orK := Nat.lor (fld v 47 40) kind
    let top := max (fld v 34 32) sev
    x.setReg 0x0900020 (BitVec.ofNat 64 (orK * 2 ^ 40 + top * 2 ^ 32 + cnt))

/-- Capture and merge in one partition record (R437, with COUNT and MAX_SEV as R431 and R432; KIND keeps the first). -/
def partRecAdd (r : PartRec) (m : ErrMsg) (kind sev : Nat) : PartRec :=
  if r.valid then { r with count := min 65535 (r.count + 1), maxSev := max r.maxSev sev }
  else ⟨true, sev, 0, kind, m.source, m.access, m.addr⟩

/-- Count a CORRECTED or DEFERRED message at one tracked source (R433): the entry and whether it became SEVERE now. -/
def srcCount (e : SrcEntry) (t nLim tMs : Nat) : SrcEntry × Bool :=
  let e1 := if e.count = 0 ∨ t - e.start ≥ tMs * 1000000 then { e with start := t, count := 1 } else { e with count := e.count + 1 }
  if 0 < nLim ∧ nLim ≤ e1.count ∧ ¬ e1.severe then ({ e1 with severe := true }, true) else (e1, false)

/-- The tracked entry of a (SOURCE, range) pair (R433). -/
def Half.srcFind (x : Half) (source range : Nat) : Option Nat :=
  (x.err.sources.find? (fun e => e.2.source == source && e.2.range == range)).map (·.1)

/-- Where a new source goes (R434): a free entry, else the entry with the oldest start that is not SEVERE; none when all 256 are
SEVERE. -/
def Half.srcSlot (x : Half) : Option Nat :=
  match Tab.free x.err.sources 0 256 with
  | some i => some i
  | none =>
    (x.err.sources.foldl (fun acc e => if e.2.severe then acc else match acc with
      | none => some e
      | some a => if e.2.start < a.2.start then some e else some a) (none : Option (Nat × SrcEntry))).map (·.1)

/-- The source of a message is SEVERE before it is counted (R433). -/
def Half.srcSevere (x : Half) (source range : Nat) : Bool :=
  match x.srcFind source range with
  | some i => (Tab.dflt x.err.sources i {}).severe
  | none => if x.srcSlot.isNone then (Tab.dflt x.err.sharedSources range {}).severe else false

/-- Count a message at its source (R433, R434): the half, and whether the source became SEVERE now. -/
def Half.countSource (x : Half) (t source range : Nat) : Half × Bool :=
  let c := x.reg (0x0900100 + 8 * range)
  let n := fld c 15 0
  let w := fld c 63 32
  match x.srcFind source range with
  | some i =>
    let r := srcCount (Tab.dflt x.err.sources i {}) t n w
    ({ x with err := { x.err with sources := Tab.put x.err.sources i r.1 } }, r.2)
  | none =>
    match x.srcSlot with
    | some i =>
      let r := srcCount { source := source, range := range } t n w
      ({ x with err := { x.err with sources := Tab.put x.err.sources i r.1 } }, r.2)
    | none =>
      let e0 := Tab.dflt x.err.sharedSources range { source := source / 128 * 128 + 127, range := range }
      let r := srcCount e0 t n w
      ({ x with err := { x.err with sharedSources := Tab.put x.err.sharedSources range r.1 } }, r.2)

/-- Alert causes a message sets by its kind and severity (Table 16-5). -/
def alertBits (kind sev : Nat) : List Nat :=
  (if sev = 5 then [0] else []) ++ (if sev = 4 then [1] else []) ++
  (if kind = 0x80 ∨ kind = 0x81 ∨ kind = 0x82 ∨ kind = 0x85 then [2] else []) ++
  (if kind = 0xA2 ∨ kind = 0xA3 then [4] else []) ++ (if kind = 0x73 then [7] else [])

/-- AER status a message maps to (Table 16-7): 1 Corrected Internal Error, 2 Uncorrectable Internal Error non-fatal, 4 Poisoned
TLP Received, 5 Malformed TLP; fatal messages are reported by the fatal steps. -/
def aerOf (m : ErrMsg) (kind sev : Nat) : Option Nat :=
  if kind = 0x47 then some 4
  else if kind = 0x45 then some 5
  else if m.partValid then none
  else if sev = 1 then some 1
  else if sev = 2 ∨ sev = 3 then some 2
  else none

/-- Report to AER (R442): on the receiving function for a TLP kind, else on the primary function; not while that link is down
or in containment. -/
def Blk.aerReport (b : Blk) (h : HalfId) (m : ErrMsg) (kind sev : Nat) : Blk :=
  if (b.half h).regFld 0x0900000 16 16 = 0 then b
  else match aerOf m kind sev with
    | none => b
    | some st =>
      let pp := if kind = 0x47 ∨ kind = 0x45 then h.num * 2 + m.agent % 2 else b.adminPort h
      if (b.hport pp).up ∧ ¬ (b.hport pp).contained then b.emit (.aer pp st) else b

/-- A half fences itself (R65): it aborts its dispatched packets at a burst boundary, writes no replies and fetches no packets;
HEARTBEAT and liveness word stop with `stop` (R440). -/
def Half.fenceSelf (x : Half) (stop : Bool) : Half :=
  { x with
    tdm := { x.tdm with st := .fenced, stopped := x.tdm.stopped || stop, aborted := x.tdm.aborted +
      (x.obj.queues.foldl (fun a q => if q.2.home = x.id then a + q.2.inflight.length else a) 0) }
    dma := { x.dma with chans := [], active := [], flushes := [] }
    xfm := { x.xfm with slots := [] }
    waiters := []
    xlt := { x.xlt with holders := [], queue := [], walks := [] } }

/-- A half has no partner in service (R440): SOLO, refused, or already the only half in service. -/
def Half.alone (x : Half) : Bool := x.tdm.st == .solo || x.tdm.st == .unpaired || x.tdm.st == .freewheel

/-- The steps of Table 16-6, with the WQ_PWR_RESET_CAUSE bit the half reset will set: fence, fatal AER on each function whose
link is up, half reset due. -/
def Blk.fatalSteps (b : Blk) (h : HalfId) (bit : Nat) : Blk :=
  let b1 := b.upd h (fun x =>
    let y := x.fenceSelf true
    { y with boot := { y.boot with fatalDue := some (y.boot.fatalDue.getD bit) } })
  [0, 1].foldl (fun b2 p =>
    let pp := h.num * 2 + p
    if (b2.hport pp).up ∧ (b2.half h).regFld 0x0900000 16 16 = 1 then b2.emit (.aer pp 3) else b2) b1

/-- Capture in the fatal registers while their VALID is 0 (R440). -/
def Half.fatalCapture (x : Half) (t : Nat) (m : ErrMsg) (kind sev : Nat) : Half :=
  if x.regFld 0x0900028 63 63 = 1 then x
  else ((x.setReg 0x0900028 (BitVec.ofNat 64 (2 ^ 63 + infoBits m kind sev))).setReg 0x0900030 (BitVec.ofNat 64 (m.addr % 2 ^ 58))).setReg
    0x0900038 (BitVec.ofNat 64 t)

/-- Fatal reaction of the collector (R440, R441). -/
def Blk.fatalReact (b : Blk) (t : Clk) (h : HalfId) (m : ErrMsg) (kind sev : Nat) : Blk :=
  if sev < 4 then b
  else
    let b1 := b.upd h (fun x => x.fatalCapture (t.now h) m kind sev)
    let pair := decide (sev = 5) || (b.half h).alone
    let b2 := if sev = 5 then b1.sendXreq h (.fatalNotice m false) else b1
    b2.fatalSteps h (if pair then 5 else 4)

/-- Interrupt of the physical function (R436): at or above IRQ_SEV, enabled, and none outstanding. -/
def Blk.errInterrupt (b : Blk) (t : Clk) (h : HalfId) (sev : Nat) : Blk :=
  let x := b.half h
  if x.regFld 0x0900000 10 8 ≤ sev ∧ x.regFld 0x0900050 16 16 = 1 ∧ ¬ x.err.irqSent then
    let pp := b.adminPort h
    let b1 := b.upd h (fun y => { y with err := { y.err with irqSent := true } })
    if HalfId.ofPort pp = h then b1.cause t pp 0 (x.regFld 0x0900050 10 0)
    else b1.sendXreq h (.errVector (x.regFld 0x0900050 10 0))
  else b

/-- The partition's threshold register WQ_PART_PAGE_ERR_CTRL (Table 16-10). -/
def Part.errCtrl (p : Part) : W64 := (Tab.look p.page 0x10100).getD 0x200

/-- Partition record and its vector (R437, R443: discarded while the partition resets). -/
def Blk.partError (b : Blk) (t : Clk) (h : HalfId) (m : ErrMsg) (kind sev : Nat) : Blk :=
  if ¬ m.partValid ∨ ((b.half h).part m.part).st = .resetting then b
  else
    let b1 := if sev < 2 then b else b.upd h (fun x => { x with err := { x.err with parts := Tab.upd x.err.parts m.part {} (fun r => partRecAdd r m kind sev) } })
    let c := ((b.half h).part m.part).errCtrl
    if fld c 16 16 = 1 ∧ fld c 10 8 ≤ sev ∧ m.part ≠ 0 then b1.cause t 0 m.part (fld c 5 0) else b1

/-- What the collector does with one accepted message (R428 to R442). -/
def Blk.collect (b : Blk) (t : Clk) (h : HalfId) (m : ErrMsg) (debug : Bool) : Blk :=
  let x := b.half h
  let ks := handled m
  let kind := ks.1
  let range := min 10 (kind / 16)
  let raised := x.srcSevere m.source range && (ks.2 == 1 || ks.2 == 2)
  let sev := if raised then ks.2 + 1 else ks.2
  let counted := ks.2 == 1 || ks.2 == 2
  let c := if counted then x.countSource (t.now h) m.source range else (x, false)
  let x1 := c.1.bumpSat 0x0900058 (10 * ks.2 + 9) (10 * ks.2) 1
  let doLog := decide (2 ≤ sev) || x.regFld 0x0900000 0 0 == 1 || c.2
  let lg := if doLog then x1.logAdd (t.now h) m debug else (x1, false)
  let x2 := if 2 ≤ sev then lg.1.firstError (t.now h) m kind sev else lg.1
  let b1 := b.upd h (fun _ => x2)
  let bits := alertBits kind sev ++ (if c.2 then [5] else []) ++ (if lg.2 then [6] else [])
  let b2 := bits.foldl (fun bb i => bb.alertCause h i) b1
  let b3 := ((b2.errInterrupt t h sev).partError t h m kind sev).aerReport h m kind sev
  b3.fatalReact t h m kind sev

/-- ERROR_MESSAGE_ACCEPT (R429): the collector takes the oldest message that reached it. -/
def Blk.errorAccept (b : Blk) (t : Clk) (h : HalfId) : Blk :=
  match (b.half h).err.arrived with
  | [] => b
  | (_, m, debug) :: rest =>
    (b.upd h (fun x => { x with err := { x.err with arrived := rest } })).collect t h m debug

/-- ERROR_QUEUE_ENTRY_FREED (R26): the island's oldest entry crosses to SVC, and the first stalled message enters the queue. -/
def Half.errorEntryFreed (x : Half) (island : Nat) : Half :=
  match Tab.dflt x.err.queues island [] with
  | [] => x
  | m :: rest =>
    let st := Tab.dflt x.err.stalled island []
    let q := rest ++ st.take 1
    let err1 := { x.err with queues := Tab.put x.err.queues island q, stalled := Tab.put x.err.stalled island (st.drop 1) }
    { x with err := { err1 with arrived := err1.arrived ++ [(island, m, false)] } }

/-- ERROR_RECORD_CLEAR (R432, R437): a write of 1 to the VALID flag of a record. -/
def Half.errorRecordClear (x : Half) (r : ErrRec) : Half :=
  match r with
  | .first => x.setFld 0x0900010 63 63 0
  | .fatal => x.setFld 0x0900028 63 63 0
  | .part p => { x with err := { x.err with parts := Tab.modify x.err.parts p (fun e => { e with valid := false }) } }

/-- The value of a selector register in the bank of the requester (R497). -/
def Half.selector (x : Half) (via : Via) (off : Nat) : Nat :=
  match via with
  | .fn _ _ _ => (x.reg off).toNat
  | .mctp _ => ((Tab.look x.selMctp off).getD (resetValue off)).toNat

/-- WQ_ERR_LOG_STATUS as read (Table 16-9). -/
def Half.logStatus (x : Half) : Nat := (x.regFld 0x0900080 47 32) * 2 ^ 32 + x.err.logNext

/-- ERROR_LOG_STATUS_READ (R436): answers OVERRUN and the next entry; a read through a function re-arms the interrupt. -/
def Blk.logStatusRead (b : Blk) (via : Via) (h : HalfId) : Blk :=
  let b1 := b.emit (.readData (b.half h).logStatus)
  match via with
  | .fn _ _ _ => b1.upd h (fun x => { x with err := { x.err with irqSent := false } })
  | .mctp _ => b1

/-- ERROR_LOG_ENTRY_READ (R430): reads WQ_ERR_LOG_LO or HI of the selected entry, which then counts as read. -/
def Blk.logEntryRead (b : Blk) (via : Via) (h : HalfId) (hi : Bool) : Blk :=
  let x := b.half h
  let i := x.selector via 0x0900060 % 512
  match Tab.look x.err.log i with
  | none => b.emit (.readData 0)
  | some e =>
    let v := msgBits e.msg
    (b.emit (.readData (if hi then v / 2 ^ 64 else v % 2 ^ 64))).upd h (fun y =>
      { y with err := { y.err with log := Tab.put y.err.log i { e with read := true } } })

/-- ERROR_INJECT (R444): at DEBUG_LEVEL 1 or above the written fields reach the collector as a message. -/
def Half.errorInject (x : Half) (v : Nat) : Half :=
  if x.sec.debugLevel = 0 then x
  else
    let m : ErrMsg := { sev := bits v 30 28, source := bits v 27 16, kind := bits v 15 8, access := bits v 3 0 }
    { x with err := { x.err with arrived := x.err.arrived ++ [(bits v 26 23, m, true)] } }

/-- SEVERE_SOURCE_CLEAR (R434): the selected entry's SEVERE clears, and the entry restarts at its next event (R443). -/
def Half.severeClear (x : Half) (via : Via) : Half :=
  let i := x.selector via 0x0900200 % 256
  { x with err := { x.err with sources := Tab.modify x.err.sources i (fun e => { e with severe := false, count := 0 }) } }

/-- KILN_WATCHDOG_EXPIRY (R428): kind 0x91 at FATAL_HALF from CMD, naming the Kiln core. -/
def Half.kilnWatchdog (x : Half) (core : Nat) : Half := x.raiseErr 2 core 0x91 4 0 0 none core

/-- Kind and severity of an SRAM error (Table 16-2): corrected; uncorrectable in a cache or resident copy; in state only this
half holds; in pair-wide state whose partner copy is unusable. -/
def sramKind (c : Nat) : Nat × Nat :=
  if c = 0 then (0x60, 1) else if c = 1 then (0x61, 2) else if c = 2 then (0x62, 4) else (0x63, 5)

/-- FATAL_NOTICE_RECEIVE (R441, R75): the partner's notice is captured as this half's own FATAL_PAIR, or as its pair reset, and
the same steps run. -/
def Blk.fatalNotice (b : Blk) (t : Clk) (h : HalfId) (m : ErrMsg) (pairReset : Bool) : Blk :=
  if pairReset then
    (b.upd h (fun x => { (x.setBit 0x0A00038 8) with boot := { x.boot with causes := 8 :: x.boot.causes }, tdm := { x.tdm with longWindow := true } })).fatalSteps h 8
  else
    let b1 := (b.upd h (fun x => x.fatalCapture (t.now h) m (handled m).1 5)).alertCause h 0
    b1.fatalSteps h 5

end Sys2Proof.Machine
end

