-- ==== Sys2Proof/Machine/Run.lean ====
section
/-! DEFINITION. Running a packet on a channel: assignment, steps by opcode, completion, and the single events that advance a channel
(R194 to R196, R202, R203, R219, R220). -/
namespace Sys2Proof.Machine

/-- Kinds of channel packet. -/
def Pkt.isElt (p : Pkt) : Bool := p.op == 0x18 || p.op == 0x19
def Pkt.isRoute (p : Pkt) : Bool := p.op == 0x1A
def Pkt.isSend (p : Pkt) : Bool := p.op == 0x21
/-- Opcodes that take a DMA channel (Table 08-1), and those that also take an engine slot (R220, R265). -/
def Pkt.takesChan (p : Pkt) : Bool := (decide (1 ≤ p.op) && decide (p.op ≤ 6)) || p.op == 0x50 || p.isElt || p.isRoute || p.isSend
def Pkt.takesSlot (p : Pkt) : Bool := p.isElt || p.isRoute || (p.isSend && p.arg 5 != 4)

/-- A short packet (R194): it moves at most 4 KiB in all. -/
def Pkt.short (p : Pkt) : Bool :=
  match p.op with
  | 0x01 => decide (p.arg 2 ≤ 4096)
  | 0x02 => decide (p.arg 1 ≤ 4096)
  | 0x03 => true
  | 0x04 => decide (p.arg 2 * p.arg 3 * p.arg 4 ≤ 4096)
  | _ => false

/-- The channel for a packet (R194): round robin from the engine used last; an engine with no active channel first; reserved engines
take short packets only, and first. -/
def Half.pickChan (x : Half) (short : Bool) : Option Nat :=
  let order := (List.range 16).map (fun i => (x.dma.lastEngine + 1 + i) % 16)
  let live := order.filter (fun e => bitAt x.dma.map e)
  let kept := x.regFld 0x0200000 19 17
  let res := live.filter (fun e => decide (16 - kept ≤ e))
  let rest := live.filter (fun e => decide (e < 16 - kept))
  let free (e : Nat) : Option Nat := Tab.free x.dma.chans (e * 8) 8
  let idle (e : Nat) : Bool := (Tab.look x.dma.active e).isNone && (free e).isSome
  let pick (l : List Nat) : Option Nat := match l.find? idle with
    | some e => free e
    | none => (l.find? (fun e => (free e).isSome)).bind free
  if short then match pick res with
    | some c => some c
    | none => pick rest
  else pick rest

/-- Occupied slots of a quad, and the dwell they start or end (R222). -/
def Half.dwellUpdate (x : Half) (now q : Nat) : Half :=
  let used := (x.xfm.slots.filter (fun s => s.1 / 16 == q)).length
  if x.regFld 0x0300000 11 8 ≤ used then x.updQuad q (fun k => { k with dwell := some (k.dwell.getD now) })
  else x.updQuad q (fun k => { k with dwell := none })

/-- Give a dispatched packet its channel and, where it needs one, its engine slot, together or not at all (R220). -/
def Mach.assign (m : Mach) (h : HalfId) (d : Disp) (data : List Byte) (cut : Bool) : Option (Mach × Nat) :=
  let x := m.blk.half h
  let p := d.pkt
  match x.pickChan p.short with
  | none => none
  | some c =>
    let k : Chan := { st := 1, disp := { d with chan := some c }, data := data, work := { stop := if cut then 1 else 0 } }
    let put (k : Chan) (y : Half) : Half := { y with dma := { y.dma with chans := Tab.put y.dma.chans c k, lastEngine := c / 8 } }
    let note (b : Blk) : Blk := b.modQ d.ref.q (fun q => { q with inflight := q.inflight.map (fun e =>
      if e.ref.slot = d.ref.slot then { e with chan := some c } else e) })
    if ¬ p.takesSlot then some ({ m with blk := note (m.blk.upd h (put k)) }, c)
    else match x.pickEngine p.hdr.ctx (p.arg 10) (p.arg 9) ((p.isElt || p.isSend) && p.op != 0x19 && p.arg 5 == 3)
        ((p.isElt || p.isSend) && p.op != 0x19 && p.arg 5 == 2) with
      | none => none
      | some e =>
        let s : XSlot := { q := d.ref.q, slot := d.ref.slot, chan := c, part := p.hdr.part, prio := bitAt d.ref.flags 5, loading := true }
        let b := m.blk.upd h (fun y =>
          let (z, n) := y.takeSlot e s
          (put { k with work := { k.work with eng := some n } } z).dwellUpdate (m.clk.now h) (e / 4))
        some ({ m with blk := note b }, c)

/-- What comes before a packet's first group: tables and programs, ROUTE's map and regions, a send's ring (R239, R248, R267). -/
def Mach.begin (m : Mach) (h : HalfId) (c : Nat) (sync : Bool) : Mach × Option Burst1 :=
  let k := m.chan h c
  let p := k.disp.pkt
  let ok (r : Mach × Option Burst1) : Mach × Option Burst1 := match r with
    | (m1, none) =>
      let m2 := m1.updChan h c (fun e => { e with work := { e.work with begun := true } })
      ({ m2 with blk := m2.blk.upd h (fun x => { x with xfm := { x.xfm with slots := x.xfm.slots.map (fun s =>
          if s.2.chan = c then (s.1, { s.2 with loading := false }) else s) } }) }, none)
    | r1 => r1
  let aux (m : Mach) (second : Bool) : Mach × Option Burst1 :=
    match m.loadAux h c (p.arg 5) (p.arg 10) (p.arg 9) second sync with
    | (m1, .ok _) => (m1, none)
    | (m1, .wait) => (m1, some .wait)
    | (m1, .ended) => (m1, some .ended)
  if k.work.begun then (m, none)
  else if p.op = 0x18 then ok (aux m (p.arg 16 != 0))
  else if p.isRoute then ok (m.routeBegin h c sync)
  else if p.isSend then
    match m.sendStream h c with
    | none => (m.chanEnd h c 0x11 8 0 0, some .ended)
    | some s =>
      if s.st = 2 then (m.chanEnd h c 0x32 3 0 0, some .ended) else
      match (if p.arg 5 = 4 then (m, none) else aux m false) with
      | (m1, none) => ok (m1.sendBegin h c s)
      | r => ok r
  else ok (m, none)

/-- One step of a channel's packet. -/
def Mach.chanStep (m : Mach) (h : HalfId) (c : Nat) (sync : Bool) : Mach × Burst1 :=
  match m.begin h c sync with
  | (m1, some b) => (m1, b)
  | (m1, none) =>
    let p := (m1.chan h c).disp.pkt
    if p.isElt then m1.eltGroup h c sync
    else if p.isRoute then m1.routeToken h c sync
    else if p.isSend then m1.sendStep h c sync
    else m1.burst h c sync

/-- Total of a channel's packet for the half-way point and RESULT (R209, R238). -/
def Chan.totalOut (k : Chan) : Nat :=
  let p := k.disp.pkt
  if p.isElt then p.elt.outBytes p.elt.count else if p.isSend then sendLen p else if p.isRoute then k.done else k.total

/-- Everything is issued: completion by opcode. -/
def Mach.chanClose (m : Mach) (h : HalfId) (c : Nat) (sync : Bool) : Mach :=
  let k := m.chan h c
  let p := k.disp.pkt
  if p.isRoute then
    match m.routeClose h c sync with
    | (m1, false) => m1
    | (m1, true) =>
      let k1 := m1.chan h c
      if p.rMode = 2 then m1.chanDone h c k1.done sync else m1.chanFinish h c 0 k1.work.flags k1.done 0 sync
  else if p.isSend then m.sendClose h c sync
  else m.chanDone h c k.totalOut sync

/-- The packet has ended early: completion by opcode. -/
def Mach.chanStop (m : Mach) (h : HalfId) (c : Nat) (sync : Bool) : Mach :=
  let k := m.chan h c
  let p := k.disp.pkt
  if p.isRoute ∧ k.work.begun then
    match m.routeClose h c sync with
    | (m1, false) => m1
    | (m1, true) => m1.chanEnded h c sync
  else if p.isSend then (m.landed h p.hdr.ctx (p.arg 0)).chanEnded h c sync
  else m.chanEnded h c sync

/-- Run a channel's packet as far as it goes with every exchange inside the block taken as done at once. -/
def Mach.runChan (m : Mach) (h : HalfId) (c : Nat) : Nat → Mach
  | 0 => m
  | f + 1 =>
    if (m.chan h c).st = 0 then m
    else match m.chanStep h c true with
    | (m1, .more) => ((m1.halfWay h c (m1.chan h c).totalOut).fabDrain h 64).runChan h c f
    | (m1, .done) =>
      let m2 := (m1.chanClose h c true).fabDrain h 64
      let m3 := if (m2.chan h c).disp.pkt.isSend then ((m2.commitSlot h c).fabDrain h 64) else m2
      if (m3.chan h c).st = 0 then m3
      else if (m3.chan h c).ends.isSome ∨ (m3.chan h c).acks < (m1.chan h c).acks ∨ (m1.chan h c).work.committed < (m3.chan h c).work.committed
      then m3.runChan h c f
      else m3
    | (m1, .ended) => (m1.chanStop h c true).fabDrain h 64
    | (m1, .wait) =>
      let m2 := (m1.serveNow h c).fabDrain h 64
      let k := m2.chan h c
      if k.st = 1 ∧ (m1.chan h c).st ≠ 1 then m2.runChan h c f
      else if k.fabBuf.length ≠ (m1.chan h c).fabBuf.length ∨ k.ends.isSome then m2.runChan h c f
      else m2

/-- Steps a packet may take on its channel. -/
def Chan.fuel (k : Chan) : Nat :=
  let p := k.disp.pkt
  k.total + (if p.isElt then p.elt.count else 0) + (if p.isRoute then 2 * p.rTok else 0) + (if p.isSend then 4 * p.arg 2 + sendLen p else 0) + 4096

/-! ### Events of a channel -/

/-- Channels of an engine that are READY, the one dispatched earliest first and PRIORITY ahead of the rest (R195). -/
def Half.nextReady (x : Half) (e : Nat) : Option Nat :=
  let ready := x.dma.chans.filter (fun k => k.1 / 8 == e && k.2.st == 1)
  let better (a b : Nat × Chan) : Bool :=
    let pa := bitAt a.2.disp.ref.flags 5
    let pb := bitAt b.2.disp.ref.flags 5
    if pa ≠ pb then pa else decide (a.2.disp.time < b.2.disp.time)
  (ready.foldl (fun (b : Option (Nat × Chan)) k => match b with
    | none => some k
    | some j => if better k j then some k else some j) none).map (·.1)

/-- The engine's active channel, taking a ready one where it has none (R195). -/
def Mach.activate (m : Mach) (h : HalfId) (e : Nat) : Mach × Option Nat :=
  let x := m.blk.half h
  match Tab.look x.dma.active e with
  | some c => if (x.chan c).st = 2 then (m, some c) else
    let b := m.blk.upd h (fun y => { y with dma := { y.dma with active := Tab.del y.dma.active e } })
    match (b.half h).nextReady e with
    | none => ({ m with blk := b }, none)
    | some n => (Mach.updChan { m with blk := b.upd h (fun y => { y with dma := { y.dma with active := Tab.put y.dma.active e n } }) } h n
        (fun k => { k with st := 2 }), some n)
  | none => match x.nextReady e with
    | none => (m, none)
    | some n => (Mach.updChan { m with blk := m.blk.upd h (fun y => { y with dma := { y.dma with active := Tab.put y.dma.active e n } }) } h n
        (fun k => { k with st := 2 }), some n)

/-- A channel leaves its engine. -/
def Half.offEngine (x : Half) (c : Nat) : Half :=
  { x with dma := { x.dma with active := if Tab.look x.dma.active (c / 8) = some c then Tab.del x.dma.active (c / 8) else x.dma.active } }

/-- Operands of a transform packet's next group are resolved, and its reads issued. -/
def Mach.issueGroup (m : Mach) (h : HalfId) (c : Nat) : Mach × Burst1 :=
  let k := m.chan h c
  let p := k.disp.pkt
  if k.ends.isSome then (m, .ended)
  else if k.st = 4 ∨ k.st = 5 ∨ ¬ k.reads.isEmpty then (m, .wait)
  else if p.isElt ∧ p.elt.count ≤ k.pos ∨ p.isRoute ∧ p.rTok ≤ k.pos then (m, .done)
  else
    let ops := if p.isElt then p.elt.operands k.pos (p.elt.group k.pos) else []
    match m.partsAll h c false ops with
    | (m1, none, r) => (m1, r.getD .wait)
    | (m1, some ps, _) =>
      let s := (ps.flatten).getD 0 {}
      (m1.updChan h c (fun e => { e with reads := [{ src := s.place, srcVa := s.va, n := if p.isElt then p.elt.group k.pos else 1, pos := k.pos }] }), .more)

/-- The first address of each range of a channel packet on a user queue, by operand code and access (R145). -/
def Pkt.firsts (p : Pkt) : List (Nat × Nat × Bool) :=
  let a := p.arg
  match p.op with
  | 0x01 => [(0, a 0, false), (1, a 1, true)]
  | 0x02 => [(1, a 0, true)]
  | 0x03 => [(1, a 0, true)]
  | 0x04 => [(0, a 0, false), (1, a 1, true)]
  | 0x05 => (if bitAt p.hdr.flags 4 then [] else [(2, a 2, false)]) ++ [(1, a 1, true)]
  | 0x06 => (if bitAt p.hdr.flags 4 then [] else [(2, a 2, false)]) ++ [(0, a 0, false)]
  | 0x18 => [(0, a 0, false), (1, a 1, true)]
  | 0x19 => [(0, a 0, false), (0, a 1, false), (1, a 2, true)]
  | 0x21 => [(0, a 1, false)]
  | 0x50 => [(1, a 2, true)]
  | _ => []

/-- A channel that has issued nothing waits until the first span of each of its packet's ranges is held or known missing; a refused one ends
the packet (R145, R167). None: it may go on. -/
def Mach.firstSpans (m : Mach) (h : HalfId) (c : Nat) : Option (Mach × Burst1) :=
  let k := m.chan h c
  let p := k.disp.pkt
  if k.q = 0 ∨ k.pos ≠ 0 ∨ k.done ≠ 0 ∨ ¬ k.reads.isEmpty then none
  else
    let at_ (o : Nat × Nat × Bool) : Option Holder := ((m.blk.half h).holderAt k.q k.slot o.1 k.ctx o.2.1).map (·.2)
    match p.firsts.findSome? (fun o => ((at_ o).bind (·.denied)).map (fun d => (d, o.2.1))) with
    | some (d, va) => some (m.chanProt h c d va, .ended)
    | none =>
      if p.firsts.any (fun o => match at_ o with
        | some e => e.st == 0 && !e.absent
        | none => false) then some (m, .wait)
      else none

/-- DMA_BURST_ISSUE (R193, R195, R450): the active channel of an engine issues its next burst; a channel that must wait gives the engine up,
and one whose Dispatch record is not acknowledged issues nothing (R62). -/
def Mach.burstIssue (m : Mach) (h : HalfId) (e : Nat) : Mach :=
  if (m.blk.half h).pwr.dmaGroups ≤ e / 4 then m
  else match m.activate h e with
  | (m1, none) => m1
  | (m1, some c) =>
    let p := (m1.chan h c).disp.pkt
    if m1.blk.ackOwed (m1.chan h c).q (m1.chan h c).slot then m1
    else
    let r := match m1.firstSpans h c with
      | some e => e
      | none => match m1.begin h c false with
        | (m2, some b) => (m2, b)
        | (m2, none) => if p.takesSlot ∧ ¬ p.isSend then m2.issueGroup h c else m2.chanStep h c false
    match r with
    | (m2, .more) => m2.halfWay h c (m2.chan h c).totalOut
    | (m2, .wait) =>
      let k := m2.chan h c
      if k.st = 3 ∨ k.st = 4 ∨ k.st = 5 then { m2 with blk := m2.blk.upd h (fun x => x.offEngine c) } else m2
    | (m2, .done) => (Mach.chanClose { m2 with blk := m2.blk.upd h (fun x => x.offEngine c) } h c false)
    | (m2, .ended) => (Mach.chanStop { m2 with blk := m2.blk.upd h (fun x => x.offEngine c) } h c false)

/-- READ_COMPLETION (R202, R204, R214, R505): the oldest burst's data returns: 0 as read, 1 the host refuses it, 2 an error of the
mesh port, 3 poisoned. -/
def Mach.readCompletion (m : Mach) (h : HalfId) (c res : Nat) : Mach :=
  let k := m.chan h c
  match k.reads with
  | [] => m
  | b :: rest =>
    let m0 := m.updChan h c (fun e => { e with reads := rest })
    let p := k.disp.pkt
    if res = 1 then
      let (tr, at_) := match b.src with
        | .host a t _ => (t, a)
        | _ => (true, b.srcVa)
      let m1 : Mach := { m0 with blk := m0.blk.upd h (fun x => x.raiseErr 4 (c / 8) 0x11 2 1 at_ (some k.part) c) }
      let m2 := if tr then m1.chanEnd h c 0x21 0x09 k.done b.srcVa else m1.chanUnrec h c 0 6 b.srcVa
      m2.chanStop h c false
    else if p.takesSlot ∧ ¬ p.isSend then
      { m0 with blk := m0.blk.upd h (fun x => { x with xfm := { x.xfm with slots := x.xfm.slots.map (fun s =>
          if s.2.chan = c then (s.1, { s.2 with ready := true }) else s) } }) }
    else match b.dst with
      | none => m0
      | some dp =>
        let s : Piece := { place := b.src, va := b.srcVa, n := b.n }
        match m0.readPart h c s with
        | (m1, .ok bs po) =>
          let bad := po || res == 2 || res == 3
          let m2 := m1.deliver h c { place := dp, va := b.dstVa, n := b.n } bs (if bad then some (if po then firstPoison m1.mem s else b.srcVa) else none) false
          (m2.pieceDone h c).halfWay h c k.totalOut
        | (m1, _) => m1.chanStop h c false

/-- ENGINE_ISSUE (R219): an engine runs the group of one ready slot whose partition holds a transform-cycle lease: PRIORITY first,
round robin within a class. -/
def Mach.engineIssue (m : Mach) (h : HalfId) (e : Nat) : Mach :=
  let x := m.blk.half h
  let q := e / 4
  let last := Tab.dflt x.xfm.turn e 3
  let order := (List.range 4).map (fun i => (last + 1 + i) % 4)
  let ready := order.filter (fun s => match Tab.look x.xfm.slots (e * 4 + s) with
    | some v => v.ready
    | none => false)
  let ask := ready.foldl (fun (y : Half) s => match Tab.look x.xfm.slots (e * 4 + s) with
    | some v => if y.hasLease 3 q v.part then y else y.askLease 3 q v.part
    | none => y) x
  let can := ready.filter (fun s => match Tab.look x.xfm.slots (e * 4 + s) with
    | some v => x.hasLease 3 q v.part
    | none => false)
  let prio := can.filter (fun s => match Tab.look x.xfm.slots (e * 4 + s) with
    | some v => v.prio
    | none => false)
  match (if prio.isEmpty then can else prio) with
  | [] => { m with blk := m.blk.upd h (fun _ => ask) }
  | s :: _ =>
    match Tab.look x.xfm.slots (e * 4 + s) with
    | none => m
    | some v =>
      let b := m.blk.upd h (fun _ =>
        let y := ask.takeLease 3 q v.part 1
        { y with xfm := { y.xfm with turn := Tab.put y.xfm.turn e s, slots := Tab.put y.xfm.slots (e * 4 + s) { v with ready := false } } })
      let m1 : Mach := { m with blk := b }
      match m1.chanStep h v.chan false with
      | (m2, .more) => m2.halfWay h v.chan (m2.chan h v.chan).totalOut
      | (m2, .ended) => m2.chanStop h v.chan false
      | (m2, .done) => m2.chanClose h v.chan false
      | (m2, .wait) => m2

/-- WRITE_ACK (R203): a device or coherent write of a channel is acknowledged; for a packet that is gone, one of the writes that later
operations wait for. -/
def Mach.writeAck (m : Mach) (h : HalfId) (q slot : Nat) : Mach :=
  match (m.blk.half h).chanOf q slot with
  | some c => m.updChan h c (fun e => { e with acks := e.acks - 1 })
  | none => { m with blk := m.blk.upd h (fun x => { x with dma := { x.dma with owed := x.dma.owed.map (fun o =>
      if o.q = q ∧ o.slot = slot then { o with acks := o.acks - 1 } else o) } }) }

/-- PACKET_COMPLETE (R202, R203): a channel whose packet has nothing left to issue or to wait for completes it. -/
def Mach.packetComplete (m : Mach) (h : HalfId) (c : Nat) : Mach :=
  let k := m.chan h c
  if k.st = 0 then m
  else if k.ends.isSome then m.chanStop h c false
  else
    let p := k.disp.pkt
    let issued := if p.isElt then decide (p.elt.count ≤ k.pos) else if p.isRoute then decide (p.rTok ≤ k.pos)
      else if p.isSend then (decide (p.arg 2 ≤ k.pos) && k.work.arrived.isEmpty) || k.work.stop != 0 else decide (k.total ≤ k.pos)
    if issued ∧ k.reads.isEmpty then m.chanClose h c false else m

/-- FLUSH_READ_COMPLETE (R203, R205): the oldest flush read on a port completes and clears every mark set before it; the packet or
half-way point that waited goes on. -/
def Mach.flushComplete (m : Mach) (h : HalfId) (pp : Nat) : Mach :=
  let x := m.blk.half h
  match x.dma.flushes.find? (fun f => f.port == pp) with
  | none => m
  | some f =>
    let b := m.blk.upd h (fun y => { y with dma := { y.dma with
      flushes := y.dma.flushes.erase f
      marks := y.dma.marks.filter (fun k => !f.marks.contains k)
      owed := match f.what with
        | .order q slot => y.dma.owed.map (fun o => if o.q = q ∧ o.slot = slot then { o with flush := Tab.del o.flush pp } else o)
        | _ => y.dma.owed } })
    let m1 : Mach := { m with blk := b }
    match f.what with
    | .half c => if (b.half h).flushing (.half c) then m1 else m1.halfCause h c
    | .chan c => if (b.half h).flushing (.chan c) then m1 else m1.packetComplete h c
    | _ => m1

/-- FLUSH_READ_REFUSED (R204): the host answers the oldest flush read on a port with Unsupported Request or Completer Abort; kind 0x12. A
packet's own flush ends it with PROTECTION 0x09; one for an ordered operation marks it; no mark is cleared. -/
def Mach.flushRefused (m : Mach) (h : HalfId) (pp : Nat) : Mach :=
  let x := m.blk.half h
  match x.dma.flushes.find? (fun f => f.port == pp) with
  | none => m
  | some f =>
    let b := m.blk.upd h (fun y =>
      let z : Half := { y with dma := { y.dma with
        flushes := y.dma.flushes.erase f
        owed := match f.what with
          | .order q slot => y.dma.owed.map (fun o => if o.q = q ∧ o.slot = slot then { o with flush := Tab.del o.flush pp } else o)
          | _ => y.dma.owed
        orderErr := match f.what with
          | .order q slot => y.dma.orderErr ++ [(q, slot)]
          | _ => y.dma.orderErr } }
      (z.bump 0x0200030 63 32 1).raiseErr 4 0 0x12 2 1 f.addr)
    let m1 : Mach := { m with blk := b }
    let stop (c : Nat) : Mach :=
      let k := m1.chan h c
      (m1.chanEnd h c 0x21 0x09 (if k.disp.pkt.isElt ∨ k.disp.pkt.isRoute then k.done else k.pos) 0).chanStop h c false
    match f.what with
    | .chan c => stop c
    | .half c => stop c
    | _ => m1

/-- IDLE_FLUSH (R205): the latest write on a port has had no flush read behind it, and one is issued. -/
def Half.idleFlush (x : Half) (pp : Nat) : Half :=
  match Tab.look x.dma.last pp with
  | some (_, a, false) => x.flushFor [(pp, a)] .idle
  | _ => x

/-- MESH_WRITE_ERROR (R505): a channel's write is answered with an error: PROTECTION 0x0E at the failing piece, kind 0x13. -/
def Mach.meshWriteError (m : Mach) (h : HalfId) (c : Nat) : Mach :=
  let k := m.chan h c
  if k.st = 0 then m
  else
    let m1 : Mach := { m with blk := m.blk.upd h (fun x => x.raiseErr 4 (c / 8) 0x13 3 2 0 (some k.part) c) }
    ((m1.chanEnd h c 0x21 0x0E k.done (k.dstAt k.done)).updChan h c (fun e => { e with reads := [] })).chanStop h c false

/-- CHANNEL_PARITY_ERROR (R215): the engine leaves service and the packets on its channels complete POISONED; kind 0x15. -/
def Mach.channelParity (m : Mach) (h : HalfId) (c : Nat) : Mach :=
  let e := c / 8
  let x := m.blk.half h
  let b := m.blk.upd h (fun y =>
    let z : Half := { y with dma := { y.dma with map := if bitAt y.dma.map e then y.dma.map - 2 ^ e else y.dma.map } }
    z.raiseErr 4 e 0x15 3 0 0 none c)
  let hit := (x.dma.chans.filter (fun k => k.1 / 8 == e)).map (·.1)
  hit.foldl (fun k n => ((k.chanEnd h n 0x22 0 (k.chan h n).done 0).updChan h n (fun q => { q with reads := [] })).chanStop h n false) { m with blk := b }

/-- ENGINE_PARITY_ERROR (R258): the transform engine leaves service and the packets in its slots complete POISONED with FAULT_ADDR 0; kind
0x17. -/
def Mach.engineParity (m : Mach) (h : HalfId) (e : Nat) : Mach :=
  let x := m.blk.half h
  let hit := (x.xfm.slots.filter (fun s => s.1 / 4 == e)).map (fun s => s.2.chan)
  let b := m.blk.upd h (fun y =>
    let z : Half := { y with xfm := { y.xfm with map := if bitAt y.xfm.map e then y.xfm.map - 2 ^ e else y.xfm.map } }
    z.raiseErr (5 + e / 4) (e % 4) 0x17 3)
  hit.foldl (fun k n => ((k.chanEnd h n 0x22 0 (k.chan h n).done 0).updChan h n (fun q => { q with reads := [] })).chanStop h n false) { m with blk := b }

end Sys2Proof.Machine
end

