-- ==== Sys2Proof/Machine/Inval.lean ====
section
/-! DEFINITION. Withdrawal of translations (R179 to R189): what an invalidation clears on a half, the acknowledgements it waits for, and
what it completes. -/
namespace Sys2Proof.Machine

/-- End of the virtual address space (R133). -/
def vaTop : Nat := 2 ^ 57

/-- Chiplet identifier of a logical die port of a half (R21). -/
def Half.chipId (x : Half) (d : Nat) : Nat := x.id.num * 8 + d
/-- A die port whose chiplet is ADMITTED. -/
def Half.admitted (x : Half) (d : Nat) : Bool := (Tab.dflt x.dies d {}).st == 1

/-- A die port holds a grant of a context (R152). -/
def Half.granted (x : Half) (ctx chip : Nat) : Bool := match x.ctx? ctx with
  | some c => bitAt c.dieAllow chip
  | none => false

/-- Die ports of the pair granted a context whose pin ranges meet a range (Table 07-5). -/
def Half.chipsMeet (x : Half) (ctx : Nat) (all : Bool) (lo hi : Nat) : List Nat :=
  (List.range 16).filter (fun d => x.obj.pins.any (fun p => (all || p.ctx == ctx) && decide (p.lo < hi) && decide (lo < p.hi) &&
    x.granted p.ctx d))

/-- An invalidation meets a range of a context. -/
def InvJob.hits (j : InvJob) (ctx va n : Nat) : Bool :=
  (j.allCtx || j.ctx == ctx) && decide (va < j.hi) && decide (j.lo < va + n)

/-- A holder's span is in use: its channel has a burst out under it (R182). -/
def Half.inUse (x : Half) (d : Holder) : Bool := match Tab.look x.dma.chans d.eng with
  | some k => k.reads.any (fun b => d.span.covers d.span.ctx b.srcVa || (b.dst.isSome && d.span.covers d.span.ctx b.dstVa))
  | none => false

/-- Translate a withdrawn holder entry again, in class 1 (R182). -/
def Half.retrans (x : Half) (n : Nat) : Half :=
  match Tab.look x.xlt.holders n with
  | none => x
  | some d =>
    let part := ((x.ctx? d.span.ctx).map (·.part)).getD 0
    match x.tlbHit d.span.ctx d.span.va d.write with
    | some s => { x with xlt := { x.xlt with holders := Tab.put x.xlt.holders n { d with span := s, st := 1, ats := [], atsOut := none } } }
    | none =>
      { x with xlt := { x.xlt with
          holders := Tab.put x.xlt.holders n { d with span := { ctx := d.span.ctx, va := d.span.va, pages := 0 }, st := 0, stale := false,
                                                      ats := [], atsOut := none }
          queue := x.xlt.queue ++ [{ ctx := d.span.ctx, va := d.span.va, write := d.write, cls := 1, part := part, who := .holder n }] } }

/-- Withdraw one holder entry: a TRANSLATING one goes stale, a HELD one in use becomes RECALLED, another is translated again at
once (R181, R182). -/
def Half.recall (x : Half) (n : Nat) (d : Holder) : Half :=
  if d.st = 0 then { x with xlt := { x.xlt with holders := Tab.put x.xlt.holders n { d with stale := true, atsOut := none } } }
  else if d.st = 1 ∧ x.inUse d then { x with xlt := { x.xlt with holders := Tab.put x.xlt.holders n { d with st := 2 } } }
  else if d.st = 1 then x.retrans n
  else x

/-- Holder entries an invalidation withdraws: by device address, or with ATS_ONLY by untranslated host address. -/
def Half.invHolders (x : Half) (j : InvJob) : List (Nat × Holder) :=
  x.xlt.holders.filter (fun e => if j.ats then e.2.st == 1 && e.2.span.target == 1 && j.hits e.2.span.ctx e.2.span.frame e.2.span.bytes
    else j.hits e.2.span.ctx e.2.span.va (max e.2.span.bytes 4096))

/-- What an invalidation clears on a half at once (Table 07-5, R280). -/
def Half.invClear (x : Half) (j : InvJob) : Half :=
  let hs := x.invHolders j
  if j.ats then
    hs.foldl (fun y e => if y.inUse e.2 then { y with xlt := { y.xlt with holders := Tab.put y.xlt.holders e.1 { e.2 with st := 2 } } }
      else { y with xlt := { y.xlt with holders := Tab.put y.xlt.holders e.1 { e.2 with ats := [], atsOut := none } } }) x
  else
    let y : Half := { x with xlt := { x.xlt with
      iotlb := x.xlt.iotlb.filter (fun s => !j.hits s.ctx s.va s.bytes)
      wcache := x.xlt.wcache.filter (fun e => !j.hits e.ctx e.va (2 ^ (12 + 9 * e.level)))
      walks := x.xlt.walks.map (fun w => (w.1, if j.hits w.2.miss.ctx (w.2.miss.va / 4096 * 4096) 4096 then { w.2 with stale := true } else w.2)) } }
    let gone (r : Resident) : Bool := j.hits r.ctx r.va r.data.length
    let y1 : Half := { y with xfm := { y.xfm with progs := y.xfm.progs.filter (fun r => !gone r), tables := y.xfm.tables.filter (fun r => !gone r) } }
    let z := hs.foldl (fun (k : Half) e => k.recall e.1 e.2) y1
    ((x.obj.ctxs.map (·.1)).filter (fun c => j.allCtx || j.ctx == c)).foldl (fun (k : Half) c => k.advance c true) z

/-- Invalidation messages out on a die port. -/
def Half.xtOut (x : Half) (d : Nat) : Nat :=
  x.xlt.invs.foldl (fun n j => n + (j.ports.filter (fun p => p.1 == d)).length) 0

/-- The block of pages an XT_INV names: the smallest aligned power of two that covers the range (R184). -/
def coverLog2 (lo hi : Nat) : Nat :=
  let a := lo / 4096
  let b := (hi - 1) / 4096
  ((List.range 46).find? (fun k => a / 2 ^ k == b / 2 ^ k)).getD 45

/-- Send an XT_INV of an invalidation on a die port, or leave it waiting: at most 16 are out on each (R184). -/
def Blk.xtInvSend (b : Blk) (h : HalfId) (id d : Nat) : Blk :=
  let x := b.half h
  match x.xlt.invs.find? (fun j => j.id == id) with
  | none => b
  | some j =>
    let upd (f : InvJob → InvJob) (y : Half) : Half := { y with xlt := { y.xlt with invs := y.xlt.invs.map (fun k => if k.id = id then f k else k) } }
    if 16 ≤ x.xtOut d then b.upd h (upd (fun k => { k with queued := k.queued ++ [d] }))
    else
      let tag := x.xlt.itag % 256
      let k := coverLog2 j.lo j.hi
      let b1 := b.upd h (fun y => upd (fun k => { k with ports := k.ports ++ [(d, tag)], queued := k.queued.erase d })
        { y with xlt := { y.xlt with itag := (tag + 1) % 256 } })
      b1.emit (.xtInv h d tag j.ctx (j.lo / 4096 / 2 ^ k * 2 ^ k * 4096) k (j.lo == 0 && j.hi == vaTop))

/-- The flags of an INVAL (Table 07-7). -/
def InvJob.flags (j : InvJob) : Nat :=
  b2n j.allCtx + 2 * b2n (j.lo == 0 && j.hi == vaTop) + 4 * b2n j.phase1 + 8 * b2n j.ats

/-- Send the INVAL of an invalidation to the partner: at most 32 are out (R185). -/
def Blk.invalSend (b : Blk) (h : HalfId) (id : Nat) : Blk :=
  let x := b.half h
  match x.xlt.invs.find? (fun j => j.id == id && j.unsent) with
  | none => b
  | some j =>
    if 32 ≤ x.tdm.invalOut.length then b
    else
      let seq := x.tdm.invalSeq % 65536
      let b1 := b.upd h (fun y =>
        let xu : XltUnit := { y.xlt with invs := y.xlt.invs.map (fun k => if k.id = id then { k with seq := seq, unsent := false } else k) }
        { y with xlt := xu, tdm := { y.tdm with invalSeq := (seq + 1) % 65536, invalOut := y.tdm.invalOut ++ [seq] } })
      b1.sendFrame h (.inval seq j.flags j.ctx j.lo (if j.lo = 0 ∧ j.hi = vaTop then 0 else (j.hi - j.lo) / 4096))

/-- Every on-die acknowledgement of an invalidation has come. -/
def Half.invDie (x : Half) (j : InvJob) : Bool :=
  j.holders.all (fun n => match Tab.look x.xlt.holders n with
    | some d => d.st != 2
    | none => true)

/-- Every acknowledgement has come (R186). -/
def Half.invReady (x : Half) (j : InvJob) : Bool :=
  x.invDie j && j.ports.isEmpty && j.queued.isEmpty && !j.phase0 && !j.phase1 && !j.unsent

/-- A context drops the pages it had mapped of an object (R120). -/
def Blk.dropMapped (b : Blk) (h : HalfId) (ctx off pages : Nat) : Blk :=
  b.updMem h off (fun o => { o with mappers := o.mappers.filterMap (fun e =>
    if e.1 = ctx then (if e.2 ≤ pages then none else some (e.1, e.2 - pages)) else some e) })

/-- What an invalidation completes (R180, R185, R187, R188, R189, R291, R292). -/
def Blk.invFinish (b : Blk) (h : HalfId) (j : InvJob) : Blk :=
  let b1 := b.upd h (fun y => { y with xlt := { y.xlt with invs := y.xlt.invs.filter (fun k => k.id != j.id) } })
  let st := if j.fenced.isSome then 0x32 else 0
  let d := j.fenced.getD 0
  match j.what with
  | .packet ref => (b1.finish h ref st d 0 0 (b.trailerOf ref)).release h ref.q ref.slot
  | .unmap ref _ =>
    let b2 := j.drops.foldl (fun k e => k.dropMapped h j.ctx e.1 e.2) b1
    (b2.finish h ref st d 0 0 (b.trailerOf ref)).release h ref.q ref.slot
  | .unpin ref => (b1.finish h ref 0 0 0 0 (b.trailerOf ref)).release h ref.q ref.slot
  | .free ref off =>
    let b2 := b1.updMem h off (fun o => { o with owned := false, freeing := false })
    (b2.finish h ref 0 0 0 0 (b.trailerOf ref)).release h ref.q ref.slot
  | .register => b1.upd h (fun y =>
      let z := (y.setFld 0x0100118 0 0 0).setFld 0x0100118 1 1 1
      match j.fenced with
      | some p => (z.setFld 0x0100118 2 2 1).setFld 0x0100118 23 16 p
      | none => z)
  | .ats port tag => b1.emit (.invalidateDone port tag)
  | .partner _ _ => b1
  | .drain c => b1.updCtx h c (fun e => { e with drain := e.drain.map (fun k => { k with step := 5 }) })
  | .window w => b1.updObj h (fun o => { o with windows := Tab.modify o.windows w (fun k =>
      { k with busy := false, done := true, disabling := false, enabled := !k.disabling }) })
  | .none => j.drops.foldl (fun k e => k.dropMapped h j.ctx e.1 e.2) b1

/-- Acknowledge to the partner what is complete of the invalidations it asked for (R185). -/
def Blk.invPoke (b : Blk) (h : HalfId) : Blk :=
  (b.half h).xlt.invs.foldl (fun k j =>
    match j.what with
    | .partner seq chips =>
      let x := k.half h
      if x.invDie j ∧ ¬ j.acked0 then
        let k1 := k.sendFrame h (.invalAck seq 0 0 0)
        if ¬ chips then k1.invFinish h j
        else if j.ports.isEmpty ∧ j.queued.isEmpty then
          (k1.sendFrame h (.invalAck seq 1 (b2n j.fenced.isSome) (j.fenced.getD 0))).invFinish h j
        else k1.upd h (fun y => { y with xlt := { y.xlt with invs := y.xlt.invs.map (fun e => if e.id = j.id then { e with acked0 := true } else e) } })
      else if j.acked0 ∧ j.ports.isEmpty ∧ j.queued.isEmpty then
        (k.sendFrame h (.invalAck seq 1 (b2n j.fenced.isSome) (j.fenced.getD 0))).invFinish h j
      else k
    | _ => k) b

/-- Start an invalidation on a half (R181, R186): the half clears its own places, messages go to its granted die ports `chips` and to
its partner, and with nothing outstanding it completes at once. -/
def Blk.invStart (b : Blk) (h : HalfId) (j0 : InvJob) (chips : List Nat) : Blk :=
  let x := b.half h
  let mine := (List.range 8).filter (fun d => chips.contains (x.chipId d) && x.admitted d)
  let theirs := (List.range 8).filter (fun d => chips.contains (h.other.num * 8 + d) && (b.half h.other).admitted d)
  let fwd : Bool := match j0.what with
    | .partner _ _ => false
    | _ => x.tdm.st == .paired && b.linked
  let j : InvJob := { j0 with id := x.xlt.invNext, holders := (x.invHolders j0).map (·.1), phase0 := fwd, phase1 := fwd && !theirs.isEmpty,
                              unsent := fwd }
  let b1 := b.upd h (fun y =>
    let z := y.invClear j
    { z with xlt := { z.xlt with invs := z.xlt.invs ++ [j], invNext := j.id + 1 } })
  let b2 := mine.foldl (fun k d => k.xtInvSend h j.id d) b1
  let b3 := (b2.invalSend h j.id).invPoke h
  match (b3.half h).xlt.invs.find? (fun k => k.id == j.id) with
  | none => b3
  | some k => if (b3.half h).invReady k then b3.invFinish h k else b3

/-- An invalidation that the partner asked for. -/
def InvJob.foreign (j : InvJob) : Bool := match j.what with
  | .partner _ _ => true
  | _ => false

/-- INVALIDATION_COMPLETE (R186): the oldest invalidation of a half with every acknowledgement completes. -/
def Blk.invComplete (b : Blk) (h : HalfId) : Blk :=
  match (b.half h).xlt.invs.find? (fun j => (b.half h).invReady j && !j.foreign) with
  | some j => b.invFinish h j
  | none => b.invPoke h

/-- HOLDER_RECALL_ACK (R182): the engine has finished its burst under a recalled span and acknowledges; the rest is translated again. -/
def Blk.recallAck (b : Blk) (h : HalfId) (n : Nat) : Blk :=
  match Tab.look (b.half h).xlt.holders n with
  | none => b
  | some d =>
    if d.st ≠ 2 ∨ (b.half h).inUse d then b
    else (b.upd h (fun y => y.retrans n)).invPoke h

/-- XT_INV_ACK (R184): a chiplet acknowledges; a message that waits for the port goes out. `fence` records a port fenced under R187. -/
def Blk.xtInvAck (b : Blk) (h : HalfId) (d tag : Nat) (fence : Bool) : Blk :=
  let x := b.half h
  let b1 := b.upd h (fun y => { y with xlt := { y.xlt with invs := y.xlt.invs.map (fun j =>
    if j.ports.contains (d, tag) then { j with ports := j.ports.erase (d, tag), fenced := if fence then some (x.chipId d) else j.fenced } else j) } })
  let next := (b1.half h).xlt.invs.find? (fun j => j.queued.contains d)
  let b2 := match next with
    | some j => b1.xtInvSend h j.id d
    | none => b1
  b2.invPoke h

/-- INVAL (R185): a half clears its own places for its partner. -/
def Blk.inval (b : Blk) (h : HalfId) (seq flags ctx va pages : Nat) : Blk :=
  let whole := bitAt flags 1
  let all := bitAt flags 0
  let lo := if whole then 0 else va
  let hi := if whole then vaTop else va + pages * 4096
  let chips := if bitAt flags 2 then (b.half h).chipsMeet ctx all lo hi else []
  b.invStart h { ctx := ctx, allCtx := all, lo := lo, hi := hi, ats := bitAt flags 3, what := .partner seq (bitAt flags 2) } chips

/-- INVAL_ACK (R185): the partner has acknowledged a phase; a waiting INVAL goes out. -/
def Blk.invalAck (b : Blk) (h : HalfId) (seq phase result port : Nat) : Blk :=
  let b1 := b.upd h (fun y =>
    let js := y.xlt.invs.map (fun j =>
      if j.seq = seq ∧ (j.phase0 ∨ j.phase1) ∧ ¬ j.unsent then
        let f := if result = 1 then some port else j.fenced
        if phase = 0 then { j with phase0 := false, fenced := f } else { j with phase1 := false, fenced := f }
      else j)
    let still := js.any (fun j => j.seq == seq && !j.unsent && (j.phase0 || j.phase1))
    { y with xlt := { y.xlt with invs := js }, tdm := { y.tdm with invalOut := if still then y.tdm.invalOut else y.tdm.invalOut.erase seq } })
  match (b1.half h).xlt.invs.find? (fun j => j.unsent) with
  | some j => b1.invalSend h j.id
  | none => b1

/-- With the partner gone, what it owed counts as acknowledged, and what it asked for is dropped (Table 03-7). -/
def Blk.invPartnerGone (b : Blk) (h : HalfId) : Blk :=
  b.upd h (fun y =>
    let own := (y.xlt.invs.filter (fun j => !j.foreign)).map (fun j => { j with phase0 := false, phase1 := false, unsent := false })
    { y with xlt := { y.xlt with invs := own }, tdm := { y.tdm with invalOut := [] } })

/-- REGISTER_INVALIDATE (R188): a write of 1 to WQ_XLT_INV_CTRL.GO. -/
def Blk.regInval (b : Blk) (h : HalfId) : Blk :=
  let x := b.half h
  let base := x.regFld 0x0100100 56 12 * 4096
  let pages := x.regFld 0x0100108 35 0
  let ctx := x.regFld 0x0100110 19 0
  let all := x.regFld 0x0100110 32 32 == 1
  let known : Bool := match x.ctx? ctx with
    | some c => c.st != .destroyed
    | none => false
  if x.regFld 0x0100118 0 0 = 1 then b
  else if (pages ≠ 0 ∧ vaTop < base + pages * 4096) ∨ (¬ all ∧ (ctx = 0 ∨ ¬ known)) then b.upd h (fun y => y.setBit 0x0100118 3)
  else
    let lo := if pages = 0 then 0 else base
    let hi := if pages = 0 then vaTop else base + pages * 4096
    (b.upd h (fun y => y.setBit 0x0100118 0)).invStart h { ctx := if all then 0 else ctx, allCtx := all, lo := lo, hi := hi, what := .register }
      (x.chipsMeet ctx all lo hi)

/-- ATS_INVALIDATE_REQUEST (R189): host spans that match are recalled and their ATS results discarded, on both halves. -/
def Blk.atsInval (b : Blk) (port tag : Nat) (pasid : Option Nat) (addr pages : Nat) (whole : Bool) : Blk :=
  let h := HalfId.ofPort port
  let j : InvJob := { ctx := pasid.getD 0, allCtx := pasid.isNone || whole, lo := addr / 4096 * 4096, hi := addr / 4096 * 4096 + pages * 4096,
                      ats := true, what := .ats port tag }
  (b.upd h (fun y => y.bump 0x0100140 31 0 1)).invStart h j []

end Sys2Proof.Machine
end

