-- ==== Sys2Proof/Machine/WinCtl.lean ====
section
/-! DEFINITION. Enabling and disabling coherent windows, and what containment of a host port does to them (R290 to R293, R317, R320). -/
namespace Sys2Proof.Machine

/-- The FEATURES mask in force: the common level while paired (R58). -/
def Half.features (x : Half) : Nat := if x.tdm.st = .paired then x.tdm.common else x.fuse.features

/-- Glaze service (R463), as opposed to Bisque service. -/
def Half.glaze (x : Half) : Bool := x.boot.stage == 4

/-- A frame belongs to a SHARED allocation of a partition, or in carve-out mode lies in its carve-out (Table 11-2). -/
def Half.sharedFrame (x : Half) (part f : Nat) : Bool :=
  if (x.part part).allocator then x.obj.mems.any (fun o => o.kind == .alloc && o.shared && o.part == part && o.frames.contains (frameAddr f))
  else x.framePart f == some part

/-- The enable checks in the order of Table 11-2 (cause 3 also R408): the first cause that applies. -/
def Half.winRefuse (x : Half) (b : Blk) (n : Nat) (w : Window) : Option Nat :=
  let on := x.obj.windows.filter (fun k => k.2.enabled && k.1 != n)
  let home := b.half (if w.half = 0 then .A else .B)
  let owner : Bool := match x.ctx? w.owner with
    | some c => (c.st == .created || c.st == .active) && c.part == w.part
    | none => false
  let f := x.features
  if on.any (fun k => k.2.kind == w.kind && meets k.2.base k.2.size w.base w.size) then some 1
  else if w.base % 2 ^ 21 ≠ 0 ∨ w.size % 2 ^ 21 ≠ 0 ∨ w.size = 0 ∨ 2 ^ 40 < w.size ∨ w.kind = 0 ∨
      (w.kind = 1 ∧ (dieBytes < inDie w.base + w.size ∨ dieOf w.base ≠ w.half)) then some 2
  else if w.kind = 1 ∧ (¬ (List.range (w.size / 2 ^ 21)).all (fun i => x.sharedFrame w.part (w.base / 2 ^ 21 + i)) ∨
      (w.hostShare ∧ (x.part w.part).sealed)) then some 3
  else if ¬ owner then some 4
  else if 64 ≤ on.length then some 5
  else if home.tdm.st ≠ .paired ∧ home.tdm.st ≠ .solo ∧ home.tdm.st ≠ .freewheel then some 6
  else if ¬ bitAt f 0 ∨ (w.kind = 2 ∧ ¬ bitAt f 1) ∨ (w.hostShare ∧ ¬ bitAt f 2) ∨ ¬ x.glaze then some 7
  else none

/-- Set or clear COHERENT in the leaves of a range of a context that lie in a window's frames (R291). -/
def Mach.markLeaves (m : Mach) (h : HalfId) (ctx lo hi : Nat) (w : Window) (on : Bool) : Mach :=
  m.overRange (fun k va =>
    let (l, host, table, e) := k.peekAt h ctx va 0
    let sp := 2 ^ (12 + 9 * (l - 1))
    if eValid e ∧ eLeaf e ∧ eTarget e = 0 ∧ w.base ≤ eFrame e ∧ eFrame e < w.base + w.size then
      ({ k with mem := k.mem.setWord host (table + levelIdx va l * 8) (putBits e 9 9 (b2n on)) }, sp)
    else (k, sp)) lo hi ((hi - lo) / 4096 + 1)

/-- Every leaf of a window's frames that the block wrote itself (R104, R157). -/
def Mach.winLeaves (m : Mach) (h : HalfId) (w : Window) (on : Bool) : Mach :=
  let x := m.blk.half h
  let m1 := x.obj.mems.foldl (fun k o => if o.frames.any (fun f => meets f (2 ^ 21) w.base w.size) then k.markLeaves h o.ctx o.va (o.va + o.span) w on else k) m
  x.obj.maps.foldl (fun k r => k.markLeaves h r.ctx r.lo r.hi w on) m1

/-- Start the withdrawal of every translation of every context for a window (R291). -/
def Mach.winWithdraw (m : Mach) (h : HalfId) (n : Nat) (w : Window) (on : Bool) : Mach :=
  let m1 := if w.kind = 1 then m.winLeaves h w on else m
  let b := m1.blk.updObj h (fun o => { o with windows := Tab.modify o.windows n (fun k => { k with recalled := true }) })
  { m1 with blk := b.invStart h { allCtx := true, lo := 0, hi := vaTop, what := .window n } ((b.half h).chipsMeet 0 true 0 vaTop) }

/-- The half that applies a window operation: half A while the pair is linked (R290). -/
def Blk.winHalf (b : Blk) (h : HalfId) : HalfId := if b.linked then .A else h

/-- WINDOW_ENABLE (R290, R291): ENABLE is written for the selected window. -/
def Mach.winEnable (m : Mach) (via : Via) : Mach :=
  let h := m.blk.winHalf (m.blk.viaHalf via)
  let x := m.blk.half h
  let n := (m.blk.half (m.blk.viaHalf via)).selector via 0x0400010 % 64
  let w := Tab.dflt x.obj.windows n {}
  if x.obj.windows.any (fun k => k.2.busy) then m
  else
    let set (f : Window → Window) : Blk := m.blk.updObj h (fun o => { o with windows := Tab.upd o.windows n {} f })
    match (if w.enabled then some 8 else x.winRefuse m.blk n w) with
    | some c => { m with blk := set (fun k => { k with done := true, err := true, errCause := c }) }
    | none =>
      let w1 : Window := { w with enabled := true, busy := true, done := false, disabling := false, recalled := false }
      let b := (set (fun _ => w1)).upd h (fun y => y.journal (m.clk.now h) via.origin 6 n 0 1)
      Mach.winWithdraw { m with blk := b } h n w1 true

/-- A window's lines have an open transaction, or are held (R292). -/
def Window.owns (w : Window) (n line : Nat) : Bool :=
  if lineHost line then w.kind == 2 && lineWin line == n
  else w.kind == 1 && decide (w.base ≤ lineOff line) && decide (lineOff line < w.base + w.size)

/-- Move a disable on (R292): with no transaction open on the window's lines, every held line is recalled, and then the withdrawal of R291
follows. -/
def Mach.winPoke (m : Mach) (h : HalfId) (n : Nat) : Mach :=
  let x := m.blk.half h
  let w := Tab.dflt x.obj.windows n {}
  if ¬ w.disabling ∨ ¬ w.busy ∨ w.recalled ∨ x.coh.txns.any (fun t => w.owns n t.line && t.way != some ioHold) then m
  else
    let lines := ((x.coh.tags.map (fun t => t.2.1)) ++ (x.coh.hrd.map (fun e => e.2.line))).eraseDups.filter (fun l => w.owns n l)
    if lines.isEmpty then m.winWithdraw (m.blk.winHalf h) n w false
    else lines.foldl (fun k l => k.cohAdmit h { op := 0xA0, line := l, who := .recall n }) m

/-- Every window whose disable is in progress; then the I/O requests that waited for one that has ended. -/
def Mach.winPokeAll (m : Mach) : Mach :=
  let go (k : Mach) (h : HalfId) : Mach :=
    (((k.blk.half h).obj.windows.filter (fun w => w.2.disabling && w.2.half == h.num)).map (·.1)).foldl (fun k n => k.winPoke h n) k
  ((go (go m .A) .B).ioRelease .A).ioRelease .B

/-- Start disabling a window (R292, R293). -/
def Mach.winStop (m : Mach) (h : HalfId) (o : Origin) (n : Nat) : Mach :=
  let w := Tab.dflt (m.blk.half h).obj.windows n {}
  if ¬ w.enabled ∨ w.disabling then m
  else
    let b := (m.blk.updObj h (fun k => { k with windows := Tab.modify k.windows n (fun e =>
      { e with disabling := true, busy := true, done := false, recalled := false }) })).upd h (fun y => y.journal (m.clk.now h) o 6 n 1 0)
    Mach.winPoke { m with blk := b } (if w.half = 0 then .A else .B) n

/-- WINDOW_DISABLE (R290, R292). -/
def Mach.winDisable (m : Mach) (via : Via) : Mach :=
  let h := m.blk.winHalf (m.blk.viaHalf via)
  let n := (m.blk.half (m.blk.viaHalf via)).selector via 0x0400010 % 64
  if (m.blk.half h).obj.windows.any (fun k => k.2.busy) then m else m.winStop h via.origin n

/-- A write of WQ_COH_WIN_CFG (0), BASE (1) or SIZE (2) of the selected window; an enabled one refuses it with cause 8 (R290). -/
def Blk.winConfig (b : Blk) (via : Via) (which v : Nat) : Blk :=
  let h := b.winHalf (b.viaHalf via)
  let n := (b.half (b.viaHalf via)).selector via 0x0400010 % 64
  b.updObj h (fun o => { o with windows := Tab.upd o.windows n {} (fun w =>
    if w.enabled then { w with err := true, errCause := 8 }
    else if which = 0 then
      { w with kind := if bits v 63 62 = 3 then w.kind else bits v 63 62, hostShare := bitAt v 61, half := bits v 60 60, port := bits v 59 59,
               part := bits v 55 50, owner := bits v 19 0 }
    else if which = 1 then { w with base := bits v 63 21 * 2 ^ 21 }
    else { w with size := bits v 40 21 * 2 ^ 21 }) })

/-- A host port enters containment (R317, R320): directory entries naming only it are freed, lines in A poisoned; back-invalidates out on
it end as if answered; the proxy recalls and discards every copy of its HOST windows, whose OWNER is lost with cause 0x03 if one was
in E or M. -/
def Mach.cohContain (m : Mach) (h : HalfId) (port : Nat) : Mach :=
  let x := m.blk.half h
  let only := x.coh.hrd.filter (fun e => e.2.ports == [port])
  let m1 := (only.filter (fun e => e.2.st == 2)).foldl (fun k e => k.linePoison h e.2.line) m
  let ids := (x.coh.txns.filter (fun t => t.bis.contains port)).map (·.id)
  let m2 := m1.updCoh h (fun u => { u with
    hrd := u.hrd.filterMap (fun e => if e.2.ports = [port] then none else some (e.1, { e.2 with ports := e.2.ports.filter (· != port) }))
    txns := u.txns.map (fun t => if t.bis.contains port then { t with bis := t.bis.erase port, poison := true } else t) })
  let m3 := ids.foldl (fun k id => k.cohPoke h id) m2
  (x.obj.windows.filter (fun w => w.2.enabled && w.2.kind == 2 && w.2.half == h.num && w.2.port == port)).foldl (fun (k : Mach) w =>
    let tags := (k.blk.half h).coh.tags.filter (fun t => w.2.owns w.1 t.2.1)
    let dirty := tags.any (fun t => decide (3 ≤ t.2.2))
    let out := tags.foldl (fun (b : Blk) t => b.cohSend h (tagPort t.1) { ty := 0x53, tid := 127, line := t.2.1 }) k.blk
    let b := out.updCoh h (fun u => { u with tags := u.tags.filter (fun t => !w.2.owns w.1 t.2.1) })
    { k with blk := if dirty then
        { b with lossQ := b.lossQ ++ [{ ctx := w.2.owner, cause := 3, master := 2 ^ 15 + w.2.part * 512, access := 2, addr := w.2.base, half := h }] }
      else b }) m3

end Sys2Proof.Machine
end

