-- ==== Sys2Proof/Machine/Context.lean ====
section
/-! DEFINITION. A context's states, loss and destruction (R105 to R110), stopping its packets, its queues' end (R85), and the signal
trailers of completed packets (R79). -/
namespace Sys2Proof.Machine

/-- Rewrite a context pair-wide and mirror its record (R61). -/
def Blk.putCtx (b : Blk) (h : HalfId) (id : Nat) (f : Ctx → Ctx) : Blk :=
  let b1 := b.updCtx h id f
  match (b1.half h).ctx? id with
  | some c => b1.mirror h (.context id c)
  | none => b1

/-- A context changes state: mirrored, and journalled with its origin (R105). -/
def Blk.ctxState (b : Blk) (t : Clk) (h : HalfId) (o : Origin) (id : Nat) (st : CtxState) (f : Ctx → Ctx) : Blk :=
  let old := (((b.half h).ctx? id).map (·.st.num)).getD 4
  (b.putCtx h id (fun c => { f c with st := st })).upd h (fun x => x.journal (t.now h) o 2 id old st.num)

/-- The admin queue as the origin of a change: ORIGIN_ID is its ring port (Table 18-8). -/
def Blk.adminOrigin (b : Blk) : Origin := ⟨1, (b.getQ 0).ringPort⟩

/-- Queues of a half's context, by number: pair-wide while PAIRED, else those whose home the half is. -/
def Blk.ctxQueues (b : Blk) (h : HalfId) (id : Nat) : List Nat :=
  ((b.half h).obj.queues.map (·.1)).filter (fun q =>
    (b.getQ q).ctx == id && (b.getQ q).st != .absent && q != 0 && ((b.half h).tdm.st == .paired || b.queueHome q == h))

/-- What a half forgets of a packet that is no channel's: its waiter, and who waits for its invalidation or fabric request. -/
def Half.forget (y : Half) (q slot : Nat) : Half :=
  let mine (r : PktRef) : Bool := r.q == q && r.slot == slot
  { y with
    waiters := y.waiters.filter (fun w => !mine w.ref)
    xlt := { y.xlt with invs := y.xlt.invs.map (fun j => match j.what with
      | .packet r => if mine r then { j with what := .none } else j
      | .unmap r _ => if mine r then { j with what := .none } else j
      | .unpin r => if mine r then { j with what := .none } else j
      | _ => j) }
    fab := { y.fab with reqs := y.fab.reqs.map (fun e => match e.2.what with
      | .fence r => if mine r then (e.1, { e.2 with what := .loss }) else e
      | .open_ r _ => if mine r then (e.1, { e.2 with what := .loss }) else e
      | .close r _ => if mine r then (e.1, { e.2 with what := .loss }) else e
      | _ => e) } }

/-- A dispatched packet is stopped and completes with a status; without `trailer` its signal trailer is not executed. RESULT is the
completed prefix of a channel's packet; a packet whose own ending was already decided with this status keeps its RESULT and FAULT_ADDR. -/
def Mach.abortPacket (m : Mach) (d : Disp) (st det : Nat) (trailer : Bool) : Mach :=
  match d.chan with
  | some c =>
    let m1 := m.updChan d.half c (fun k => { k with reads := [] })
    let k := m1.chan d.half c
    let m2 := if k.disp.pkt.isSend then m1.landed d.half k.ctx (k.disp.pkt.arg 0) else m1
    let rf := match k.ends with
      | some (st', det', r, f) => if st' = st ∧ det' = det then (r, f) else (k.done, 0)
      | none => (k.done, 0)
    m2.chanFinish d.half c st det rf.1 rf.2 false trailer
  | none =>
    let b := (m.blk.upd .A (fun y => y.forget d.ref.q d.ref.slot)).upd .B (fun y => y.forget d.ref.q d.ref.slot)
    { m with blk := (b.finish d.half d.ref st det 0 0 (if trailer then d.pkt.hdr.trailer else none)).release d.half d.ref.q d.ref.slot }

/-- Packets of a queue fetched and not dispatched complete with a status. -/
def Blk.dropFetched (b : Blk) (q st : Nat) (det : Nat := 0) : Blk :=
  (b.getQ q).fetched.foldl (fun k f => k.finish (k.queueHome q) f.ref st det 0 0 none) b

/-- Stop every packet of a context: `own` names the packet that carries another status. Answers how many carried `st`. -/
def Mach.stopPackets (m : Mach) (h : HalfId) (id st det : Nat) (trailer fetched : Bool) (own : Option (Nat × Nat × Nat × Nat)) : Mach × Nat :=
  (m.blk.ctxQueues h id).foldl (fun (acc : Mach × Nat) q =>
    let r := acc.1.blk.getQ q
    let step (a : Mach × Nat) (d : Disp) : Mach × Nat :=
      match own with
      | some (oq, os, ost, odet) =>
        if d.ref.q = oq ∧ d.ref.slot = os then (a.1.abortPacket d ost odet trailer, a.2) else (a.1.abortPacket d st det trailer, a.2 + 1)
      | none => (a.1.abortPacket d st det trailer, a.2 + 1)
    let a1 := r.inflight.foldl step acc
    if fetched then ({ a1.1 with blk := a1.1.blk.dropFetched q st }, a1.2 + r.fetched.length) else a1) (m, 0)

/-- Count a context that a partition loses (R439): with N_LOSS reached within T ms, the partition is due a reset. -/
def Blk.partLoss (b : Blk) (t : Clk) (h : HalfId) (part : Nat) : Blk :=
  let x := b.half h
  let lim := x.regFld 0x0900400 7 0
  let ms := x.regFld 0x0900400 63 32
  if part = 0 ∨ lim = 0 then b
  else
    let e := Tab.dflt x.err.losses part (t.now h, 0)
    let n := if t.now h - e.1 < ms * 1000000 then (e.1, e.2 + 1) else (t.now h, 1)
    let due := decide (lim ≤ n.2)
    let b1 := b.upd h (fun y => { y with err := { y.err with losses := if due then Tab.del y.err.losses part else Tab.put y.err.losses part n } })
    if due ∧ ¬ b1.flrQ.contains part then { b1 with flrQ := b1.flrQ ++ [part] } else b1

/-- The status that the packet which caused a loss carries (Table 05-4). -/
def lossStatus (e : LossEv) : Nat × Nat :=
  if e.cause = 1 then (0x21, 0x0C)
  else if e.cause = 2 then (0x21, 0x0E)
  else if e.cause = 3 then (0x50, e.access)
  else if e.cause = 4 then (0x51, 0)
  else (0x22, 0x30)

/-- The channel's own ending where the packet that caused the loss has one. -/
def Mach.ownEnding (m : Mach) (e : LossEv) : Option (Nat × Nat × Nat × Nat) :=
  e.ref.map (fun r =>
    let s := lossStatus e
    match ((m.blk.half e.half).chanOf r.1 r.2).bind (fun c => (m.chan e.half c).ends) with
    | some (st, d, _, _) => (r.1, r.2, st, d)
    | none => (r.1, r.2, s.1, s.2))

/-- Withdraw every translation of a context (R179): holders, caches, chiplets and the other half. -/
def Blk.ctxWithdraw (b : Blk) (h : HalfId) (id : Nat) (w : InvFor) : Blk :=
  b.invStart h { ctx := id, lo := 0, hi := vaTop, what := w } ((b.half h).chipsMeet id false 0 vaTop)

/-- The holder entries, misses and Page Requests of a context's packets are gone (R107). -/
def Half.dropCtxHolders (x : Half) (id : Nat) : Half := x.dropHolders (fun d => d.span.ctx == id)

/-- A loss of a CREATED or ACTIVE context (R107, R274, R117, R439). -/
def Mach.loseLive (m : Mach) (e : LossEv) (c : Ctx) : Mach :=
  let h := e.half
  let t := m.clk
  let b1 := m.blk.ctxState t h ⟨3, e.ctx⟩ e.ctx .faulted (fun k =>
    { k with lossCause := e.cause, lossMaster := e.master, lossAccess := e.access, lossAddr := e.addr, lossTime := t.now h,
             lossCount := min 255 (k.lossCount + 1) })
  let (m1, n) := Mach.stopPackets { m with blk := b1 } h e.ctx 0x30 0 false true (m.ownEnding e)
  let m2 := (m1.streamsLost h e.ctx c.part).abandon h e.ctx 1
  let b2 := (((m2.blk.updCtx h e.ctx (fun k => { k with lostPackets := k.lostPackets + n })).upd .A (fun y => y.dropCtxHolders e.ctx)).upd
    .B (fun y => y.dropCtxHolders e.ctx)).ctxWithdraw h e.ctx .none
  let b3 := b2.upd h (fun y => y.raiseErr 2 0 0x93 3 e.access e.addr (some c.part) (e.master % 512))
  { m2 with blk := b3.partLoss t h c.part }

/-! ### Destruction (R109) -/

/-- Run a queue's oldest trailers at once (R79): a fence word of a fence area takes the value, a fabric address a remote signal; any
other address stores nothing and is journalled. -/
def Mach.trailerRun (m : Mach) (tr : Trailer) (sync : Bool) : Mach × Bool :=
  let q := tr.ref.q
  let h := m.blk.queueHome q
  let r := m.blk.getQ q
  let (m1, a) := m.fenceAt h q tr.ref.slot r.ctx r.part tr.fence true sync
  match a with
  | .area off => ({ m1 with blk := m1.blk.release h q tr.ref.slot }.fenceApply off tr.value tr.err r.ctx true |>.1, true)
  | .fabric f =>
    let v := tr.value % 2 ^ 63 + (if tr.err then 2 ^ 63 else 0)
    (Mach.fabIssue { m1 with blk := m1.blk.release h q tr.ref.slot } h
      { op := 0x33, addr := f, len := 8, ctx := r.ctx, part := r.part, dst := fabDst f, data := leBytes 8 v, value := v,
        what := .trailer tr.ref }, true)
  | .wait => (m1, false)
  | _ => ({ m1 with blk := (m1.blk.release h q tr.ref.slot).upd h (fun x => x.journal (m.clk.now h) ⟨3, r.ctx⟩ 15 tr.fence 0 tr.value) }, true)

/-- SIGNAL_TRAILER (R79, R96): a completed packet's trailer is executed behind every earlier packet of the queue. -/
def Mach.signalTrailer (m : Mach) (q slot : Nat) (sync : Bool) : Mach :=
  let r := m.blk.getQ q
  match r.trailers.find? (fun t => t.ref.slot == slot) with
  | none => m
  | some tr =>
    match m.orderReady (m.blk.queueHome q) q slot true with
    | (m0, none) => m0
    | (m0, some refused) =>
      let (m1, done) := m0.trailerRun { tr with err := tr.err || refused } sync
      let m2 := m1.orderClear (m.blk.queueHome q) q slot true
      if done then { m2 with blk := m2.blk.modQ q (fun k => { k with trailers := k.trailers.erase tr }) } else m1

/-- A queue's last words before it goes ABSENT: its trailers are executed and its replies and index word written, as far as the port
lets them. -/
def Mach.queueFlush (m : Mach) (q : Nat) : Mach :=
  let r := m.blk.getQ q
  let m1 := r.trailers.foldl (fun (k : Mach) t =>
    let k1 := (k.trailerRun t true).1
    { k1 with blk := k1.blk.modQ q (fun e => { e with trailers := e.trailers.erase t }) }) m
  let m2 : Mach := { m1 with blk := m1.blk.modQ q (fun k => { k with replies := k.replies.map (fun e => { e with waitAck := none }) }) }
  let m3 := r.replies.foldl (fun (k : Mach) _ => k.replyWrite q) m2
  m3.indexWrite q

/-- A queue goes ABSENT (Table 04-11). -/
def Blk.queueGone (b : Blk) (t : Clk) (h : HalfId) (o : Origin) (q : Nat) : Blk :=
  let old := (b.getQ q).st.num
  let b1 := (b.updObj h (fun k => { k with queues := Tab.del k.queues q })).mirror h (.queue q {})
  b1.upd h (fun x => x.journal (t.now h) o 3 q old 0)

/-- A region is released: one reference fewer on each object it meets (R377). -/
def Blk.regionGone (b : Blk) (h : HalfId) (n : Nat) : Blk :=
  match Tab.look (b.half h).obj.regions n with
  | none => b
  | some r =>
    let lo := viewFrame r.off * 2 ^ 21 + r.off % 2 ^ 21
    let meet (o : MemObj) : Bool := o.frames.any (fun f => meets (f + (if o.frames.length = 1 then o.off else 0))
      (if o.frames.length = 1 then o.span else 2 ^ 21) lo r.size)
    (b.updObj h (fun k => { k with regions := Tab.del k.regions n })).dropRefs h (fun o => if meet o then { o with regions := o.regions - 1 } else o)

/-- A context's table pages go back: a table frame without pages takes its default owner again (R157, R124). -/
def Blk.tablesGone (b : Blk) (h : HalfId) (id : Nat) : Blk :=
  let x := b.half h
  let keep := x.obj.tables.filter (fun t => t.ctx != id)
  let frames := ((x.obj.tables.filter (fun t => t.ctx == id)).map (fun t => t.addr / 2 ^ 21)).eraseDups
  let b1 := b.updObj h (fun o => { o with tables := keep })
  (frames.filter (fun f => !keep.any (fun t => t.addr / 2 ^ 21 == f))).foldl (fun k f => k.program h f none) b1

/-- A context's prefetchers end (R282). -/
def Half.ctxPfEnd (x : Half) (id : Nat) : Half :=
  { x with ware := { x.ware with pf := x.ware.pf.filter (fun e => e.2.ctx != id) } }

/-- Steps 5 to 7: the fence area is abandoned, references, regions, tables, keys and queues go, and the context is DESTROYED; CTX_DESTROY
completes OK. A destroyed context leaves no record behind. -/
def Mach.ctxGone (m : Mach) (h : HalfId) (id : Nat) : Mach :=
  match (m.blk.half h).ctx? id with
  | none => m
  | some c =>
    match c.drain with
    | none => m
    | some d =>
      if d.step ≠ 5 ∨ (m.blk.half h).obj.windows.any (fun w => w.2.enabled && w.2.owner == id) then m
      else
        let o := m.blk.adminOrigin
        let m1 := m.abandon h id 2
        let qs := m1.blk.ctxQueues h id
        let m2 := qs.foldl (fun k q => k.queueFlush q) m1
        let b1 := qs.foldl (fun b q => b.queueGone m.clk h o q) m2.blk
        let rs := ((b1.half h).obj.regions.filter (fun r => r.2.ctx == id)).map (·.1)
        let b2 := rs.foldl (fun b n => b.regionGone h n) b1
        let b3 := b2.dropRefs h (fun k => { k with owned := k.owned && k.ctx != id, mappers := k.mappers.filter (fun e => e.1 != id) })
        let b4 := (((b3.tablesGone h id).upd .A (fun x => x.ctxPfEnd id)).upd .B (fun x => x.ctxPfEnd id)).updObj h (fun k =>
          { k with maps := k.maps.filter (fun r => r.ctx != id) })
        let b5 := b4.ctxState m.clk h o id .destroyed (fun e => { e with drain := none, slot0 := {}, slot1 := {} })
        let b6 := (b5.updObj h (fun k => { k with ctxs := Tab.del k.ctxs id })).recompute
        { m2 with blk := match d.reply with
          | some ref => b6.finish (b6.queueHome ref.q) ref 0 0 0 0 none
          | none => b6 }

/-- Step 4: windows the context owns are disabled, its pin ranges and grants removed, and every translation withdrawn (R109, R293,
R338). -/
def Mach.drainWithdraw (m : Mach) (h : HalfId) (id : Nat) : Mach :=
  let o : Origin := ⟨3, id⟩
  let chips := (m.blk.half h).chipsMeet id false 0 vaTop
  let ws := ((m.blk.half h).obj.windows.filter (fun w => w.2.enabled && w.2.owner == id)).map (·.1)
  let m1 := ws.foldl (fun k n => k.winStop h o n) m
  let gs := ((m1.blk.half h).obj.grants.filter (fun g => bitAt g.2 63 && bits g.2 19 0 == id))
  let b1 := gs.foldl (fun b g => b.grantWrite h m.clk o g.1 (g.2 - 2 ^ 63)) m1.blk
  let b2 := (b1.updObj h (fun k => { k with pins := k.pins.filter (fun p => p.ctx != id) })).updCtx h id (fun c =>
    { c with drain := c.drain.map (fun d => { d with step := 4 }) })
  { m1 with blk := b2.invStart h { ctx := id, lo := 0, hi := vaTop, what := .drain id } chips }

/-- Move a destruction on (R109): step 2 waits for packets, streams and fabric requests; at the bound step 3 stops what remains. -/
def Mach.drainGo (m : Mach) (h : HalfId) (id : Nat) (expired : Bool) (st det : Nat) : Mach :=
  match (m.blk.half h).ctx? id with
  | none => m
  | some c =>
    match c.drain with
    | none => m
    | some d =>
      if c.st ≠ .draining then m
      else if d.step = 2 then
        let m1 := m.streamsClose h id c.part false false
        let busy := (m1.blk.ctxQueues h id).any (fun q => !(m1.blk.getQ q).inflight.isEmpty) ||
          (m1.blk.half h).obj.streams.any (fun s => s.ctx == id) ||
          [HalfId.A, HalfId.B].any (fun k => (m1.blk.half k).fab.reqs.any (fun r => r.2.ctx == id))
        if busy ∧ ¬ expired then m1
        else
          let m2 := m1.streamsClose h id c.part true true
          let m3 := (m2.stopPackets h id st det true false none).1
          (m3.drainWithdraw h id).ctxGone h id
      else m.ctxGone h id

/-- A loss event reaches CMD (R107, Table 05-2, Table 05-9). -/
def Mach.lose (m : Mach) (e : LossEv) : Mach :=
  match (m.blk.half e.half).ctx? e.ctx with
  | none => m
  | some c =>
    match c.st with
    | .destroyed => m
    | .faulted => { m with blk := m.blk.putCtx e.half e.ctx (fun k => { k with lossCount := min 255 (k.lossCount + 1) }) }
    | .draining =>
      let b := m.blk.putCtx e.half e.ctx (fun k => { k with lossCount := min 255 (k.lossCount + 1) })
      let (m1, n) := Mach.stopPackets { m with blk := b } e.half e.ctx 0x30 0 false true (m.ownEnding e)
      Mach.drainGo { m1 with blk := m1.blk.updCtx e.half e.ctx (fun k => { k with lostPackets := k.lostPackets + n }) } e.half e.ctx true 0x30 0
    | _ => m.loseLive e c

/-- Step 1 (R109): the context and its queues enter DRAINING; packets fetched and not dispatched complete with CONTEXT_DESTROYED. -/
def Mach.drainStart (m : Mach) (h : HalfId) (o : Origin) (id bound : Nat) (reply : Option PktRef) (quiet : Bool) : Mach :=
  let d : Drain := { start := m.clk.now h, bound := bound, step := 2, reply := reply, quiet := quiet }
  let b1 := m.blk.ctxState m.clk h o id .draining (fun c => { c with drain := some d })
  let b2 := (b1.ctxQueues h id).foldl (fun b q =>
    (b.dropFetched q 0x34).modQ q (fun k => { k with st := .draining, fetching := none, stopCause := 0 })) b1
  { m with blk := b2 }

/-- CTX_DRAIN_COMPLETE: a destruction whose packets, streams and fabric requests have finished goes on. -/
def Mach.drainComplete (m : Mach) (h : HalfId) (id : Nat) : Mach := m.drainGo h id false 0x32 1

/-- A queue's drain is done: nothing of it is fetched or in flight (R85 step 4); QUEUE_DESTROY completes with its final consumer index. -/
def Mach.queueDrained (m : Mach) (h : HalfId) (q : Nat) : Mach :=
  let r := m.blk.getQ q
  match r.drain with
  | none => m
  | some d =>
    if r.inflight.isEmpty ∧ r.fetched.isEmpty then
      let m1 := m.queueFlush q
      let ci := (m1.blk.getQ q).cidx
      let b := m1.blk.queueGone m.clk h m.blk.adminOrigin q
      { m1 with blk := match d.reply with
        | some ref => b.finish (b.queueHome ref.q) ref 0 0 ci 0 none
        | none => b }
    else m

/-- DRAIN_BOUND_EXPIRY of a context (R109 step 3). -/
def Mach.drainExpiry (m : Mach) (h : HalfId) (id : Nat) : Mach := m.drainGo h id true 0x32 1

/-- DRAIN_BOUND_EXPIRY of a queue (R85 step 3): packets still running, and those fetched behind them, complete with TIMEOUT, DETAIL
0x01. -/
def Mach.queueExpiry (m : Mach) (h : HalfId) (q : Nat) : Mach :=
  let r := m.blk.getQ q
  if r.drain.isNone then m
  else
    let m1 := r.inflight.foldl (fun k d => k.abortPacket d 0x32 1 true) m
    Mach.queueDrained { m1 with blk := m1.blk.dropFetched q 0x32 1 } h q

end Sys2Proof.Machine
end

