-- ==== Sys2Proof/Machine/Power.lean ====
section
/-! DEFINITION. Supplies, sprint, heat and island power states of a half (R20, R29, R43 to R45, R445 to R455). -/
namespace Sys2Proof.Machine

/-- One step of the CRC-8 of R44: polynomial 0x07, most significant bit first. -/
def crc8Bit (c : Nat) (bit : Bool) : Nat :=
  let top := c.testBit 7 != bit
  let s := (c * 2) % 256
  if top then Nat.xor s 7 else s

/-- CRC-8 over bits [31:8] of a supervisor frame, bit 31 first (R44). -/
def supCrc (frame : Nat) : Nat := ((List.range 24).map (fun i => frame.testBit (31 - i))).foldl crc8Bit 0

/-- TYPE, SEQ, VALUE of a supervisor frame (Table 02-8). -/
def supType (f : Nat) : Nat := bits f 31 28
def supValue (f : Nat) : Nat := bits f 23 8

/-- A received supervisor frame counts as valid: its CRC is right and its type is an inbound one (Table 02-9). -/
def supValid (f : Nat) : Bool :=
  supCrc f == f % 256 && decide (1 ≤ supType f) && decide (supType f ≤ 4)

/-- A frame the block sends on SUP_TXD (Table 02-8), with the next SEQ. -/
def Blk.supSend (b : Blk) (h : HalfId) (ty value : Nat) : Blk :=
  let seq := (b.half h).pwr.txSeq % 16
  let body := ty * 2 ^ 28 + seq * 2 ^ 24 + (value % 65536) * 256
  (b.upd h (fun x => { x with pwr := { x.pwr with txSeq := (seq + 1) % 16 } })).emit (.supervisor h ty seq (value % 65536) (supCrc body))

/-- SUPERVISOR_FRAME_DISCARD (R44): a frame with a bad CRC, a low stop bit or a reserved type is discarded and counted. -/
def Half.supDiscard (x : Half) (f : Nat) (stopOk : Bool) : Half :=
  if supValid f ∧ stopOk then x else x.bump 0x0A00020 31 0 1

/-- The recovery test's conditions hold (R448). -/
def Half.recoveryCond (x : Half) : Bool :=
  !x.pins.pwrWarn && !x.pins.pwrFail && (x.pwr.telemetryLost || decide (40000 ≤ x.pwr.vin))

/-- Start, keep or break the recovery test (R448). -/
def Half.recoveryUpdate (x : Half) (now : Nat) : Half :=
  if (x.pwr.hold ∨ x.pwr.failHold) ∧ x.recoveryCond then
    { x with pwr := { x.pwr with recovering := some (x.pwr.recovering.getD now) } }
  else { x with pwr := { x.pwr with recovering := none } }

/-- TELEMETRY_VOLTAGE (R44, R45, R445, R448). -/
def Half.telemetryVoltage (x : Half) (now f : Nat) : Half :=
  if ¬ supValid f ∨ supType f ≠ 1 then x.supDiscard f (supType f == 1)
  else
    let v := supValue f
    let roll := decide (now - x.pwr.interval ≥ 1000000000)
    let p := { x.pwr with
      vin := v, telemetryLost := false,
      vinMin := if roll then x.pwr.runMin else x.pwr.vinMin,
      iinMax := if roll then x.pwr.runMax else x.pwr.iinMax,
      runMin := if roll ∨ x.pwr.runMin = 0 then v else min x.pwr.runMin v,
      runMax := if roll then x.pwr.iin else x.pwr.runMax,
      interval := if roll then now else x.pwr.interval }
    { x with pwr := p }.recoveryUpdate now

/-- TELEMETRY_CURRENT (R44, R445). -/
def Half.telemetryCurrent (x : Half) (f : Nat) : Half :=
  if ¬ supValid f ∨ supType f ≠ 2 then x.supDiscard f (supType f == 2)
  else
    let v := supValue f
    { x with pwr := { x.pwr with iin := v, runMax := max x.pwr.runMax v } }

/-- Nanoseconds a quad has sprinted in the 2 s before a moment (R29: sliding window). -/
def sprintUsed (q : Quad) (now : Nat) : Nat :=
  let lo := now - 2000000000
  let past := q.past.foldl (fun a e => a + (e.2 - max e.1 lo)) 0
  match q.sprint with
  | some s => past + (now - max s lo)
  | none => past

/-- A strict partition exists (R395). -/
def Half.anyStrict (x : Half) : Bool := x.obj.parts.any (fun p => p.2.strict)

/-- The wear rule of R471 refuses sprint for a quad's island. -/
def Half.wearRefuses (x : Half) (q : Nat) : Bool :=
  let i := x.island (5 + q)
  let allowance := x.regFld 0x0A20000 15 8
  decide (i.powered * 3600000000000 * (100 + allowance) < i.wear * 100) || (x.quad q).noSprint

/-- Sprint may be granted to a quad (R29, R45, R395, R446, R450, R451, R471, R473; sprint needs Glaze service, Table 18-2). -/
def Half.sprintAllowed (x : Half) (now q : Nat) : Bool :=
  let k := x.quad q
  let i := x.island (5 + q)
  decide (q < 4) && decide (sprintUsed k now < 200000000) && !x.pwr.hold && i.moveTo.isNone && i.plan == 1 &&
  !x.pwr.telemetryLost && decide (k.barUntil ≤ now) && !k.hot && !x.anyStrict && !x.boot.sprintRefused && !x.wearRefuses q &&
  k.sprint.isNone && k.notice.isNone && x.boot.stage == 4

/-- SPRINT_REQUEST (R29): a granted request sends the load-step pre-notice of 6 W for the quad; another is refused. -/
def Blk.sprintRequest (b : Blk) (t : Clk) (h : HalfId) (q : Nat) : Blk :=
  let x := b.half h
  if x.sprintAllowed (t.now h) q then
    let seq := x.pwr.txSeq % 16
    ((b.supSend h 8 (12 * 256 + q)).upd h (fun y => (y.bump 0x0A00028 31 0 1).updQuad q (fun k => { k with notice := some (seq, t.now h), acked := none })))
  else b

/-- LOAD_STEP_ACK (R29, Table 02-9): the stage acknowledges the notice of a quad. -/
def Half.loadStepAck (x : Half) (now f : Nat) : Half :=
  if ¬ supValid f ∨ supType f ≠ 3 then x.supDiscard f (supType f == 3)
  else
    let q := bits (supValue f) 1 0
    match (x.quad q).notice with
    | some (seq, _) => if seq = bits (supValue f) 11 8 then x.updQuad q (fun k => { k with acked := some now }) else x
    | none => x

/-- SPRINT_ENTRY (R29): the acknowledged quad goes to 2.8 GHz and its refills are rescaled. -/
def Half.sprintEntry (x : Half) (now q : Nat) : Half :=
  if (x.quad q).acked.isSome ∧ (x.quad q).notice.isSome ∧ ¬ x.pwr.hold ∧ q < 4 then
    ((x.updQuad q (fun k => { k with notice := none, acked := none, sprint := some now })).updIsland (5 + q) (fun i => { i with plan := 0 })).recompute
  else x

/-- SPRINT_EXIT (R29): the quad returns to 2.4 GHz, a load release is sent, the refills are restored and the exit is journalled
with its duration and reason (1 budget, 2 hot spot, 3 stage limit, 4 hold, 5 telemetry loss). -/
def Blk.sprintExit (b : Blk) (t : Clk) (h : HalfId) (q reason : Nat) : Blk :=
  match ((b.half h).quad q).sprint with
  | none => b
  | some s =>
    let now := t.now h
    (b.supSend h 9 (12 * 256 + q)).upd h (fun x =>
      (((x.updQuad q (fun k => { k with sprint := none, past := (s, now) :: k.past, sprintNs := k.sprintNs + (now - s) })).updIsland (5 + q)
        (fun i => { i with plan := 1 })).recompute).journal now fwOrigin 7 (5 + q) (now - s) reason)

/-- A sprint awaiting its acknowledgement is abandoned, counted and journalled (R29, R450). -/
def Half.sprintAbandon (x : Half) (now q : Nat) : Half :=
  if (x.quad q).notice.isSome then
    ((x.updQuad q (fun k => { k with notice := none, acked := none })).bump 0x0A00028 63 32 1).journal now fwOrigin 7 (5 + q) 1 1
  else x

/-- SPRINT_ACK_TIMEOUT (R29): no acknowledgement within 100 µs. -/
def Half.sprintAckTimeout (x : Half) (now q : Nat) : Half :=
  if (x.quad q).acked.isNone then x.sprintAbandon now q else x

/-- BROWNOUT_HOLD_ENTRY (R446, R447): PWR_WARN has been high for 200 ns. -/
def Blk.holdEntry (b : Blk) (t : Clk) (h : HalfId) : Blk :=
  let now := t.now h
  if (b.half h).pwr.hold then
    b.upd h (fun x => { x with pins := { x.pins with pwrWarn := true } }.recoveryUpdate now)
  else
    let b1 := (List.range 4).foldl (fun bb q => (bb.upd h (fun x => x.sprintAbandon now q)).sprintExit t h q 4) b
    let b2 := b1.upd h (fun x =>
      let y := { x with pins := { x.pins with pwrWarn := true },
                        pwr := { x.pwr with hold := true, holdStart := now, vinAtEntry := x.pwr.vin, recovering := none } }
      let y1 := (List.range 4).foldl (fun z q => z.updQuad q (fun k => { k with issue := min k.issue 4, ramping := false })) y
      let y2 := ((y1.recompute).setBit 0x0A00000 12).bump 0x0A00030 31 0 1
      let y3 := (y2.raiseErr 12 0 0x80 2).journal now fwOrigin 13 0 0 y.pwr.vinAtEntry
      { y3 with jnl := { y3.jnl with headSaved := y3.jnl.head } })
    b2.alertCause h 2

/-- BROWNOUT_HOLD_RELEASE (R447, R448): the recovery test has been met; dispatch resumes and the quads' issue ramps. -/
def Half.holdRelease (x : Half) (now : Nat) : Half :=
  if x.pwr.hold ∧ x.pwr.recovering.isSome ∧ x.recoveryCond then
    let len := (now - x.pwr.holdStart) / 1000
    let y := { x with pwr := { x.pwr with hold := false, recovering := none } }
    let y1 := (List.range 4).foldl (fun z q => z.updQuad q (fun k => { k with ramping := decide (k.issue < 16) })) y
    (y1.setFld 0x0A00030 63 32 (max (x.regFld 0x0A00030 63 32) len)).journal now fwOrigin 13 0 1 len
  else x

/-- PWR_WARN_FALL (R448): PWR_WARN or PWR_FAIL goes low. -/
def Half.pwrWarnFall (x : Half) (now : Nat) (failLine : Bool) : Half :=
  let pins := if failLine then { x.pins with pwrFail := false } else { x.pins with pwrWarn := false }
  { x with pins := pins }.recoveryUpdate now

/-- PWR_FAIL (R449): PWR_FAIL has been high for 200 ns. -/
def Half.pwrFail (x : Half) (now : Nat) : Half :=
  let y := { x with pins := { x.pins with pwrFail := true },
                    pwr := { x.pwr with failHold := true, recovering := none },
                    boot := { x.boot with causes := 6 :: x.boot.causes } }
  ((y.setBit 0x0A00000 14).raiseErr 12 0 0x85 4).journal now fwOrigin 13 1 0 y.pwr.vin

/-- Quads a TYPE 0x4 frame names: one, or all for 0b11 (Table 02-9). -/
def limitQuads (v : Nat) : List Nat := if bits v 1 0 = 3 then [0, 1, 2, 3] else [bits v 1 0]

/-- STAGE_CURRENT_LIMIT (R450): named quads leave sprint and are barred for 2 s. -/
def Blk.stageLimit (b : Blk) (t : Clk) (h : HalfId) (f : Nat) : Blk :=
  if ¬ supValid f ∨ supType f ≠ 4 then b.upd h (fun x => x.supDiscard f (supType f == 4))
  else
    let b1 := (limitQuads (supValue f)).foldl (fun bb q =>
      (bb.sprintExit t h q 3).upd h (fun x => x.updQuad q (fun k => { k with barUntil := t.now h + 2000000000 }))) b
    b1.upd h (fun x => (x.setBit 0x0A00000 13).raiseErr 12 0 0x83 0)

/-- TELEMETRY_LOSS (R45): no valid TYPE 0x1 frame for 300 µs. -/
def Blk.telemetryLoss (b : Blk) (t : Clk) (h : HalfId) : Blk :=
  if (b.half h).pwr.telemetryLost then b
  else
    let b1 := (List.range 4).foldl (fun bb q => bb.sprintExit t h q 5) b
    b1.upd h (fun x =>
      let y := (x.bump 0x0A00020 63 32 1).raiseErr 12 0 0x81 2
      -- during recovery the 10 ms rule applies from the loss (Table 17-6)
      { y with pwr := { y.pwr with telemetryLost := true, recovering := none } }.recoveryUpdate (t.now h))

/-- The issue limit that hold and throttle allow a quad, in sixteenths (R446, R451: the lower of the two applies). -/
def Half.issueCap (x : Half) (q : Nat) : Nat := if x.pwr.hold then 4 else if (x.quad q).throttled then 8 else 16

/-- ISSUE_RAMP_STEP (R450): one cycle in sixteen more for a ramping quad; after deep idle, one more group of DMA engines
(quad number 4). -/
def Half.rampStep (x : Half) (q : Nat) : Half :=
  if q = 4 then { x with pwr := { x.pwr with dmaGroups := min 4 (x.pwr.dmaGroups + 1) } }
  else if (x.quad q).ramping then
    let n := min (x.issueCap q) ((x.quad q).issue + 1)
    (x.updQuad q (fun k => { k with issue := n, ramping := decide (n < x.issueCap q) })).recompute
  else x

/-- The hottest of a list of readings. -/
def hottest (l : List Nat) : Nat := l.foldl max 0

/-- One quad's sensors are read (R451). -/
def Blk.thermalQuad (b : Blk) (t : Clk) (h : HalfId) (q : Nat) (temps : List Nat) : Blk :=
  let x := b.half h
  let limit := x.regFld 0x0A00060 7 0
  let thr := x.regFld 0x0A00060 15 8
  let top := hottest temps
  let k := x.quad q
  let b0 := b.upd h (fun y => y.updQuad q (fun k => { k with sensors := temps }))
  let b1 := if limit ≤ top ∧ ¬ k.hot then
      (b0.sprintExit t h q 2).upd h (fun y => (y.updQuad q (fun k => { k with hot := true })).raiseErr (5 + q) 0 0x83 0)
    else if top + 5 ≤ limit then b0.upd h (fun y => y.updQuad q (fun k => { k with hot := false }))
    else b0
  if thr ≤ top ∧ ¬ k.throttled then
    (b1.upd h (fun y => ((y.updQuad q (fun k => { k with throttled := true, ramping := false, issue := min k.issue 8 })).recompute).journal (t.now h) fwOrigin 13 (16 + q) 0 1)).alertCause h 3
  else if top + 5 ≤ thr ∧ k.throttled then
    b1.upd h (fun y => (y.updQuad q (fun k => { k with throttled := false, ramping := !y.pwr.hold })).journal (t.now h) fwOrigin 13 (16 + q) 1 0)
  else b1

/-- THERMAL_SAMPLE (R451): sixteen quad sensors, quad by quad, then the eight outside the quads. -/
def Blk.thermalSample (b : Blk) (t : Clk) (h : HalfId) (temps : List Nat) : Blk :=
  let b1 := (List.range 4).foldl (fun bb q => bb.thermalQuad t h q ((temps.drop (4 * q)).take 4)) b
  let rest := (temps.drop 16).take 8
  let b2 := b1.upd h (fun x => { x with pwr := { x.pwr with sensors := rest } })
  if (b2.half h).regFld 0x0A00060 15 8 ≤ hottest rest then b2.alertCause h 3 else b2

/-! ### Islands -/

/-- ISLAND_CLOCK_GATE (R452): an island idle for GATE_CYCLES stops its clock. -/
def Half.clockGate (x : Half) (i : Nat) : Half :=
  if i < 14 ∧ (x.island i).st = .run then x.updIsland i (fun s => { s with st := .clockGated }) else x

/-- Retention is permitted for an island (R453). -/
def Half.mayRetain (x : Half) (i : Nat) : Bool :=
  decide (i < 14) && i != 12 && i != 13 &&
  (if i < 2 then (x.port i).lpState == 2 else if i = 10 ∨ i = 11 then x.obj.join.isNone else true)

/-- ISLAND_RETENTION_ENTRY (R452, R453): with RET_EN, a clock-gated island enters RETENTION. -/
def Half.retain (x : Half) (i : Nat) : Half :=
  if x.regFld 0x0A00008 0 0 = 1 ∧ (x.island i).st = .clockGated ∧ x.mayRetain i then
    x.updIsland i (fun s => { s with st := .retention })
  else x

/-- Wake an island (R20, R450): a quad from RETENTION starts its ramp at one cycle in four. -/
def Half.wakeIsland (x : Half) (i : Nat) : Half :=
  let y := if (x.island i).st = .retention ∧ 5 ≤ i ∧ i ≤ 8 then
      (x.updQuad (i - 5) (fun k => { k with issue := min k.issue 4, ramping := true })).recompute
    else x
  y.updIsland i (fun s => { s with st := .run })

/-- Time an entry waits at its destination island before delivery, in ns (R17, R20). -/
def Half.wakeNs (x : Half) (i : Nat) : Nat :=
  match (x.island i).st with
  | .run => 0
  | .clockGated => 64 * 1000 / planMHz i (x.island i).plan
  | .retention => 4000

/-- CROSSING_ENTRY_DELIVERY (R17, R20): an entry reaches an island, wakes it if it sleeps, and is delivered. -/
def Blk.crossing (b : Blk) (h : HalfId) (i : Nat) : Blk :=
  (b.emit (.crossing h i ((b.half h).wakeNs i))).upd h (fun x => x.wakeIsland i)

end Sys2Proof.Machine
end

