-- ==== Sys2Proof/Machine/Margin.lean ====
section
/-! DEFINITION. Cones, margins, plan moves, wear and the Kiln Journal's spill (R27, R28, R469 to R475). -/
namespace Sys2Proof.Machine

/-- Cones of each island, in island order (Table 01-1). -/
def coneCounts : List Nat := [4, 4, 3, 6, 6, 12, 12, 12, 12, 7, 8, 4, 2, 4]

/-- Number of the first Cone of an island. -/
def coneBase (i : Nat) : Nat := (coneCounts.take i).foldl (· + ·) 0

/-- Island a Cone belongs to. -/
def coneIsland (c : Nat) : Nat := ((List.range 14).filter (fun i => decide (coneBase i ≤ c))).length - 1

/-- The readings are taken (R469): a Cone that newly fails its self-check raises kind 0x86. -/
def Half.readCones (x : Half) (rs : List ConeReading) : Half :=
  (List.range 96).foldl (fun y c =>
    match (rs[c]? : Option ConeReading) with
    | none => y
    | some (slack, drift, pass) =>
      let old := Tab.dflt y.cones c {}
      let y1 := { y with cones := Tab.put y.cones c ⟨slack, drift, !pass⟩ }
      if ¬ pass ∧ ¬ old.failed then y1.raiseErr (coneIsland c) 0 0x86 2 0 c else y1) x

/-- An island's margin (R469): the least slack among its Cones that pass, none when all fail. -/
def Half.marginOf (x : Half) (i : Nat) : Option Nat :=
  let cs := ((List.range (coneCounts.getD i 0)).map (fun k => Tab.dflt x.cones (coneBase i + k) {})).filter (fun c => !c.failed)
  match cs with
  | [] => none
  | c :: rest => some (rest.foldl (fun a d => min a d.slack) c.slack)

/-- Floor margin of an island, 4 % of its cycle at the plan in force, in 0.1 ps (R469). -/
def Half.floorOf (x : Half) (i : Nat) : Nat := 400000 / planMHz i (x.island i).plan

/-- Days until the least-squares line through the readings brings a margin to the floor margin (R470); 0xFFFF with no falling
line. Readings are (block time in ns, margin in 0.1 ps). -/
def projectDays (rs : List (Nat × Nat)) (margin floor : Nat) : Nat :=
  let n : Int := rs.length
  let sx : Int := rs.foldl (fun a r => a + (r.1 : Int)) 0
  let sy : Int := rs.foldl (fun a r => a + (r.2 : Int)) 0
  let sxy : Int := rs.foldl (fun a r => a + (r.1 : Int) * (r.2 : Int)) 0
  let sxx : Int := rs.foldl (fun a r => a + (r.1 : Int) * (r.1 : Int)) 0
  let num := n * sxy - sx * sy
  let den := n * sxx - sx * sx
  if den ≤ 0 ∨ 0 ≤ num then 0xFFFF
  else min 0xFFFE ((margin - floor) * den.toNat / (-num).toNat / 86400000000000)

/-- Powered hours of a service life (R470). -/
def serviceHours : Nat := 61320

/-- Re-plan of one island (R470): record the reading, project, decide a move one plan down below the floor margin (or to the floor
plan when every Cone fails), raise the voltage at the floor plan, and journal island, plan, margin and projected days. -/
def Half.replanIsland (x : Half) (now i : Nat) : Half :=
  let s := x.island i
  match x.marginOf i with
  | none =>
    let y := x.updIsland i (fun s => { s with margin := 0, moveTo := if i = 12 ∨ s.plan = 4 then s.moveTo else some 4 })
    y.journal now mgnOrigin 7 i s.plan 0
  | some m =>
    let rs := ((now, m) :: s.readings).take 28
    let fl := x.floorOf i
    let d := projectDays rs m fl
    let low := decide (m * planMHz i s.plan < 400000)
    let next := nextPlan i (if s.plan = 0 then 1 else s.plan)
    let y := x.updIsland i (fun s => { s with
      margin := m, floorMargin := fl, readings := rs, days := d,
      moveTo := if low ∧ next.isSome then next else s.moveTo,
      volSteps := if low ∧ next.isNone ∧ i ≠ 12 then s.volSteps + 1 else s.volSteps })
    let y1 := if low ∧ next.isNone ∧ i ≠ 12 then y.journal now mgnOrigin 7 i s.volSteps (s.volSteps + 1) else y
    let y2 := if 5 ≤ i ∧ i ≤ 8 then
        y1.updQuad (i - 5) (fun k => { k with noSprint := decide (d ≠ 0xFFFF) && decide (d * 24 + s.powered < serviceHours) })
      else y1
    y2.journal now mgnOrigin 7 i s.plan (m + d * 65536)

/-- A re-plan of the half (R470, R473): the Cones are read, every island is planned, the service record is written. `periodic`
ends the refusal of sprint that bring-up without a record leaves. -/
def Half.replan (x : Half) (now : Nat) (rs : List ConeReading) (periodic : Bool) (draw : Nat) : Half :=
  let y := (List.range 14).foldl (fun z i => z.replanIsland now i) (x.readCones rs)
  { y with boot := { y.boot with lastReplan := now, sprintRefused := y.boot.sprintRefused && !periodic, replanRunning := false },
           jnl := { y.jnl with record := Config.serviceRecord draw } }

/-- PLAN_MOVE_CLOCK_SWITCH (R28): outside sprint, the island's clock goes to the decided plan, and the refills of its classes take
effect at the same instant (R24). -/
def Blk.planSwitch (b : Blk) (h : HalfId) (i : Nat) : Blk :=
  match ((b.half h).island i).moveTo with
  | none => b
  | some p =>
    if 5 ≤ i ∧ i ≤ 8 ∧ ((b.half h).quad (i - 5)).sprint.isSome then b
    else
      let forced := decide (((b.half h).island i).margin * planMHz i ((b.half h).island i).plan < 400000)
      let b1 := b.upd h (fun x =>
        ((x.updIsland i (fun s => { s with plan := p, moveTo := none, volPending := some s.plan, readings := [] })).recompute).raiseErr i 0 0x84 0)
      if forced then b1.alertCause h 3 else b1

/-- PLAN_MOVE_VOLTAGE_STEP (R28): the supply steps down and the move is journalled with origin margin planner: NEW holds the plan,
the remaining margin from bit 16 and the projected days from bit 48 (DESIGN CHOICE, log entry 12). -/
def Half.planVoltage (x : Half) (now i : Nat) : Half :=
  match (x.island i).volPending with
  | none => x
  | some old =>
    let s := x.island i
    (x.updIsland i (fun s => { s with volPending := none })).journal now mgnOrigin 7 i old (s.plan + s.margin * 2 ^ 16 + s.days * 2 ^ 48)

/-- WEAR_HOUR (R471): one powered hour, with SPRINT_WEIGHT for the time in sprint. -/
def Half.wearHour (x : Half) (i : Nat) : Half :=
  let sp := if 5 ≤ i ∧ i ≤ 8 then min 3600000000000 (x.quad (i - 5)).sprintNs else 0
  let w := x.regFld 0x0A20000 23 16
  let y := x.updIsland i (fun s => { s with powered := s.powered + 1, wear := s.wear + 3600000000000 - sp + sp * w })
  if 5 ≤ i ∧ i ≤ 8 then y.updQuad (i - 5) (fun k => { k with sprintNs := 0 }) else y

/-- Entries of the journal not yet spilled. -/
def Half.unspilled (x : Half) : Nat := x.jnl.head - x.jnl.spilled

/-- JOURNAL_SPILL (R475): with 12,288 unspilled entries, the oldest 4,096 go to the spill ring of 4,194,304 entries, whose
overwritten entries are counted. A half in brownout hold spills after release (R477). -/
def Half.journalSpill (x : Half) : Half :=
  if x.pwr.hold ∨ x.unspilled < 12288 then x
  else
    let hi := x.jnl.spilled + 4096
    let moved := x.jnl.chip.filter (fun e => decide (x.jnl.spilled ≤ e.seq) && decide (e.seq < hi))
    let all := moved ++ x.jnl.spill
    let lost := all.length - 4194304
    let y := { x with jnl := { x.jnl with spilled := hi, spill := all.take 4194304 } }
    if lost = 0 then y else y.bump 0x0C00010 31 0 lost

end Sys2Proof.Machine
end

