-- ==== Sys2Proof/Machine/Resets.lean ====
section
/-! DEFINITION. Straps, clock and reset inputs, reset kinds and what survives them (R48 to R53, R456 to R458). -/
namespace Sys2Proof.Machine

/-- The registers kept across package warm reset and half reset: the RWS fields; every other field returns to its reset value
(Table 17-4, R13). -/
def keepRws (rs : Tab W64) : Tab W64 :=
  rs.filterMap (fun e =>
    match regAt e.1 with
    | none => none
    | some r =>
      let v := r.flds.foldl (fun a f => match f.acc with
        | .flag | .count | .record => putFld a f.hi f.lo (fld e.2 f.hi f.lo)
        | _ => a) (resetValue e.1)
      if v = resetValue e.1 then none else some (e.1, v))

/-- An island after package warm or half reset: plans, readings and wear are kept (Table 17-4). -/
def Island.afterReset (s : Island) : Island :=
  { plan := if s.plan = 0 then 1 else s.plan, volSteps := s.volSteps, margin := s.margin, floorMargin := s.floorMargin,
    readings := s.readings, days := s.days, wear := s.wear, powered := s.powered }

/-- A half entering package warm or half reset (Table 17-4). -/
def Half.warmReset (x : Half) (kind : ResetKind) : Half :=
  { id := x.id, fuse := x.fuse, pins := x.pins, strap := x.strap, latched := x.latched,
    regs := keepRws x.regs,
    err := { log := x.err.log, logNext := x.err.logNext, sources := x.err.sources, sharedSources := x.err.sharedSources,
             parts := x.err.parts },
    jnl := { x.jnl with chip := if kind = .warm then [] else x.jnl.chip },
    isl := x.isl.map (fun e => (e.1, e.2.afterReset)),
    cones := x.cones,
    quads := x.quads.map (fun e => (e.1, { past := e.2.past, noSprint := e.2.noSprint, sprintNs := e.2.sprintNs })),
    pwr := { vin := x.pwr.vin, vinMin := x.pwr.vinMin, iin := x.pwr.iin, iinMax := x.pwr.iinMax, interval := x.pwr.interval,
             runMin := x.pwr.runMin, runMax := x.pwr.runMax, txSeq := x.pwr.txSeq, telemetryLost := x.pwr.telemetryLost,
             failHold := x.pwr.failHold, recovering := x.pwr.recovering,
             domainsOff := x.pwr.domainsOff, rowsRepaired := x.pwr.rowsRepaired },
    boot := { kind := kind, activeCopy := x.boot.activeCopy, pendingCopy := x.boot.pendingCopy, causes := x.boot.causes,
              refclkLost := x.boot.refclkLost, service := x.boot.service, sprintRefused := x.boot.sprintRefused },
    tdm := { longWindow := x.tdm.longWindow, lock := false },
    sec := { everUnlocked := x.sec.everUnlocked } }

/-- A half entering cold power-on reset: fuses only are kept; pins stay as driven (Table 17-4). -/
def Half.coldReset (x : Half) : Half :=
  { id := x.id, fuse := x.fuse, pins := x.pins, strap := x.strap, boot := { causes := [0] } }

/-- The board-facing outputs are released (R50). -/
def Blk.releaseOutputs (b : Blk) (h : HalfId) : Blk := (b.emit (.alert h false)).emit (.ready h false)

/-- The staged keys of a half's sessions end with the half (R405). -/
def Blk.keysGone (b : Blk) (h : HalfId) : Blk :=
  b.upd h.other (fun y => { y with obj := { y.obj with staged := y.obj.staged.filter (fun e => e.2.half != h) } })

/-- A half enters half reset for a cause bit of WQ_PWR_RESET_CAUSE (R456). -/
def Blk.enterHalfReset (b : Blk) (h : HalfId) (bit : Nat) : Blk :=
  (b.upd h (fun x =>
    let y := x.warmReset .half
    { y with boot := { y.boot with causes := if y.boot.causes.contains bit then y.boot.causes else bit :: y.boot.causes } })).releaseOutputs h |>.keysGone h

/-- LOGIC_PWRGOOD_FALL (R50, R52): cold power-on reset of the half with its always-on region. -/
def Blk.pwrgoodFall (b : Blk) (h : HalfId) : Blk :=
  (b.upd h (fun x => { x with pins := { x.pins with logicPwrgood := false } }.coldReset)).releaseOutputs h |>.keysGone h

/-- LOGIC_PWRGOOD_RISE (R53): the always-on region starts. -/
def Half.pwrgoodRise (x : Half) : Half := { x with pins := { x.pins with logicPwrgood := true } }

/-- PKG_RST_N_ASSERT (R52): package warm reset of both halves. -/
def Blk.pkgReset (b : Blk) : Blk :=
  [HalfId.A, HalfId.B].foldl (fun bb h =>
    (bb.upd h (fun x =>
      let y := { x with pins := { x.pins with pkgRstN := false } }.warmReset .warm
      { y with boot := { y.boot with causes := if y.boot.causes.contains 2 then y.boot.causes else 2 :: y.boot.causes } })).releaseOutputs h) b

/-- HALF_RST_N_ASSERT (R52). -/
def Blk.halfRst (b : Blk) (h : HalfId) : Blk :=
  (b.upd h (fun x => { x with pins := { x.pins with halfRstN := false } })).enterHalfReset h 3

/-- FATAL_HALF_RESET (R440): within 10 µs the half enters half reset. -/
def Blk.fatalHalfReset (b : Blk) (h : HalfId) : Blk :=
  match (b.half h).boot.fatalDue with
  | none => b
  | some bit => b.enterHalfReset h bit

/-- BLK_REFCLK_LOSS (R51): the clock has stopped for more than 1 µs; the half is held in half reset until it returns. -/
def Blk.refclkLoss (b : Blk) (h : HalfId) : Blk :=
  (b.upd h (fun x =>
    { (x.setBit 0x0A00000 15) with pins := { x.pins with refclk := false }, boot := { x.boot with refclkLost := true } })).enterHalfReset h 7

/-- BLK_REFCLK_RETURN (R51). -/
def Half.refclkReturn (x : Half) : Half := { x with pins := { x.pins with refclk := true } }

/-- The orientation in use (R49): the fuse when programmed, the strap otherwise. -/
def Half.orient (x : Half) : Bool := if x.fuse.orientValid then x.fuse.orient else x.latched.orient

/-- A programmed fuse disagrees with the strap (R49). -/
def Half.orientMismatch (x : Half) : Bool := x.fuse.orientValid && (x.fuse.orient != x.latched.orient)

/-- Release is possible: supply and clock present, and after PWR_FAIL the recovery test met (R449, R51, R53). -/
def Half.mayRelease (x : Half) : Bool :=
  x.pins.logicPwrgood && x.pins.refclk && (!x.pwr.failHold || (x.pwr.recovering.isSome && x.recoveryCond))

/-- RESET_RELEASE (R48, R53, R456): PKG_RST_N and HALF_RST_N are high; straps and orientation are latched, the cause bits are set,
and the Bisque ROM starts. -/
def Blk.resetRelease (b : Blk) (t : Clk) (h : HalfId) : Blk :=
  let x := b.half h
  if ¬ x.boot.inReset ∨ ¬ x.mayRelease then
    b.upd h (fun y => { y with pins := { y.pins with pkgRstN := true, halfRstN := true } })
  else
    b.upd h (fun y =>
      let y0 := y.boot.causes.foldl (fun z i => z.setBit 0x0A00038 i) y
      let y1 := { y0 with
        pins := { y0.pins with pkgRstN := true, halfRstN := true }
        latched := y0.strap
        pwr := { y0.pwr with failHold := false, recovering := none, hold := false }
        boot := { y0.boot with inReset := false, released := t.now h, causes := [], stage := 0, refclkLost := false }
        tdm := { y0.tdm with st := if y0.fuse.tandem then .pairing else .solo } }
      let y2 := if y1.orientMismatch then y1.raiseErr 13 0 0xA0 0 else y1
      if y.boot.refclkLost then y2.raiseErr 12 0 0x82 2 else y2)

/-- BISQUE_SERVICE_READY (R53, R462): 80 ms after release, Bisque service is offered and READY_N driven low. -/
def Blk.bisqueReady (b : Blk) (h : HalfId) : Blk :=
  let x := b.half h
  if x.boot.inReset ∨ x.boot.stage ≠ 0 then b
  else (b.upd h (fun y => { y with boot := { y.boot with stage := 1, readyLow := true } })).emit (.ready h true)

/-- MEMORY_TRAINING_COMPLETE (R462): which logical stacks trained. -/
def Half.memTrained (x : Half) (trained : Nat) : Half :=
  { x with boot := { x.boot with memTrained := true, trainedStacks := trained % 16 } }

/-! ### Logical numbers (R54) -/

/-- Logical number of a physical unit under the orientation in use (Table 03-1), for a unit with `n` of its kind. -/
def remap (mirrored : Bool) (n p : Nat) : Nat := if mirrored then n - 1 - p else p

/-- Logical transform engine of physical engine 4q + e (Table 03-1). -/
def remapEngine (mirrored : Bool) (e : Nat) : Nat := if mirrored then 4 * (3 - e / 4) + e % 4 else e

end Sys2Proof.Machine
end

