-- ==== Sys2Proof/Machine/Sha.lean ====
section
/-! DEFINITION. SHA-384, which the manual names for firmware digests and measurements (R403, R406, R464). -/
namespace Sys2Proof.Machine

/-- Round constants. -/
def shaKa : List Nat := [
  0x428A2F98D728AE22, 0x7137449123EF65CD, 0xB5C0FBCFEC4D3B2F, 0xE9B5DBA58189DBBC, 0x3956C25BF348B538,
  0x59F111F1B605D019, 0x923F82A4AF194F9B, 0xAB1C5ED5DA6D8118, 0xD807AA98A3030242, 0x12835B0145706FBE,
  0x243185BE4EE4B28C, 0x550C7DC3D5FFB4E2, 0x72BE5D74F27B896F, 0x80DEB1FE3B1696B1, 0x9BDC06A725C71235,
  0xC19BF174CF692694, 0xE49B69C19EF14AD2, 0xEFBE4786384F25E3, 0xFC19DC68B8CD5B5, 0x240CA1CC77AC9C65,
  0x2DE92C6F592B0275, 0x4A7484AA6EA6E483, 0x5CB0A9DCBD41FBD4, 0x76F988DA831153B5, 0x983E5152EE66DFAB,
  0xA831C66D2DB43210, 0xB00327C898FB213F, 0xBF597FC7BEEF0EE4, 0xC6E00BF33DA88FC2, 0xD5A79147930AA725,
  0x6CA6351E003826F, 0x142929670A0E6E70, 0x27B70A8546D22FFC, 0x2E1B21385C26C926, 0x4D2C6DFC5AC42AED,
  0x53380D139D95B3DF, 0x650A73548BAF63DE, 0x766A0ABB3C77B2A8, 0x81C2C92E47EDAEE6, 0x92722C851482353B ]
def shaKb : List Nat := [
  0xA2BFE8A14CF10364, 0xA81A664BBC423001, 0xC24B8B70D0F89791, 0xC76C51A30654BE30, 0xD192E819D6EF5218,
  0xD69906245565A910, 0xF40E35855771202A, 0x106AA07032BBD1B8, 0x19A4C116B8D2D0C8, 0x1E376C085141AB53,
  0x2748774CDF8EEB99, 0x34B0BCB5E19B48A8, 0x391C0CB3C5C95A63, 0x4ED8AA4AE3418ACB, 0x5B9CCA4F7763E373,
  0x682E6FF3D6B2B8A3, 0x748F82EE5DEFB2FC, 0x78A5636F43172F60, 0x84C87814A1F0AB72, 0x8CC702081A6439EC,
  0x90BEFFFA23631E28, 0xA4506CEBDE82BDE9, 0xBEF9A3F7B2C67915, 0xC67178F2E372532B, 0xCA273ECEEA26619C,
  0xD186B8C721C0C207, 0xEADA7DD6CDE0EB1E, 0xF57D4F7FEE6ED178, 0x6F067AA72176FBA, 0xA637DC5A2C898A6,
  0x113F9804BEF90DAE, 0x1B710B35131C471B, 0x28DB77F523047D84, 0x32CAAB7B40C72493, 0x3C9EBE0A15C9BEBC,
  0x431D67C49C100D4C, 0x4CC5D4BECB3E42B6, 0x597F299CFC657E2A, 0x5FCB6FAB3AD6FAEC, 0x6C44198C4A475817 ]
def shaK : List Nat := shaKa ++ shaKb
/-- The starting value of SHA-384. -/
def shaH : List Nat := [
  0xCBBB9D5DC1059ED8, 0x629A292A367CD507, 0x9159015A3070DD17, 0x152FECD8F70E5939, 0x67332667FFC00B31,
  0x8EB44A8768581511, 0xDB0C2E0D64F98FA7, 0x47B5481DBEFA4FA4 ]

/-- Rotate a 64-bit word right. -/
def ror64 (x n : Nat) : Nat := x / 2 ^ n + x % 2 ^ n * 2 ^ (64 - n)
def shaSum (x a b c : Nat) : Nat := Nat.xor (Nat.xor (ror64 x a) (ror64 x b)) (ror64 x c)
def shaSig (x a b c : Nat) : Nat := Nat.xor (Nat.xor (ror64 x a) (ror64 x b)) (x / 2 ^ c)

/-- Extend the schedule; `w` holds the last sixteen words, oldest first. -/
def shaNext (w : List Nat) : List Nat :=
  w.drop 1 ++ [(shaSig (w.getD 14 0) 19 61 6 + w.getD 9 0 + shaSig (w.getD 1 0) 1 8 7 + w.getD 0 0) % 2 ^ 64]

/-- One round on the eight working words. -/
def shaRound (s : List Nat) (k w : Nat) : List Nat :=
  let a := s.getD 0 0
  let b := s.getD 1 0
  let c := s.getD 2 0
  let e := s.getD 4 0
  let f := s.getD 5 0
  let g := s.getD 6 0
  let ch := Nat.xor (Nat.land e f) (Nat.land (2 ^ 64 - 1 - e) g)
  let maj := Nat.xor (Nat.xor (Nat.land a b) (Nat.land a c)) (Nat.land b c)
  let t1 := s.getD 7 0 + shaSum e 14 18 41 + ch + k + w
  let t2 := shaSum a 28 34 39 + maj
  [(t1 + t2) % 2 ^ 64, a, b, c, (s.getD 3 0 + t1) % 2 ^ 64, e, f, g]

/-- The rounds of a block. -/
def shaRounds : List Nat → List Nat → List Nat → List Nat
  | [], _, s => s
  | k :: ks, w, s => shaRounds ks (shaNext w) (shaRound s k (w.getD 0 0))

/-- Big-endian words of 64 bits. -/
def shaWords : Nat → List Nat → List Nat
  | 0, _ => []
  | n + 1, bs => beNat (bs.take 8) :: shaWords n (bs.drop 8)

/-- Absorb n blocks of 128 bytes. -/
def shaBlocks : Nat → List Nat → List Nat → List Nat
  | 0, _, h => h
  | n + 1, bs, h => shaBlocks n (bs.drop 128) ((h.zip (shaRounds shaK (shaWords 16 bs) h)).map (fun p => (p.1 + p.2) % 2 ^ 64))

/-- The digest of a message, as 48 bytes. -/
def sha384 (msg : List Nat) : List Nat :=
  let n := msg.length
  let pad := (128 - (n + 17) % 128) % 128
  let all := msg ++ [0x80] ++ List.replicate pad 0 ++ beBytes 16 (n * 8)
  ((shaBlocks (all.length / 128) all shaH).take 6).flatMap (fun w => beBytes 8 w)

end Sys2Proof.Machine
end

