-- ==== Sys2Proof/Machine/Boot.lean ====
section
/-! DEFINITION. Firmware images and service records (R464 to R466, R473), chiplet admission (R467, R468), Glaze entry (R462) and the laser
projection of a re-plan (R350). -/
namespace Sys2Proof.Machine

/-! ### Firmware -/

/-- Bytes the pending area holds (R466). -/
def pendingArea : Nat := 768 * 1024 + 256

/-- Body of an image: its code and data (R464). -/
def imageBody (img : List Byte) : List Byte := (img.drop 256).take (byteFld img 11 8 + byteFld img 15 12)

/-- Authentication of an image (R465): 0, or the FW_ERR of the first check that fails. `major` is the FWREV major of a running partner. -/
def Half.fwCheck (x : Half) (major : Option Nat) (img : List Byte) : Nat :=
  let code := byteFld img 11 8
  let data := byteFld img 15 12
  if img.length < 256 ∨ byteFld img 3 0 ≠ 0x37465157 ∨ byteFld img 255 160 ≠ 0 then 1
  else if code < 4096 ∨ 512 * 1024 < code ∨ code % 4096 ≠ 0 ∨ 256 * 1024 < data ∨ data % 4096 ≠ 0 ∨ img.length < 256 + code + data then 5
  else if sha384 (natsOf (imageBody img)) ≠ natsOf ((img.drop 16).take 48) then 2
  else if ¬ Config.sigValid x.fuse.fwKey (img.take 64) ((img.drop 64).take 96) then 3
  else if byteFld img 7 6 < x.fuse.svnMin then 4
  else match major with
    | some v => if byteFld img 5 5 = v then 0 else 6
    | none => 0

/-- FWREV major of a running partner (R465). -/
def Blk.partnerMajor (b : Blk) (h : HalfId) : Option Nat :=
  let y := b.half h.other
  if y.boot.inReset then none else y.boot.running.map (fun i => i.fwrev / 256)

/-- An image refused at authentication: FW_ERR and kind 0x92 (R465). -/
def Half.fwRefuse (x : Half) (code : Nat) : Half :=
  { (x.raiseErr 12 0 0x92 2) with boot := { x.boot with fwErr := code } }

/-- An authenticated image with its header fields. -/
def FwImage.passed (i : FwImage) : FwImage := { i with good := true, last := true, fwrev := byteFld i.bytes 5 4, svn := byteFld i.bytes 7 6 }

/-- The authenticated image starts (R462, R465, R466): it becomes the active copy, its digest is measured, the alias key is derived, and an
OFFLINE half enters STANDBY. -/
def Half.fwStart (x : Half) (now : Nat) (o : Origin) (i : FwImage) (reserve : Bool) : Half :=
  let old := (x.boot.running.map (·.fwrev)).getD 0
  let y := { x with
    boot := { x.boot with running := some i, activeCopy := some i, fwErr := 0, stage := 3, fromReserve := reserve, mctpImage := false,
                          measured := beNat (natsOf ((i.bytes.drop 16).take 48)) }
    sec := { x.sec with alias_ := true }
    tdm := { x.tdm with st := if x.tdm.st = TdmState.offline then TdmState.standby else x.tdm.st } }
  y.journal now o 11 x.id.num old i.fwrev

/-- Images of a half's sources in the order of R465, and whether each comes from the block reserve. -/
def Half.fwSources (x : Half) : List (FwImage × Bool) :=
  let staged := x.boot.pendingCopy.filter (·.last)
  let kept := match x.boot.kind with
    | .half => x.boot.activeCopy
    | .warm => match staged with
      | some i => some i
      | none => x.boot.activeCopy
    | .cold => none
  (kept.toList.map (fun i => (i, true))) ++
  (if x.latched.bootSrc then ((x.boot.mctpIn.filter (·.last)).toList.map (fun i => (i, false))) else (staged.toList.map (fun i => (i, false))))

/-- FIRMWARE_AUTHENTICATE (R462, R465): in Bisque service, without BISQUE_HOLD, the first source that yields an image passing authentication
is started; when one or more images were refused and none passed, the half stays in Bisque. -/
def Blk.fwAuth (b : Blk) (t : Clk) (h : HalfId) : Blk :=
  let x := b.half h
  if x.boot.inReset ∨ x.latched.bisqueHold ∨ ¬ (x.boot.stage = 1 ∨ x.boot.stage = 2 ∨ x.boot.stage = 5) then b
  else
    let judged := x.fwSources.map (fun s => (s, x.fwCheck (b.partnerMajor h) s.1.bytes))
    let bad := judged.takeWhile (fun j => j.2 != 0)
    let y := bad.foldl (fun z j => z.fwRefuse j.2) x
    match judged.find? (fun j => j.2 == 0) with
    | some j => b.upd h (fun _ => y.fwStart (t.now h) fwOrigin j.1.1.passed j.1.2)
    | none => b.upd h (fun _ => if bad.isEmpty then y else { y with boot := { y.boot with stage := 5, mctpIn := none } })

/-- Put a chunk into an image under load. -/
def FwImage.chunk (i : FwImage) (off : Nat) (bs : List Byte) : FwImage :=
  let padded := i.bytes ++ List.replicate (off - i.bytes.length) 0
  { i with bytes := padded.take off ++ bs ++ padded.drop (off + bs.length) }

/-- FW_MCTP_IMAGE (R465): with BOOT_SRC = 1, the management controller delivers bytes of an image. -/
def Half.fwMctp (x : Half) (off : Nat) (bs : List Byte) (last : Bool) : Half :=
  if x.boot.inReset ∨ ¬ x.latched.bootSrc ∨ ¬ (x.boot.stage = 1 ∨ x.boot.stage = 2 ∨ x.boot.stage = 5) ∨ pendingArea < off + bs.length then x
  else
    let old : FwImage := if x.boot.mctpImage then x.boot.mctpIn.getD {} else {}
    { x with boot := { x.boot with stage := 2, mctpImage := !last, mctpIn := some { old.chunk off bs with last := last } } }

/-- IMAGE_SOURCE_TIMEOUT (R465): an image source has delivered nothing for 2 s. -/
def Half.fwTimeout (x : Half) : Half :=
  if x.boot.inReset ∨ x.latched.bisqueHold ∨ ¬ (x.boot.stage = 1 ∨ x.boot.stage = 2) ∨ ¬ x.fwSources.isEmpty then x
  else { x with boot := { x.boot with stage := 5, fwErr := 7, mctpImage := false } }

/-- A service record that is authentic and names this half is kept, and its plans, wear and powered hours apply (R473); before Glaze service
at Glaze entry (R462). -/
def Half.recordApply (x : Half) (r : List Byte) : Half :=
  { x with
    isl := (List.range 14).foldl (fun l i => Tab.upd l i {} (fun s =>
      { s with plan := Config.recordPlan r i, wear := Config.recordWear r i, powered := Config.recordPowered r i })) x.isl
    boot := { x.boot with sprintRefused := false } }

/-- SERVICE_RECORD_RETURN (R473): a record that fails authentication or names another serial is refused. -/
def Half.recordIn (x : Half) (r : List Byte) : Half :=
  if x.boot.inReset ∨ r.length ≠ 4096 ∨ ¬ Config.recordAuthentic x.fuse.serial r then x
  else
    let y := { x with boot := { x.boot with service := true, recordIn := r } }
    if y.boot.stage = 4 then y.recordApply r else y

/-- Without a valid record after a cold power-on reset (R473): plans at nominal, wear as Cone drift implies, sprint refused until the first
periodic re-plan. -/
def Half.recordMissing (x : Half) : Half :=
  { x with
    isl := (List.range 14).foldl (fun l i =>
      let drift := ((List.range (coneCounts.getD i 0)).map (fun k => (Tab.dflt x.cones (coneBase i + k) {}).drift)).foldl max 0
      let hrs := Config.driftHours drift
      Tab.upd l i {} (fun s => { s with plan := 1, wear := hrs * 3600000000000, powered := hrs })) x.isl
    boot := { x.boot with sprintRefused := true } }

/-! ### Chiplet admission -/

/-- One step of the CRC-32 of Table 18-5 (polynomial 0x04C1_1DB7), bit 0 of each byte first. -/
def crc32Bit (c : Nat) (bit : Bool) : Nat :=
  if (c % 2 = 1) ≠ bit then Nat.xor (c / 2) 0xEDB88320 else c / 2
def crc32 (bs : List Byte) : Nat :=
  Nat.xor (bs.foldl (fun c b => (List.range 8).foldl (fun c i => crc32Bit c (bitAt b.toNat i)) c) 0xFFFFFFFF) 0xFFFFFFFF

/-- The checks of an admission with its link up (R467, R468, Table 18-6): 0, or the refusal code. -/
def DiePort.check (d : DiePort) : Nat :=
  let f := byteFld d.desc
  if bitAt d.cap 3 then 9
  else if bitAt d.cap 0 then 2
  else if ¬ bitAt d.cap 1 ∨ ¬ bitAt d.cap 2 ∨ 32 < d.cap / 256 then 3
  else if f 3 0 ≠ 0x44435157 ∨ crc32 (d.desc.take 60) ≠ f 63 60 then 4
  else if f 5 5 ≠ 1 then 8
  else if f 8 8 % 8 ≠ 7 then 5
  else if f 9 9 ≠ 9 ∨ f 10 10 ≠ 16 ∨ f 11 11 ≠ 6 then 6
  else if f 12 12 < 16 ∨ f 13 13 < 64 ∨ f 14 14 < 32 ∨ 16 < f 16 16 then 7
  else 0

/-- An admission that stops (R468): the refusal code, and kind 0x53. -/
def Blk.admitRefuse (b : Blk) (t : Clk) (h : HalfId) (o : Origin) (d code : Nat) : Blk :=
  b.upd h (fun x =>
    let old := (Tab.dflt x.dies d {}).st
    let y := { x with dies := Tab.upd x.dies d {} (fun p => { p with st := 2, cause := code, admitFor := none }) }
    (y.raiseErr 9 d 0x53 0).journal (t.now h) o 12 (h.num * 8 + d) old (2 + code * 256))

/-- Admission of a die port whose link is up (R468): the checks, then its tags, reservations, credits and grants. Answers the refusal code. -/
def Blk.admitPort (b : Blk) (t : Clk) (h : HalfId) (o : Origin) (d : Nat) : Blk × Nat :=
  let x := b.half h
  let p := Tab.dflt x.dies d {}
  let code := p.check
  if code ≠ 0 then (b.admitRefuse t h o d code, code)
  else
    let chip := h.num * 8 + d
    let f := byteFld p.desc
    let b1 := b.upd h (fun y => { y with
      dies := Tab.upd y.dies d {} (fun e => { e with st := 1, cause := 0, vendor := f 7 6, admitFor := none })
      coh := { y.coh with tags := y.coh.tags.filter (fun e => tagPort e.1 != d)
                          resv := y.coh.resv.filter (fun r => r.port != d)
                          cred := Tab.put y.coh.cred d (f 12 12, f 13 13, f 14 14) } })
    let b2 := b1.updObj h (fun ob => { ob with ctxs := ob.ctxs.map (fun e => (e.1, { e.2 with dieAllow := putBits e.2.dieAllow chip chip 0 })) })
    (b2.upd h (fun y => y.journal (t.now h) o 12 chip p.st 1), 0)

/-! ### Glaze entry and re-plans -/

/-- The laser projection of one lane (R350): days until the least-squares line through its daily means reaches the limit; 0xFFFF with no
rising line. -/
def laserDays (means : List Nat) (limit : Nat) : Nat :=
  let pts := means.reverse.zipIdx
  let n : Int := pts.length
  let sx : Int := (pts.map (fun p => (p.2 : Int))).foldl (· + ·) 0
  let sy : Int := (pts.map (fun p => (p.1 : Int))).foldl (· + ·) 0
  let sxx : Int := (pts.map (fun p => (p.2 * p.2 : Int))).foldl (· + ·) 0
  let sxy : Int := (pts.map (fun p => (p.2 * p.1 : Int))).foldl (· + ·) 0
  let den := n * sxx - sx * sx
  let num := n * sxy - sx * sy
  if den ≤ 0 ∨ num ≤ 0 then 0xFFFF
  else
    -- the line at the newest point, times n × den
    let here := sy * den + num * (n * (n - 1) - sx)
    let need := (limit : Int) * n * den - here
    if need ≤ 0 then 0 else min 0xFFFE ((need / (n * num)).toNat)

/-- The laser part of a re-plan (R350): each transmit lane's projection; below 90 days kind 0x3A, within 7 days the lane is to be moved. -/
def Half.laserPlan (x : Half) (now : Nat) : Half :=
  let limit := x.regFld 0x0500030 63 48
  x.fab.ports.foldl (fun y e =>
    (e.2.lanes.filter (fun l => !l.2.recs.isEmpty)).foldl (fun z l =>
      let days := laserDays (l.2.means.take 30) limit
      let z1 := z.updFabPort e.1 (fun q => { q with lanes := Tab.modify q.lanes l.1 (fun k => { k with days := days, moveSoon := decide (days ≤ 7) }) })
      let z2 := z1.journal now mgnOrigin 17 (e.1 * 32 + l.1) l.2.days days
      if days < 90 then z2.raiseErr 10 e.1 0x3A 0 11 else z2) y) x

/-- A re-plan of a half in Glaze service (R470, R350): with readings taken now. -/
def Blk.replan (b : Blk) (t : Clk) (h : HalfId) (rs : List ConeReading) (periodic : Bool) : Blk :=
  let (b1, i) := b.draw
  b1.upd h (fun x => (x.replan (t.now h) rs periodic i).laserPlan (t.now h))

/-- GLAZE_SERVICE_ENTRY (R462, R468, R470, R472): the service record applies, every die port whose link is up is taken through admission, and
the first re-plan runs. -/
def Blk.glazeEntry (b : Blk) (t : Clk) (h : HalfId) (rs : List ConeReading) : Blk :=
  let x := b.half h
  if x.boot.inReset ∨ x.boot.stage ≠ 3 ∨ ¬ x.boot.memTrained then b
  else
    let b1 := b.upd h (fun y =>
      let y0 := y.readCones rs
      let y1 := if y0.boot.service ∧ ¬ y0.boot.recordIn.isEmpty then y0.recordApply y0.boot.recordIn
        else if y0.boot.kind = .cold ∧ ¬ y0.boot.service then y0.recordMissing else y0
      { y1 with boot := { y1.boot with stage := 4 } })
    let b2 := (x.dies.filter (fun d => d.2.link && d.2.st != 1)).foldl (fun k d => (k.admitPort t h fwOrigin d.1).1) b1
    let b3 := b2.replan t h rs false
    b3.upd h (fun y => y.journal (t.now h) fwOrigin 11 h.num 3 4)

/-- UCIE_LINK_UP (R468): a die port's link comes up with what its capability and descriptor report; an admission that waits for it goes on. -/
def Blk.linkUp (b : Blk) (t : Clk) (h : HalfId) (d cap : Nat) (desc : List Byte) : Blk :=
  let x := b.half h
  let wait := (Tab.dflt x.dies d {}).admitFor
  let b1 := b.upd h (fun y => { y with dies := Tab.upd y.dies d {} (fun p => { p with link := true, cap := cap, desc := desc }) })
  match wait with
  | none => b1
  | some ref =>
    let (b2, code) := b1.admitPort t h b.adminOrigin d
    if code = 0 then b2.finish h ref 0 0 0 0 none else b2.finish h ref 0x12 8 0 0 none

/-- CHIPLET_LINK_TIMEOUT (R468): no link within 100 ms; code 1 and NO_RESOURCE. -/
def Blk.linkTimeout (b : Blk) (t : Clk) (h : HalfId) (d : Nat) : Blk :=
  match (Tab.dflt (b.half h).dies d {}).admitFor with
  | none => b
  | some ref => (b.admitRefuse t h b.adminOrigin d 1).finish h ref 0x40 0 0 0 none

/-- UCIE_LANE_REPAIR (R36, R472): the adapter has substituted a lane on the block's request; kind 0x52. -/
def Half.laneRepair (x : Half) (d : Nat) : Half :=
  if (Tab.dflt x.dies d {}).link then x.raiseErr 9 d 0x52 1 11 else x

end Sys2Proof.Machine
end

