-- ==== Sys2Proof/Machine/Caps.lean ====
section
/-! DEFINITION. The capability table and the records QUERY answers (R126 to R131, R259). -/
namespace Sys2Proof.Machine

/-- A record header (Table 05-11) and body: `pair` and `live` are its bits 41 and 40. -/
def capRecord (ty : Nat) (pair live : Bool) (body : List Byte) : List Byte :=
  let gen := if live then Config.capGen body % 2 ^ 15 * 2 else 0
  leBytes 2 ty ++ leBytes 2 (body.length + 8) ++ [1, BitVec.ofNat 8 (b2n live + 2 * b2n pair)] ++ leBytes 2 gen ++ body

/-- The partner, where a half has one in service (R58, R129). -/
def Blk.mate (b : Blk) (h : HalfId) : Option Half := if b.linked then some (b.half h.other) else none

/-- A half as another half's record of it sees it: itself, or its partner. -/
def Blk.seen (b : Blk) (h k : HalfId) : Option Half := if h = k then some (b.half h) else b.mate h

/-- Transform engines in service on a half: none in Bisque service (R127, R258). -/
def Half.enginesOn (x : Half) : Nat := if x.glaze then x.xfm.map else 0

/-- FWREV of a half: 0 in Bisque service. -/
def Half.fwrev (x : Half) : Nat := if x.glaze then ((x.boot.running.map (·.fwrev)).getD 0) else 0

/-- IDENT (Table 05-16). -/
def capIdent (b : Blk) (h : HalfId) : List Byte :=
  let x := b.half h
  let serial (k : HalfId) : Nat := ((b.seen h k).map (·.fuse.serial)).getD 0
  leBytes 2 7 ++ [BitVec.ofNat 8 h.num, 0] ++
  leBytes 4 (match x.obj.join with
    | some j => j.pkg + 2 ^ 31
    | none => 0) ++
  leBytes 8 (serial .A) ++ leBytes 8 (serial .B) ++ leBytes 8 x.features

/-- REVISION (Table 05-17). -/
def capRevision (b : Blk) (h : HalfId) : List Byte :=
  let x := b.half h
  let of (f : Half → Nat) (k : HalfId) : Nat := ((b.seen h k).map f).getD 0
  let common (f : Half → Nat) : Nat := match b.mate h with
    | some y => min (f x % 256) (f y % 256)
    | none => f x % 256
  leBytes 2 (of (·.fuse.sirev) .A) ++ leBytes 2 (of (·.fuse.sirev) .B) ++ leBytes 2 (of Half.fwrev .A) ++ leBytes 2 (of Half.fwrev .B) ++
  leBytes 2 (of (·.fuse.romRev) .A) ++ leBytes 2 (of (·.fuse.romRev) .B) ++
  leBytes 1 (common (·.fuse.sirev)) ++ leBytes 1 (common Half.fwrev) ++ [0, 0]

/-- HALVES (Table 05-18). A half that the other one cannot see at present keeps its last known byte clear but PRESENT. -/
def capHalves (b : Blk) (h : HalfId) : List Byte :=
  let one (k : HalfId) : Nat :=
    let y := b.half k
    let there := h == k || (b.half h).tdm.partner.isSome
    if there then k.num + 2 * b2n y.orient + 4 * y.tdm.st.num + 64 * b2n y.tdm.actingPrimary + 128 else 0
  [BitVec.ofNat 8 (one .A), BitVec.ofNat 8 (one .B), 0, 0, 0, 0, 0, 0]

/-- A host port's word of PORTS (Table 05-19). -/
def hostWord (b : Blk) (h : HalfId) (p : Nat) : Nat :=
  let x := b.half h
  let hp := x.port p
  let pp := h.num * 2 + p
  let width := if x.glaze then (if hp.lpState = 1 then 8 else 16) else 4
  (if hp.up then Config.linkRate pp % 16 + width * 2 ^ 4 + 2 ^ 9 + 2 ^ 10 + b2n (Config.linkCache pp && x.glaze) * 2 ^ 11 +
      b2n (Config.linkMem pp && x.glaze) * 2 ^ 12 else 0) +
  hp.lpState % 4 * 2 ^ 13 + b2n hp.contained * 2 ^ 15 + b2n (bitAt (x.regFld 0x0600010 3 0) pp || pp == 0) * 2 ^ 16 +
  b2n (decide (b.adminPort h = pp)) * 2 ^ 17

/-- PORTS (Table 05-19). -/
def capPorts (b : Blk) (h : HalfId) : List Byte :=
  let x := b.half h
  let die (d : Nat) : Nat :=
    let p := Tab.dflt x.dies d {}
    if x.glaze then p.st % 8 + (h.num * 8 + d) * 2 ^ 8 + (if p.st = 0 then 0 else p.vendor % 2 ^ 16 * 2 ^ 16) else (h.num * 8 + d) * 2 ^ 8
  let opt (o : Nat) : Nat :=
    let f := x.fabPort o
    f.st % 8 + (f.subst.filter (fun s => decide (16 ≤ s.2))).length % 4 * 2 ^ 3 + f.neighbour % 2 ^ 12 * 2 ^ 8
  leBytes 8 (hostWord b h 0) ++ leBytes 8 (hostWord b h 1) ++ (List.range 8).flatMap (fun d => leBytes 4 (die d)) ++
  (List.range 16).flatMap (fun o => leBytes 4 (opt o))

/-- Bytes the allocator manages and has free, pair-wide: partitions in allocator mode. -/
def Half.allocTotal (x : Half) : Nat := (x.obj.parts.filter (fun p => p.2.allocator)).foldl (fun n p => n + x.partBytes p.1) 0
def Half.allocFree (x : Half) : Nat := (x.obj.parts.filter (fun p => p.2.allocator)).foldl (fun n p => n + (x.partBytes p.1 - x.framesUsed p.1)) 0

/-- MEMORY (Table 05-20, R277). -/
def capMemory (b : Blk) (h : HalfId) : List Byte :=
  let x := b.half h
  let stack (s : Nat) : Nat :=
    let d := s / 4
    let y := b.half (if d = 0 then .A else .B)
    let up := bitAt y.boot.trainedStacks (s % 4)
    196608 + 2 ^ 32 * b2n up + 2 ^ 33 * b2n (up && x.dieReach d)
  (List.range 8).flatMap (fun s => leBytes 8 (stack s)) ++ leBytes 8 x.allocTotal ++ leBytes 8 x.allocFree ++
  leBytes 8 (((List.range 2).filter (fun d => x.dieReach d)).length * (dieBytes - reserveBytes)) ++ leBytes 8 reserveBytes

/-- TOPOLOGY (Table 05-21). -/
def capTopology (b : Blk) (h : HalfId) : List Byte :=
  let x := b.half h
  let eng (k : HalfId) : Nat := ((b.seen h k).map Half.enginesOn).getD 0
  let adm (k : HalfId) : Nat := ((b.seen h k).map (fun y => ((List.range 8).filter (fun d => y.glaze && y.admitted d)).foldl (fun n d => n + 2 ^ d) 0)).getD 0
  let joined := x.obj.join.isSome
  let j := x.obj.join.getD {}
  let hop (d : Nat) : Nat := if ¬ joined then 0xFF else if d = j.pkg then 0
    else if x.obj.unreach.contains d then 0xFF else (Tab.dflt x.obj.routes d {}).hops
  leBytes 2 128 ++ [16, BitVec.ofNat 8 (if (b.mate h).isSome then 2 else 1)] ++ leBytes 2 (eng .A) ++ leBytes 2 (eng .B) ++
  leBytes 4 (adm .A + adm .B * 2 ^ 8 + b2n (x.dieReach 0) * 2 ^ 16 + b2n (x.dieReach 1) * 2 ^ 17) ++
  leBytes 2 (j.pkg + b2n joined * 2 ^ 15) ++ leBytes 2 j.domain ++ (List.range 4096).flatMap (fun d => leBytes 1 (hop d))

/-- TRANSLATION (Table 05-22). -/
def capTranslation (x : Half) : List Byte :=
  let spokes := if x.glaze then ((List.range 32).filter (fun s => bitAt x.xlt.spokes s)).length else 1
  [57, 5, 7, 0] ++ leBytes 2 64 ++ leBytes 2 2048 ++ leBytes 2 8192 ++ [8, 0] ++ leBytes 2 16384 ++ leBytes 1 spokes ++
  leBytes 1 (((List.range 2).filter (fun s => bitAt x.xlt.spares s)).length) ++ leBytes 2 4096 ++ leBytes 2 512 ++ leBytes 2 256 ++
  List.replicate 10 0

/-- TRANSFORM_FORMATS (Table 09-17). -/
def capFormats (x : Half) : List Byte :=
  let f := x.features
  let codes := (List.range 64).filter (fun c => fmtDefined c && (!fmtMx c || bitAt f 6) && (c != 0x10 || bitAt f 7))
  let ops := 0xF7 + (if bitAt f 8 then 0x08 else 0) + (if bitAt f 5 then 0x700 else 0)
  leBytes 8 (codes.foldl (fun n c => n + 2 ^ c) 0) ++ leBytes 8 ops ++
  [64, 32, 16, 4] ++ leBytes 2 64 ++ [4, 0] ++ (List.range 4).flatMap (fun q => leBytes 1 (x.island (5 + q)).plan) ++ leBytes 4 x.enginesOn

/-- LIMITS (Table 05-23). -/
def capLimits : List Byte :=
  leBytes 2 4096 ++ leBytes 2 16384 ++ [64, 0] ++ leBytes 2 512 ++ leBytes 2 448 ++ [16, 12, 18, 18] ++ leBytes 2 2048 ++ [64, 0] ++
  leBytes 2 64 ++ leBytes 2 1024 ++ leBytes 2 4096 ++ leBytes 2 8192 ++ leBytes 2 640 ++ leBytes 2 880 ++ List.replicate 10 0

/-- QOS (Table 05-24). -/
def capQos (x : Half) : List Byte :=
  ([(0, 0), (0, 1), (1, 0), (2, 0), (3, 0), (3, 1), (3, 2), (3, 3), (4, 0), (4, 1)] : List (Nat × Nat)).flatMap (fun p =>
    leBytes 8 (x.capacity p.1 p.2 % 2 ^ 32 + p.1 * 2 ^ 32 + 2 ^ 40))

/-- A CONFIDENTIAL context of the pair is not DESTROYED. -/
def Half.confActive (x : Half) : Bool := x.obj.ctxs.any (fun c => c.2.confidential && c.2.st != .destroyed)
/-- The sealed partitions as a mask (R408). -/
def Half.sealedMask (x : Half) : Nat := (x.obj.parts.filter (fun p => p.2.sealed)).foldl (fun n p => n + 2 ^ p.1) 0

/-- SECURITY (Table 05-25). -/
def capSecurity (b : Blk) (h : HalfId) : List Byte :=
  let x := b.half h
  let one (y : Half) : Nat := y.sec.debugLevel % 4 + 4 * b2n y.sec.tainted + 8 * b2n y.sec.everUnlocked + 16 * b2n y.fuse.debugFusedOff +
    32 * b2n y.fuse.identityValid + 64 * b2n y.sec.alias_
  let half (k : HalfId) : Nat := ((b.seen h k).map one).getD 0
  let dig (k : HalfId) : Nat := ((b.seen h k).map (·.fuse.idKeyDigest)).getD 0
  leBytes 1 (half .A) ++ leBytes 1 (half .B) ++ leBytes 1 (b2n (bitAt x.features 9) + 2 * b2n x.confActive) ++ [16, 0, 0, 0, 0] ++
  leBytes 8 x.sealedMask ++ leBytes 48 (dig .A) ++ leBytes 48 (dig .B)

/-- BUILD (Table 05-26): the full build; its digest is fused (R30). -/
def capBuild (x : Half) : List Byte :=
  [2, 8, 4, 16, 48, 32] ++ leBytes 2 8192 ++ leBytes 2 8192 ++ leBytes 2 32768 ++ [16, BitVec.ofNat 8 (b2n x.fuse.tandem), 0, 0] ++
  leBytes 48 x.fuse.build

/-- The capability record of a type (Table 05-12). -/
def capOf (b : Blk) (h : HalfId) (ty : Nat) : Option (List Byte) :=
  let x := b.half h
  match ty with
  | 1 => some (capRecord 1 true true (capIdent b h))
  | 2 => some (capRecord 2 true true (capRevision b h))
  | 3 => some (capRecord 3 true true (capHalves b h))
  | 4 => some (capRecord 4 false true (capPorts b h))
  | 5 => some (capRecord 5 true true (capMemory b h))
  | 6 => some (capRecord 6 true true (capTopology b h))
  | 7 => some (capRecord 7 false true (capTranslation x))
  | 8 => some (capRecord 8 false true (capFormats x))
  | 9 => some (capRecord 9 true false capLimits)
  | 10 => some (capRecord 10 false true (capQos x))
  | 11 => some (capRecord 11 true true (capSecurity b h))
  | 12 => some (capRecord 12 false false (capBuild x))
  | _ => none

/-- The capability table of a half (R127): its records in the order of Table 05-12, then the closing header. -/
def capTable (b : Blk) (h : HalfId) : List Byte :=
  ((List.range 12).flatMap (fun i => (capOf b h (i + 1)).getD [])) ++ leBytes 2 0 ++ leBytes 2 8 ++ [1, 0, 0, 0]

/-- Bytes a context has allocated. -/
def Half.heapUsed (x : Half) (id : Nat) : Nat :=
  (x.obj.mems.filter (fun o => o.kind == .alloc && o.ctx == id && o.owned)).foldl (fun n o => n + o.size) 0

/-- A context record (Table 05-10). -/
def ctxRecord (x : Half) (id : Nat) (c : Ctx) : List Byte :=
  leBytes 1 c.st.num ++ leBytes 1 c.lossCause ++ leBytes 2 c.lossMaster ++ leBytes 1 (c.lossAccess % 16) ++ [0, 0, 0] ++ leBytes 8 c.lossAddr ++
  leBytes 8 c.lossTime ++ leBytes 8 (x.heapUsed id) ++ leBytes 8 c.lostPackets ++ List.replicate 24 0

/-- The longest run of free frames of a partition within one die, as bytes. -/
def Half.freeExtent (x : Half) (part : Nat) : Nat :=
  let run (sp : Nat × Nat) : Nat := ((List.range sp.2).foldl (fun (a : Nat × Nat) i =>
    if x.frameFree part (sp.1 + i) then (a.1 + 1, max a.2 (a.1 + 1)) else (0, a.2)) (0, 0)).2
  max (run (x.frameSpan part 0)) (run (x.frameSpan part 1)) * 2 ^ 21

/-- A partition's allocator record (R126). -/
def allocRecord (x : Half) (part : Nat) : List Byte :=
  let size := x.partBytes part
  let held := x.framesUsed part
  if (x.part part).allocator then leBytes 8 size ++ leBytes 8 held ++ leBytes 8 (x.freeExtent part)
  else
    let fs := ((x.obj.frames.filter (fun e => x.framePart e.1 == some part)).map (fun e => frameView e.1))
    let stop := if part = 0 then frameView (2 ^ 24 + dieFrames) else (x.part part).memBase + (x.part part).memSize
    leBytes 8 size ++ leBytes 8 held ++ leBytes 8 (fs.foldl min stop)

/-- What a QUERY writes (R126): the record it selects. -/
def queryRecord (b : Blk) (h : HalfId) (ctx part select ty : Nat) : List Byte :=
  let x := b.half h
  if select = 0 then (capOf b h ty).getD []
  else if select = 1 then (match x.ctx? ctx with
    | some c => ctxRecord x ctx c
    | none => [])
  else allocRecord x part

end Sys2Proof.Machine
end

