-- ==== Sys2Proof/Machine/Walks.lean ====
section
/-! DEFINITION. Spokes and their walks as single events, roll-forward of holder windows, ATS completions, and the die-port translation
service (R139 to R156). -/
namespace Sys2Proof.Machine

/-- Operand ranges of a packet: operand number, first byte, bytes, and whether they are written (R145). ROUTE and DRAFT_SEND hold theirs
whole when they begin. -/
def Pkt.ranges (p : Pkt) : List (Nat × Nat × Nat × Bool) :=
  let es := 2 ^ p.arg 4
  let idx : List (Nat × Nat × Nat × Bool) :=
    if bitAt p.hdr.flags 4 then [] else [(2, p.arg 2, p.arg 3 * (if bitAt (p.arg 5) 0 then 8 else 4), false)]
  match p.op with
  | 0x01 => [(0, p.arg 0, p.arg 2, false), (1, p.arg 1, p.arg 2, true)]
  | 0x02 => [(1, p.arg 0, p.arg 1, true)]
  | 0x03 => [(1, p.arg 0, p.arg 1, true)]
  | 0x04 =>
    let far (sy sz : Nat) : Nat := (p.arg 4 - 1) * sz + (p.arg 3 - 1) * sy + p.arg 2
    [(0, p.arg 0, far (p.arg 5) (p.arg 6), false), (1, p.arg 1, far (p.arg 7) (p.arg 8), true)]
  | 0x05 => (1, p.arg 1, p.arg 3 * es, true) :: idx
  | 0x06 => (0, p.arg 0, p.arg 3 * es, false) :: idx
  | 0x50 => [(1, p.arg 2, p.arg 3, true)]
  | 0x10 => [(3, p.arg 0, 8, true)]
  | 0x11 => [(3, p.arg 0, 8, false)]
  | _ =>
    if p.isElt then
      (p.elt.reads ++ p.elt.writes).map (fun r => (r.opnd, r.base, r.hi p.elt.count, r.opnd == 1))
    else []

/-- A miss can share a walk (R144): the pointer it needs, or its leaf group, is the one the walk is reading. -/
def Walk.shares (w : Walk) (m : Miss) : Bool :=
  let sh := 12 + 9 * (w.level - 1) + (if w.level = 1 then 4 else 0)
  w.miss.ctx == m.ctx && w.miss.va >>> sh == m.va >>> sh && !w.stale

/-- Weight of a partition's Spoke slots. -/
def Half.spokeWeight (x : Half) (part : Nat) : Nat := max 1 (x.part part).spoke.weight

/-- The next miss a free Spoke takes (R144): the lowest class with a miss whose partition holds a lease; partitions in weighted round
robin, each up to its weight in its turn. -/
def Half.nextMiss (x : Half) : Option Miss :=
  let can := x.xlt.queue.filter (fun m => x.hasLease 2 0 m.part)
  match [1, 2, 3].find? (fun c => can.any (fun m => m.cls == c)) with
  | none => none
  | some c =>
    let cl := can.filter (fun m => m.cls == c)
    let go := if 0 < x.xlt.left ∧ cl.any (fun m => m.part == x.xlt.turn) then some x.xlt.turn
      else ((List.range 64).map (fun i => (x.xlt.turn + 1 + i) % 64)).find? (fun p => cl.any (fun m => m.part == p))
    go.bind (fun p => cl.find? (fun m => m.part == p))

/-- A Spoke that is in service and idle. -/
def Half.freeSpoke (x : Half) : Option Nat :=
  (List.range 32).find? (fun s => bitAt x.xlt.spokes s && (Tab.look x.xlt.walks s).isNone)

/-- WALK_START (R144): misses that share a walk attach to it; a free Spoke takes the next one; partitions without a lease ask for one. -/
def Half.walkStart (x : Half) : Half :=
  let fit (m : Miss) : Option Nat := (x.xlt.walks.find? (fun w => w.2.shares m)).map (·.1)
  let y : Half := x.xlt.queue.foldl (fun (k : Half) m =>
    match fit m with
    | none => k
    | some s => { k with xlt := { k.xlt with queue := k.xlt.queue.erase m,
                                             walks := Tab.modify k.xlt.walks s (fun w => { w with attached := w.attached ++ [m] }) } }) x
  let asked := y.xlt.queue.foldl (fun (k : Half) m => if k.hasLease 2 0 m.part then k else k.askLease 2 0 m.part) y
  match y.freeSpoke, y.nextMiss with
  | some s, some m =>
    let z := asked.takeLease 2 0 m.part 1
    let left := if m.part = z.xlt.turn ∧ 0 < z.xlt.left then z.xlt.left - 1 else z.spokeWeight m.part - 1
    { z with xlt := { z.xlt with queue := z.xlt.queue.erase m, walks := Tab.put z.xlt.walks s (z.walkBegin m), turn := m.part, left := left } }
  | _, _ => asked

/-! ### The die-port translation service -/

/-- A die port may ask under a context (R152): it is granted, and the context is ACTIVE. -/
def Half.dptMay (x : Half) (port ctx : Nat) : Bool := match x.ctx? ctx with
  | some c => c.st == .active && x.granted ctx (x.chipId port)
  | none => false

/-- A denial without loss: counted, and kind 0x50 at CONTAINED (R152). -/
def Half.dptDeny (x : Half) (port ctx va : Nat) (write : Bool) : Half :=
  let m := { mkErr x 9 port 0x50 3 (if write then 2 else 1) va ((x.ctx? ctx).map (·.part)) with source := x.id.num * 2 ^ 11 + 9 * 2 ^ 7 + x.chipId port }
  (x.bump 0x0100040 31 0 1).raise 9 m

/-- A granted context's request that the service cannot serve makes it lost with cause 0x02 (R154). -/
def Blk.dptLoss (b : Blk) (h : HalfId) (port ctx va : Nat) (write : Bool) : Blk :=
  let x := b.half h
  let part := ((x.ctx? ctx).map (·.part)).getD 0
  { b with lossQ := b.lossQ ++ [{ ctx := ctx, cause := 2, master := 2 ^ 15 + part * 512 + x.chipId port, access := if write then 2 else 1,
                                  addr := va, half := h }] }

/-- The pin range of a context that holds an address (R158). -/
def Half.pinAt (x : Half) (ctx va : Nat) : Option PinRange := x.obj.pins.find? (fun p => p.ctx == ctx && decide (p.lo ≤ va) && decide (va < p.hi))

/-- The part of a span inside a pin range. -/
def Span.cutTo (s : Span) (lo hi : Nat) : Span :=
  let pb := pageBytes s.size
  let first := (max lo s.va - s.va + pb - 1) / pb
  let last := (min hi (s.va + s.bytes) - s.va) / pb
  { s with va := s.va + first * pb, frame := s.frame + first * pb, pages := last - first }

/-- A span may serve a chiplet (R154): pinned, pinned by the table, device or fabric, not sealed. -/
def Half.dptServes (x : Half) (s : Span) (va : Nat) : Bool :=
  s.pinned && (x.pinAt s.ctx va).isSome && (s.target == 0 || s.target == 2) && !s.sealed

/-- The answer to an XT_REQ once its walk has ended (R154). ACC is 1 read, 2 write, 3 both. -/
def Blk.xtAnswer (b : Blk) (h : HalfId) (port tid acc ctx va : Nat) (r : WalkOut) : Blk :=
  let x := b.half h
  let no : Output := .xtRsp h port tid 1 0 0 0 0
  let wr := bitAt acc 1
  if ¬ x.dptMay port ctx then (b.upd h (fun y => y.dptDeny port ctx va wr)).emit no
  else match r with
  | .span s =>
    if x.dptServes s va ∧ (¬ bitAt acc 0 ∨ s.rd) ∧ (¬ wr ∨ s.wr) then
      let p := (x.pinAt ctx va).getD {}
      let t := s.cutTo p.lo p.hi
      b.emit (.xtRsp h port tid 0 t.size t.pages (b2n t.rd + 2 * b2n t.wr + 4 * b2n t.coherent + 16 * t.target) t.frame)
    else (b.emit no).dptLoss h port ctx va wr
  | .prot 0x0E => b.emit no
  | _ => (b.emit no).dptLoss h port ctx va wr

/-- XT_REQ (R152 to R154): refused at once without a grant, answered from the IOTLB, or queued for a walk. -/
def Mach.xtReq (m : Mach) (h : HalfId) (port acc tid ctx va : Nat) : Mach :=
  let x := m.blk.half h
  if ¬ x.admitted port then m
  else if ¬ x.dptMay port ctx then { m with blk := (m.blk.upd h (fun y => y.dptDeny port ctx va (bitAt acc 1))).emit (.xtRsp h port tid 1 0 0 0 0) }
  else match x.tlbHit ctx va (bitAt acc 1) with
    | some s => { m with blk := m.blk.xtAnswer h port tid acc ctx va (.span s) }
    | none =>
      let part := ((x.ctx? ctx).map (·.part)).getD 0
      { m with blk := m.blk.upd h (fun y => { y with xlt := { y.xlt with queue := y.xlt.queue ++
          [{ ctx := ctx, va := va, write := bitAt acc 1, cls := 2, part := part, who := .port port tid acc }] } }) }

/-- A chiplet's access at a place, with its context and the checker's decision (R37, R39, R156): a denial returns poisoned data, is
reported with kind 0x14 and loses the context with cause 0x01. -/
def Mach.chipAccess (m : Mach) (h : HalfId) (port ctx : Nat) (fabric write : Bool) (addr n : Nat) (bs : List Byte) : Mach :=
  let x := m.blk.half h
  let part := ((x.ctx? ctx).map (·.part)).getD 0
  let bad (b : Blk) : Blk := if write then b else b.draw.1.emit (.chipData h port (freeBytes b.free n) true)
  if fabric then
    if write then
      Mach.fabIssue { m with blk := m.blk.upd h (fun y => y.lineDrop addr bs.length) } h
        { op := 0x20, addr := addr, len := bs.length, ctx := ctx, part := part, data := bs, dst := fabDst addr, what := .chip port }
    else m.fabIssue h { op := 0x10, addr := addr, len := n, ctx := ctx, part := part, dst := fabDst addr, what := .chip port }
  else match x.devAccess addr ctx part false with
    | .unreachable => { m with blk := bad (m.blk.upd h (fun y => y.raiseErr 9 port 0x13 3 (if write then 2 else 1) addr (some part) (x.chipId port))) }
    | .denied =>
      let b := m.blk.upd h (fun y => y.raiseErr 9 port 0x14 3 (if write then 2 else 1) addr (some part) (x.chipId port))
      { m with blk := bad { b with lossQ := b.lossQ ++ [{ ctx := ctx, cause := 1, master := 2 ^ 15 + part * 512 + x.chipId port,
                                                          access := if write then 2 else 1, addr := addr, half := h }] } }
    | .ok =>
      if write then { m with mem := m.mem.writeDev addr bs }
      else { m with blk := m.blk.emit (.chipData h port (m.mem.readDev addr n) (m.mem.poisoned addr n)) }

/-- CHIPLET_TRANSLATED_ACCESS (R156): issued as the chiplet sends it, with the context it names. -/
def Mach.chipTranslated (m : Mach) (h : HalfId) (port ctx : Nat) (fabric write : Bool) (addr n : Nat) (bs : List Byte) : Mach :=
  if (m.blk.half h).admitted port then m.chipAccess h port ctx fabric write addr n bs else m

/-- CHIPLET_UNTRANSLATED_ACCESS (R154): translated and checked as an XT_REQ, one at a time; refused as a checker denial is. -/
def Mach.chipUntranslated (m : Mach) (h : HalfId) (port ctx : Nat) (write : Bool) (va n : Nat) (bs : List Byte) : Mach :=
  let x := m.blk.half h
  let bad (b : Blk) : Blk := if write then b else b.draw.1.emit (.chipData h port (freeBytes b.free n) true)
  if ¬ x.admitted port then m
  else if ¬ x.dptMay port ctx then { m with blk := bad (m.blk.upd h (fun y => y.dptDeny port ctx va write)) }
  else
    let part := ((x.ctx? ctx).map (·.part)).getD 0
    match m.translate h ctx part va write 2 with
    | (m1, .span s) =>
      if (m1.blk.half h).dptServes s va ∧ (if write then s.wr else s.rd) then
        m1.chipAccess h port ctx (s.target == 2) write (s.phys va) n bs
      else { m1 with blk := (bad m1.blk).dptLoss h port ctx va write }
    | (m1, .prot 0x0E) => { m1 with blk := bad m1.blk }
    | (m1, _) => { m1 with blk := (bad m1.blk).dptLoss h port ctx va write }

/-! ### Walk events -/

/-- A walk's result reaches one requester. -/
def Blk.walkGive (b : Blk) (h : HalfId) (m : Miss) (r : WalkOut) : Blk :=
  match m.who with
  | .port p tid acc => b.xtAnswer h p tid acc m.ctx m.va r
  | .holder n =>
    match Tab.look (b.half h).xlt.holders n with
    | none => b
    | some d =>
      if d.st ≠ 0 then b
      else if d.stale then b.upd h (fun y => y.retrans n)
      else b.upd h (fun y => y.holderResult n r)

/-- A walk ends: the Spoke is free, its requester and those attached are answered; an attached miss that the result does not serve waits
in the queue again. -/
def Blk.walkEnd (b : Blk) (h : HalfId) (spoke : Nat) (w : Walk) (r : WalkOut) : Blk :=
  let b1 := b.upd h (fun y => { y with xlt := { y.xlt with walks := Tab.del y.xlt.walks spoke } })
  let b2 := b1.walkGive h w.miss r
  w.attached.foldl (fun k m =>
    match (k.half h).tlbHit m.ctx m.va m.write with
    | some s => k.walkGive h m (.span s)
    | none => k.upd h (fun y => { y with xlt := { y.xlt with queue := m :: y.xlt.queue } })) b2

/-- Keep a walk's progress. -/
def Blk.walkKeep (b : Blk) (h : HalfId) (spoke : Nat) (w : Walk) : Blk :=
  b.upd h (fun y => { y with xlt := { y.xlt with walks := Tab.put y.xlt.walks spoke w } })

/-- A walk ends with a span: it is installed in the IOTLB, unless an invalidation made it stale; then it starts again at the root (R181). -/
def Blk.walkInstall (b : Blk) (h : HalfId) (spoke : Nat) (w : Walk) (s : Span) : Blk :=
  let (b1, i) := b.draw
  (b1.upd h (fun y => y.tlbPut i s)).walkEnd h spoke w (.span s)

/-- WALK_GROUP_READ (R139, R140): the group read of a Spoke's walk returns; `ok` is false where it was refused, poisoned or
unreachable. -/
def Mach.walkGroup (m : Mach) (h : HalfId) (spoke : Nat) (ok : Bool) : Mach :=
  let x := m.blk.half h
  match Tab.look x.xlt.walks spoke with
  | none => m
  | some w =>
    if w.stale then { m with blk := m.blk.walkKeep h spoke { (x.walkBegin w.miss) with attached := w.attached } }
    else if w.span.isSome then m
    else
      let entry := w.table + levelIdx w.miss.va w.level * 8
      match (if ok then walkRead m.mem x w else .prot 0x0E entry) with
      | .absent => { m with blk := m.blk.walkEnd h spoke w .absent }
      | .prot d e =>
        { m with blk := (if d = 0x03 ∨ d = 0x0E then m.blk.upd h (fun y => y.walkError w d e) else m.blk).walkEnd h spoke w (.prot d) }
      | .down w' f =>
        let (b, i) := m.blk.draw
        { m with blk := (b.upd h (fun y => y.walkPut i f)).walkKeep h spoke w' }
      | .leaf w' mis =>
        let b := if mis then m.blk.upd h (fun y => y.bump 0x0100030 31 0 1) else m.blk
        match w'.cas, w'.span with
        | [], some s => { m with blk := b.walkInstall h spoke w' s }
        | _, _ => { m with blk := b.walkKeep h spoke w' }

/-- AD_UPDATE_CAS (R139): the compare-and-swap of a walk's next entry completes; an entry that changed repeats the group read. -/
def Mach.walkCas (m : Mach) (h : HalfId) (spoke : Nat) (ok : Bool) : Mach :=
  let x := m.blk.half h
  match Tab.look x.xlt.walks spoke with
  | none => m
  | some w =>
    match w.span with
    | none => m
    | some s =>
      if w.stale then { m with blk := m.blk.walkKeep h spoke { (x.walkBegin w.miss) with attached := w.attached } }
      else if ¬ ok then
        let e := w.table + levelIdx w.miss.va w.level * 8
        { m with blk := (m.blk.upd h (fun y => y.walkError w 0x0E e)).walkEnd h spoke w (.prot 0x0E) }
      else match casOne m.mem w with
        | none => { m with blk := (m.blk.upd h (fun y => y.bump 0x0100038 31 0 1)).walkKeep h spoke { w with span := none, cas := [], group := [] } }
        | some (ms, w') =>
          if w'.cas.isEmpty then { m with mem := ms, blk := m.blk.walkInstall h spoke w' s }
          else { m with mem := ms, blk := m.blk.walkKeep h spoke w' }

/-- SPOKE_FAIL (R143): the group's spare takes the Spoke's number and its walk starts again; without a spare the half has a Spoke
fewer and the misses wait again. -/
def Half.spokeFail (x : Half) (spoke : Nat) : Half :=
  let g := if spoke ≤ 16 then 0 else 1
  if 32 ≤ spoke ∨ ¬ bitAt x.xlt.spokes spoke then x
  else if bitAt x.xlt.spares g then
    let y : Half := { x with xlt := { x.xlt with
      spares := x.xlt.spares - 2 ^ g
      spareFor := Tab.put x.xlt.spareFor g spoke
      walks := Tab.modify x.xlt.walks spoke (fun w => { (x.walkBegin w.miss) with attached := w.attached }) } }
    y.raiseErr 3 spoke 0x01 1 0 0 none spoke
  else
    let back := match Tab.look x.xlt.walks spoke with
      | some w => w.miss :: w.attached
      | none => []
    let y : Half := { x with xlt := { x.xlt with
      spokes := x.xlt.spokes - 2 ^ spoke
      spareFor := if Tab.look x.xlt.spareFor g = some spoke then Tab.del x.xlt.spareFor g else x.xlt.spareFor
      walks := Tab.del x.xlt.walks spoke
      queue := back ++ x.xlt.queue } }
    y.raiseErr 3 spoke 0x02 2 0 0 none spoke

/-- HOLDER_SPAN_RELEASE (R145, R146): the holding work leaves a span; its entry is free, and the next span of the range is translated. -/
def Half.spanRelease (x : Half) (n : Nat) : Half :=
  match Tab.look x.xlt.holders n with
  | none => x
  | some d =>
    if d.st ≠ 1 ∨ x.inUse d then x
    else
      let y : Half := { x with xlt := { x.xlt with holders := Tab.del x.xlt.holders n } }
      match Tab.look y.dma.chans d.eng with
      | none => y
      | some k =>
        let top := (y.holdersOf d.q d.slot d.opnd).foldl (fun t e => max t (e.2.span.va + max e.2.span.bytes 4096)) (d.span.va + d.span.bytes)
        match k.disp.pkt.ranges.find? (fun r => r.1 == d.opnd && decide (r.2.1 ≤ d.span.va + d.span.bytes) && decide (d.span.va < r.2.1 + r.2.2.1)) with
        | some (_, lo, len, wr) =>
          if lo + len ≤ top then y
          else y.holdAt d.eng d.q d.slot d.opnd d.span.ctx k.disp.pkt.hdr.part top wr 3
        | none => y

/-- ATS_COMPLETION (R148, R151): the host answers the request outstanding for a holder entry: translated addresses of `pages` pages from
the first asked, with the access they grant. A shorter answer cuts the entry; one that grants too little is a translation fault of its
page; one for no outstanding request, or for more pages than asked, is kind 0x03. -/
def Half.atsCompletion (x : Half) (n : Nat) (addr pages : Nat) (rd wr : Bool) : Half :=
  match Tab.look x.xlt.holders n with
  | none => x.raiseErr 3 0 0x03 2
  | some d =>
    match d.atsOut with
    | none => x.raiseErr 3 0 0x03 2
    | some (_, first) =>
      let total := d.span.bytes / 4096
      let set (k : Holder) : Half := { x with xlt := { x.xlt with holders := Tab.put x.xlt.holders n k } }
      if total - first < pages then (set { d with atsOut := none }).raiseErr 3 0 0x03 2
      else if pages = 0 ∨ (if d.write then ¬ wr else ¬ rd) then set { d with atsOut := none, absent := true }
      else
        let ats := (List.range pages).foldl (fun t i => Tab.put t (first + i) (addr + i * 4096)) d.ats
        let keep := first + pages
        if keep < total ∧ d.span.size = 0 then set { d with atsOut := none, ats := ats, span := { d.span with pages := keep } }
        else set { d with atsOut := none, ats := ats }

end Sys2Proof.Machine
end

