-- ==== Sys2Proof/Machine/Faults.lean ====
section
/-! DEFINITION. Service of translation faults (R168 to R178): Page Requests and their responses, the allocator's answers, and a chiplet
that does not acknowledge (R187). -/
namespace Sys2Proof.Machine

/-- Page Requests outstanding on a function (R169), from both halves' channels. -/
def Blk.priOut (b : Blk) (port vf : Nat) : Nat :=
  ((b.a.xlt.pri ++ b.b.xlt.pri).filter (fun r => r.port == port && r.vf == vf)).length

/-- Channels of a half that wait for a Page Request on a function, with the time they entered FAULT_WAIT (R169). -/
def Blk.priWaiting (b : Blk) (h : HalfId) (port vf : Nat) : List (Nat × Nat) :=
  (b.half h).dma.chans.filterMap (fun k => match k.2.fault with
    | some f => if k.2.st = 4 ∧ ¬ f.heap ∧ f.prg.isNone ∧ b.ringPort k.2.q = port ∧ k.2.part = vf then some (k.1, f.start) else none
    | none => none)

/-- PAGE_REQUEST_ISSUE (R169, R504): with an allocation slot free and the function able to send, the fault that entered FAULT_WAIT first is
asked for. -/
def Mach.pageRequest (m : Mach) (port vf : Nat) : Mach :=
  let fn := (m.blk.half (HalfId.ofPort port)).fn (port % 2) vf
  if ¬ m.blk.portReady port vf ∨ min 256 fn.priAlloc ≤ m.blk.priOut port vf then m
  else
    let all := ((m.blk.priWaiting .A port vf).map (fun e => (HalfId.A, e))) ++ ((m.blk.priWaiting .B port vf).map (fun e => (HalfId.B, e)))
    let first := all.foldl (fun (b : Option (HalfId × Nat × Nat)) e => match b with
      | none => some e
      | some k => if e.2.2 < k.2.2 then some e else some k) none
    match first with
    | none => m
    | some (h, c, _) =>
      let used := (m.blk.a.xlt.pri ++ m.blk.b.xlt.pri).filter (fun r => r.port == port && r.vf == vf)
      match findUp (fun i => !used.any (fun r => r.prg == i)) 0 512, (m.chan h c).fault with
      | some i, some f =>
        let k := m.chan h c
        let m1 := m.updChan h c (fun e => { e with fault := some { f with prg := some i } })
        let b := m1.blk.upd h (fun x => { x with xlt := { x.xlt with pri := x.xlt.pri ++
          [{ port := port, vf := vf, prg := i, chan := c, va := f.va }] } })
        { m1 with blk := b.emit (.pageRequest port vf i k.ctx (f.va / 4096 * 4096) f.write) }
      | _, _ => m

/-- A fault ends unrecoverably, and the packet with it (R176). -/
def Mach.faultEnds (m : Mach) (h : HalfId) (c reason : Nat) : Mach :=
  match (m.chan h c).fault with
  | none => m
  | some f => (m.chanUnrec h c f.opnd reason f.va).chanStop h c false

/-- Channels of a half whose faults go through a function. -/
def Blk.priChans (b : Blk) (h : HalfId) (port vf : Nat) : List Nat :=
  (b.half h).dma.chans.filterMap (fun k => match k.2.fault with
    | some f => if k.2.st = 4 ∧ ¬ f.heap ∧ b.ringPort k.2.q = port ∧ k.2.part = vf then some k.1 else none
    | none => none)

/-- Every fault of a function ends with a reason. -/
def Mach.faultsEnd (m : Mach) (port vf reason : Nat) : Mach :=
  let m1 := (m.blk.priChans .A port vf).foldl (fun k c => k.faultEnds .A c reason) m
  (m1.blk.priChans .B port vf).foldl (fun k c => k.faultEnds .B c reason) m1

/-- The half and the record of an outstanding Page Request. -/
def Blk.priFind (b : Blk) (port vf prg : Nat) : Option (HalfId × PriReq) :=
  let hit (r : PriReq) : Bool := r.port == port && r.vf == vf && r.prg == prg
  match b.a.xlt.pri.find? hit with
  | some r => some (.A, r)
  | none => (b.b.xlt.pri.find? hit).map (fun r => (.B, r))

/-- PRG_RESPONSE (R170, R178). -/
def Mach.prgResponse (m : Mach) (port vf prg : Nat) (code : PrgCode) : Mach :=
  match m.blk.priFind port vf prg with
  | none => { m with blk := m.blk.upd (HalfId.ofPort port) (fun x => x.bump 0x0100138 31 0 1) }
  | some (h, r) =>
    let m1 : Mach := { m with blk := m.blk.upd h (fun x => { x with xlt := { x.xlt with pri := x.xlt.pri.erase r } }) }
    let m2 : Mach := match code with
      | .failure => { m1 with blk := m1.blk.upd (HalfId.ofPort port) (fun x =>
          let k := port % 2 * 64 + vf
          { x with xlt := { x.xlt with priFailed := setAdd x.xlt.priFailed k } }) }
      | _ => m1
    let m3 := if r.retired then m2 else match code with
      | .success => m2.rewalk h r.chan
      | .invalid => m2.faultEnds h r.chan 1
      | .failure => m2.faultEnds h r.chan 2
    match code with
    | .failure => m3.faultsEnd port vf 2
    | _ => m3

/-- PRI_TIMEOUT (R169, R170): PRI_TIMEOUT has passed since a channel entered FAULT_WAIT; its PRG index stays retired. -/
def Mach.priTimeout (m : Mach) (h : HalfId) (c : Nat) : Mach :=
  match (m.chan h c).fault with
  | some f => if (m.chan h c).st = 4 ∧ ¬ f.heap then m.faultEnds h c 3 else m
  | none => m

/-- ALLOCATOR_FAULT_ANSWER (R171). -/
def Mach.allocatorAnswer (m : Mach) (h : HalfId) (c : Nat) : Mach :=
  let m1 := m.allocAnswer h c
  if (m1.chan h c).ends.isSome then m1.chanStop h c false else m1

/-- PRI_ENABLE_CHANGE (R170): the host clears and sets a function's PRI Enable: the Response Failure state ends and PRG indices that
timed out are released. -/
def Blk.priEnable (b : Blk) (port vf : Nat) : Blk :=
  let clean (x : Half) : Half := { x with xlt := { x.xlt with pri := x.xlt.pri.filter (fun r => !(r.port == port && r.vf == vf && r.retired)) } }
  ((b.upd .A clean).upd .B clean).upd (HalfId.ofPort port) (fun x =>
    let y := x.updFn (port % 2) vf (fun f => { f with pri := true })
    { y with xlt := { y.xlt with priFailed := y.xlt.priFailed.filter (· != port % 2 * 64 + vf) } })

/-- CHIPLET_ACK_TIMEOUT (R187): an acknowledgement is late past CHIPLET_LIMIT: the die port is fenced with kind 0x51, and every
acknowledgement it owes, or would owe for a message that waits, counts as given. -/
def Mach.chipAckTimeout (m : Mach) (h : HalfId) (d tag : Nat) : Mach :=
  if (m.blk.half h).xlt.invs.any (fun j => j.ports.contains (d, tag)) then
    let m1 := m.fencePort h d 0x51
    { m1 with blk := (m1.blk.upd h (fun y => { y with xlt := { y.xlt with invs := y.xlt.invs.map (fun j =>
      if j.ports.any (fun p => p.1 == d) || j.queued.contains d then
        { j with ports := j.ports.filter (fun p => p.1 != d), queued := j.queued.filter (· != d), fenced := some (y.chipId d) }
      else j) } })).invPoke h }
  else m

end Sys2Proof.Machine
end

