-- ==== Sys2Proof/Machine/Packet.lean ====
section
/-! DEFINITION. Command packets (R76 to R82, R94): the opcode table with the fields of every body, parsing from ring bytes, and the checks
of a fetched packet in their order. -/
namespace Sys2Proof.Machine

/-- A body field: first byte, bytes, and the bits that are not reserved. -/
structure Fd where
  lo : Nat
  len : Nat := 8
  mask : Nat := 2 ^ 64 - 1
  deriving DecidableEq, Repr

/-- One row of Table 04-5: opcode, queue class (0 user, 1 both, 2 admin), Bisque, minimum LENGTH, permitted flags, the feature it needs
(Table 05-13), and its body in the order of its arguments. -/
structure OpRow where
  op : Nat
  cls : Nat
  bisque : Bool := false
  minLen : Nat := 4
  flags : Nat := 0x2D
  feat : Option Nat := none
  fds : List Fd := []
  deriving DecidableEq, Repr

/-- A field of n bytes. -/
def fd (lo : Nat) (len : Nat := 8) : Fd := { lo := lo, len := len, mask := 2 ^ (8 * len) - 1 }
/-- A field with reserved bits. -/
def fdm (lo len mask : Nat) : Fd := { lo := lo, len := len, mask := mask }

/-- FLAGS permitted by an opcode beside PRIORITY, INT_FULL and BARRIER (Table 04-2): SIGNAL_AFTER, and INT_HALF. -/
def flAfter : Nat := 0x2D
def flHalf : Nat := 0x2F
def flNone : Nat := 0x25

def opsData : List OpRow := [
  { op := 0x00, cls := 1, bisque := true, flags := flNone },
  { op := 0x01, cls := 1, bisque := true, flags := flHalf, fds := [fd 16, fd 24, fd 32] },
  { op := 0x02, cls := 1, bisque := true, flags := flHalf, fds := [fd 16, fd 24, fd 32 16] },
  { op := 0x03, cls := 1, bisque := true, flags := 0x3D, fds := [fd 16, fd 24 2] },
  { op := 0x04, cls := 0, minLen := 8, flags := flHalf,
    fds := [fd 16, fd 24, fd 32 4, fd 36 4, fd 40 4, fd 48, fd 56, fd 64, fd 72] },
  { op := 0x05, cls := 0, flags := 0x3F, fds := [fd 16, fd 24, fd 32, fd 40 4, fd 44 1, fdm 45 1 1, fd 48] },
  { op := 0x06, cls := 0, flags := 0x3F, fds := [fd 16, fd 24, fd 32, fd 40 4, fd 44 1, fdm 45 1 1, fd 48] },
  { op := 0x10, cls := 1, bisque := true, flags := flNone, fds := [fd 16, fd 24] },
  { op := 0x11, cls := 1, bisque := true, flags := flNone, fds := [fd 16, fd 24, fd 32] },
  { op := 0x12, cls := 0, fds := [fdm 16 8 0xFFFF, fd 24] } ]

def opsXfm : List OpRow := [
  { op := 0x18, cls := 0, minLen := 8, flags := flHalf,
    fds := [fd 16, fd 24, fdm 32 8 (2 ^ 37 - 1), fd 40 1, fd 41 1, fdm 42 1 7, fdm 43 1 0xF, fd 44 4, fd 48 4, fd 52 4, fd 56, fd 64,
            fd 72, fd 80, fd 88 1, fd 96, fd 104, fd 112] },
  { op := 0x19, cls := 0, minLen := 8, flags := flHalf,
    fds := [fd 16, fd 24, fd 32, fdm 40 8 (2 ^ 37 - 1), fd 48 1, fd 49 1, fd 50 1, fdm 51 1 1, fdm 52 1 0xF, fd 56 4, fd 64, fd 72,
            fd 80, fd 88, fd 96 1, fd 104] },
  { op := 0x1A, cls := 0, minLen := 8, flags := 0x3D, feat := some 5,
    fds := [fdm 16 1 3, fd 17 1, fd 18 1, fd 19 1, fdm 20 1 7, fd 24, fd 32, fd 40 4, fd 44 4, fd 48, fd 56 2, fd 58 2, fd 64, fd 72,
            fd 80, fd 88, fd 96] },
  { op := 0x20, cls := 0, feat := some 4, fds := [fd 16, fd 24, fd 32 4, fd 36 1, fd 40, fd 48, fd 56] },
  { op := 0x21, cls := 0, minLen := 8, flags := flHalf, feat := some 4,
    fds := [fd 16, fd 24, fd 32, fd 40 1, fd 41 1, fdm 42 1 7, fdm 43 1 0xF, fd 44 4, fd 48 4, fd 52 4, fd 56, fd 64, fd 72 4, fd 76 4,
            fd 80, fd 88 1, fd 96] },
  { op := 0x22, cls := 0, feat := some 4, fds := [fd 16, fd 24 4] },
  { op := 0x30, cls := 0, fds := [fd 16, fd 24, fd 32] },
  { op := 0x31, cls := 0, fds := [fd 16, fd 24] },
  { op := 0x32, cls := 0, fds := [fd 16, fd 24] },
  { op := 0x33, cls := 0, fds := [fd 16, fd 24] },
  { op := 0x34, cls := 0, fds := [fd 16, fd 24] },
  { op := 0x38, cls := 0, feat := some 11, fds := [fd 16, fdm 24 8 0x11F] },
  { op := 0x39, cls := 0, feat := some 11, fds := [fd 16] },
  { op := 0x40, cls := 0, fds := [fd 16, fd 24, fd 32 4, fdm 36 1 3, fd 38 2] },
  { op := 0x50, cls := 1, bisque := true, fds := [fd 16 1, fd 17 1, fd 24, fd 32 4] } ]

def opsAdmin : List OpRow := [
  { op := 0x60, cls := 2, minLen := 8, flags := flNone,
    fds := [fdm 16 4 0xFFFFF, fdm 20 1 0x3F, fdm 21 1 3, fd 24, fd 32, fd 40, fd 48 1, fd 49 1, fd 50 2, fd 56, fd 64, fd 72, fd 80] },
  { op := 0x61, cls := 2, flags := flNone, fds := [fdm 16 4 0xFFFFF, fdm 20 1 1, fd 24] },
  { op := 0x62, cls := 2, flags := flNone,
    fds := [fdm 16 2 0x3FFF, fdm 18 1 0x3F, fdm 19 1 0x3F, fdm 20 4 0xFFFFF, fd 24, fd 32 1, fd 33 1, fd 34 2, fd 40, fd 48] },
  { op := 0x63, cls := 2, flags := flNone, fds := [fd 16 2] },
  { op := 0x64, cls := 2, bisque := true, minLen := 8, flags := flNone,
    fds := [fdm 16 1 0x3F, fdm 17 1 0xF, fd 18 2, fd 20 2, fd 24, fd 32, fd 48 1, fd 52 4, fd 56 1, fd 60 4, fd 64 1, fd 68 4, fd 72 1,
            fd 76 4, fd 80 1, fd 84 4] },
  { op := 0x65, cls := 2, flags := flNone, feat := some 9,
    fds := [fdm 16 4 0xFFFFF, fdm 20 1 1, fdm 21 1 1, fd 22 1, fd 24, fd 32, fd 40, fd 48] },
  { op := 0x66, cls := 2, flags := flNone, feat := some 9, fds := [fdm 16 4 0xFFFFF, fdm 20 1 1, fdm 21 1 1] },
  { op := 0x67, cls := 2, flags := flNone, fds := [fdm 16 4 0xFFFFF, fdm 20 1 0xF, fd 22 2, fd 24, fd 32, fdm 40 4 0xFFFFF] },
  { op := 0x68, cls := 2, flags := flNone, fds := [fdm 16 2 0x3FF] },
  { op := 0x69, cls := 2, bisque := true, flags := flNone, fds := [fdm 16 1 1, fdm 17 1 0xF, fd 24, fd 32 4, fd 36 4] },
  { op := 0x6A, cls := 2, flags := flNone, fds := [fdm 16 1 1] },
  { op := 0x6B, cls := 2, flags := flNone },
  { op := 0x6C, cls := 2, bisque := true, flags := flNone, fds := [fdm 16 1 1, fd 17 1, fd 24, fd 32, fd 40 4] },
  { op := 0x6D, cls := 2, flags := flNone },
  { op := 0x6E, cls := 2, flags := flNone, fds := [fdm 16 1 0xF] },
  { op := 0x6F, cls := 2, flags := flNone, feat := some 3, fds := [fdm 16 2 0xFFF, fd 18 2, fdm 20 1 3, fd 24, fd 32, fd 40 4] },
  { op := 0xF0, cls := 2, bisque := true, flags := flNone, fds := [fd 16 1, fd 17 1, fd 24, fd 32] } ]

/-- Table 04-5. -/
def opTable : List OpRow := opsData ++ opsXfm ++ opsAdmin
def opRow (op : Nat) : Option OpRow := opTable.find? (fun r => r.op == op)

/-- Where an inline payload starts (R77). -/
def payloadAt (op : Nat) : Nat := if op = 0x1A then 128 else 64

/-- A packet from its bytes, `bs` being its slots' contents. -/
def parsePkt (bs : List Byte) : Pkt :=
  let op := byteFld bs 0 0
  let flags := byteFld bs 1 1
  let len := byteFld bs 3 2
  let cp := byteFld bs 7 4
  let n := len * 16
  let tr := bitAt flags 3
  let stop := if tr then n - 16 else n
  let inl := bitAt flags 4
  let body := bs.take stop
  let row := (opRow op).getD { op := op, cls := 0 }
  let used (i : Nat) : Bool := row.fds.any (fun f => decide (f.lo ≤ i) && decide (i < f.lo + f.len)) || (inl && decide (payloadAt op ≤ i)) ||
    (op == 0 && decide (64 ≤ i))
  let gap := if bits cp 31 26 ≠ 0 then some 7 else findUp (fun i => !used i && decide (byteFld body i i ≠ 0)) 16 (stop - 16)
  { op := op
    hdr := { flags := flags, len := len, ctx := bits cp 19 0, part := bits cp 25 20, tag := byteFld bs 15 8,
             payload := if inl then body.drop (payloadAt op) else [],
             trailer := if tr then some (byteFld bs (n - 9) (n - 16), byteFld bs (n - 1) (n - 8)) else none }
    args := row.fds.map (fun f => byteFld body (f.lo + f.len - 1) f.lo)
    gap := gap }

/-- Offset of argument i. -/
def OpRow.at (r : OpRow) (i : Nat) : Nat := (r.fds.getD i { lo := 0 }).lo

/-- Bytes of payload that a packet uses. -/
def Pkt.inlineBytes (p : Pkt) : Nat :=
  if ¬ bitAt p.hdr.flags 4 then 0
  else match p.op with
    | 0x03 => p.arg 1
    | 0x05 => p.arg 3 * (if bitAt (p.arg 5) 0 then 8 else 4)
    | 0x06 => p.arg 3 * (if bitAt (p.arg 5) 0 then 8 else 4)
    | 0x1A => if p.arg 0 = 0 then p.arg 7 * p.arg 1 * 2 else if p.arg 0 = 1 then p.arg 7 * 8 else 0
    | _ => 0

/-- Offsets that a list of (condition, offset) names. -/
def named (l : List (Bool × Nat)) : List Nat := (l.filter (·.1)).map (·.2)

/-- Byte of the lowest reserved bit set in a field. -/
def Fd.bad (f : Fd) (v : Nat) : Option Nat :=
  (findUp (fun i => decide (Nat.land (bits v (8 * i + 7) (8 * i)) (255 - bits f.mask (8 * i + 7) (8 * i)) ≠ 0)) 0 f.len).map (f.lo + ·)

/-- "Reserved unless" of the transform bodies (R234, Table 10-2), from the offsets of their fields. -/
def xfmReserved (p : Pkt) (op : Nat) (aff pwl : Bool) (mode sf df : Nat) (scale bias gen aux ssc dsc stats sb salt : Nat × Nat) : List Nat :=
  named [(!aff && p.arg scale.1 != 0, scale.2), (!aff && p.arg bias.1 != 0, bias.2), (!pwl && p.arg gen.1 != 0, gen.2),
    (!pwl && p.arg aux.1 != 0, aux.2), (!fmtMx sf && p.arg ssc.1 != 0, ssc.2), (!fmtMx df && p.arg dsc.1 != 0, dsc.2),
    (!bitAt mode 3 && p.arg stats.1 != 0, stats.2), (!bitAt mode 3 && p.arg sb.1 != 0, sb.2), (mode % 4 != 2 && p.arg salt.1 != 0, salt.2),
    (decide (op ≥ 8), 42)]

/-- Conditionally reserved fields and reserved values of the user opcodes. -/
def userReserved (p : Pkt) : List Nat :=
  let a := p.arg
  match p.op with
  | 0x05 => named [(bitAt p.hdr.flags 4 && a 2 != 0, 32)]
  | 0x06 => named [(bitAt p.hdr.flags 4 && a 2 != 0, 32)]
  | 0x18 =>
    named [(!fmtDefined (a 3), 40), (!fmtDefined (a 4), 41), (decide (3 < a 5), 42), (a 6 % 4 == 3, 43), (a 5 != 3 && a 16 != 0, 104),
      ((a 16 == 0 || !fmtMx (a 3)) && a 17 != 0, 112)] ++
    xfmReserved p (a 5) (a 5 == 1) (a 5 == 2 || a 5 == 3) (a 6) (a 3) (a 4) (7, 44) (8, 48) (9, 52) (10, 56) (11, 64) (12, 72) (13, 80) (14, 88) (15, 96)
  | 0x19 =>
    named [(!fmtDefined (a 4), 48), (!fmtDefined (a 5), 49), (!fmtDefined (a 6), 50), (a 8 % 4 == 3, 52), (!fmtMx (a 4) && a 10 != 0, 64),
      (!fmtMx (a 5) && a 11 != 0, 72), (!fmtMx (a 6) && a 12 != 0, 80), (!bitAt (a 8) 3 && a 13 != 0, 88), (!bitAt (a 8) 3 && a 14 != 0, 96),
      (a 8 % 4 != 2 && a 15 != 0, 104)]
  | 0x1A =>
    let d := a 0
    named [(d == 3, 16), (!fmtDefined (a 2), 18), (!fmtDefined (a 3), 19), (a 4 % 4 == 3, 20),
      ((d == 2 || bitAt p.hdr.flags 4) && a 6 != 0, 32), (d == 2 && a 9 != 0, 48), (d == 2 && a 10 != 0, 56), (d != 0 && a 11 != 0, 58),
      (d == 1 && a 12 != 0, 64), (d == 2 && a 13 != 0, 72), (d != 2 && a 14 != 0, 80), (d != 2 && a 15 != 0, 88), (a 4 % 4 != 2 && a 16 != 0, 96)]
  | 0x21 =>
    if a 5 = 4 then
      named [(a 3 != 0, 40), (a 4 != 0, 41), (a 6 != 0, 43), (a 7 != 0, 44), (a 8 != 0, 48), (a 9 != 0, 52), (a 10 != 0, 56), (a 11 != 0, 64),
        (a 12 != 0, 72), (a 14 != 0, 80), (a 15 != 0, 88), (a 16 != 0, 96)]
    else
      named [(!fmtDefined (a 3), 40), (!fmtDefined (a 4), 41), (decide (4 < a 5), 42), (a 6 % 4 == 3, 43), (blockOf (a 4) == 1 && a 12 != 0, 72)] ++
      xfmReserved p (a 5) (a 5 == 1) (a 5 == 2 || a 5 == 3) (a 6) (a 3) 0 (7, 44) (8, 48) (9, 52) (10, 56) (11, 64) (12, 200) (14, 80) (15, 88) (16, 96)
        |>.filter (· != 200)
  | 0x40 => named [(!bitAt (a 3) 0 && a 4 != 0, 38)]
  | 0x61 => named [(!bitAt (a 1) 0 && a 2 != 0, 24)]
  | 0x62 => named [(bits (a 2) 3 2 == 3, 19)]
  | 0x65 => named [(!bitAt (a 2) 0 && a 4 != 0, 24), (!bitAt (a 2) 0 && a 5 != 0, 32), (!bitAt (a 2) 0 && a 6 != 0, 40), (!bitAt (a 2) 0 && a 7 != 0, 48)]
  | 0x67 => named [(!bitAt (a 1) 3 && a 5 != 0, 40)]
  | _ => []

/-- Every reserved byte of a packet that is not 0 (R14, R76), a trailing byte of the payload included. -/
def Pkt.reservedErrs (p : Pkt) (r : OpRow) : List Nat :=
  let inl := bitAt p.hdr.flags 4
  let tail := if inl then (findUp (fun i => decide ((p.hdr.payload.getD i 0).toNat ≠ 0)) p.inlineBytes (p.hdr.payload.length - p.inlineBytes)).map
      (payloadAt p.op + ·) else none
  (if 64 ≤ p.hdr.flags then [1] else []) ++ p.gap.toList ++ tail.toList ++
  ((r.fds.zip p.args).filterMap (fun e => e.1.bad e.2)) ++ userReserved p

/-- LENGTH covers body, payload and trailer (R94 step 6). -/
def Pkt.lengthOk (p : Pkt) (r : OpRow) : Bool :=
  let need := (if bitAt p.hdr.flags 4 then payloadAt p.op / 16 + (p.inlineBytes + 15) / 16 else r.minLen) + b2n (bitAt p.hdr.flags 3)
  decide (r.minLen ≤ p.hdr.len) && decide (need ≤ p.hdr.len) && decide (p.hdr.len ≤ 32)

/-- A user address, or a physical one on the admin queue, is out of its space (R78). -/
def badAddr (admin : Bool) (a : Nat) : Bool :=
  if ¬ admin then decide (2 ^ 57 ≤ a) else !bitAt a 63 && decide (bits a 62 46 ≠ 0)

/-- A range ends outside its space (R78, R132, R197). Beyond 2^57 it is the COUNT field that is named; beyond the limits of R78, by R81, the
address. -/
def badRange (admin : Bool) (a n : Nat) : Bool :=
  if ¬ admin then decide (2 ^ 57 < a + n)
  else if bitAt a 63 then decide (2 ^ 63 < a % 2 ^ 63 + n)
  else decide (dieBytes < inDie a + n)

/-- Two ranges that are not empty meet. -/
def overlap (a b : Nat × Nat) : Bool := decide (a.2 ≠ 0) && decide (b.2 ≠ 0) && meets a.1 a.2 b.1 b.2

/-- The rules of R237 and R245 on the arrays of an element packet: offsets of COUNT, of the source formats and of DFMT, of SBLOCK; and its
input and output arrays as (offset, base, bytes). -/
def eltRules (count : Nat) (oc : Nat) (fs : List (Nat × Nat)) (df od : Nat) (stats : Bool) (sb osb : Nat)
    (ins outs : List (Nat × Nat × Nat)) (same : Nat × Nat × Nat → Nat × Nat × Nat → Bool) : List Nat :=
  let blocks := (df, od) :: fs
  let clash := (outs.flatMap (fun o => ins.filterMap (fun i => if overlap o.2 i.2 ∧ ¬ same o i then some (min o.1 i.1) else none))) ++
    (outs.zip (List.range outs.length)).flatMap (fun o => (outs.drop (o.2 + 1)).filterMap (fun k => if overlap o.1.2 k.2 then some (min o.1.1 k.1) else none))
  named [(count == 0 || decide (2 ^ 36 < count) || blocks.any (fun f => count % blockOf f.1 != 0), oc),
    (stats && (decide (sb < 5) || decide (20 < sb)), osb)] ++
  (if stats then (blocks.filter (fun f => decide (2 ^ sb < blockOf f.1))).map (·.2) else []) ++ clash ++
  named [((ins ++ outs).any (fun r => decide (r.2.2 ≠ 0) && decide (2 ^ 57 < r.2.1 + r.2.2)), oc)] ++
  ((ins ++ outs).filter (fun r => decide (2 ^ 57 ≤ r.2.1))).map (·.1)

/-- Scale bytes of an array. -/
def scaleBytes (f n : Nat) : Nat := if fmtMx f then (n + 31) / 32 else 0
/-- Bytes of the statistics array (R236). -/
def statBytes (mode n sb : Nat) : Nat := if bitAt mode 3 then (n + 2 ^ sb - 1) / 2 ^ sb * 16 else 0

/-- Values out of range of a TRANSFORM (R237). -/
def transformErrs (p : Pkt) : List Nat :=
  let a := p.arg
  let n := a 2
  let ins := [(16, a 0, arrayBytes (a 3) n), (64, a 11, scaleBytes (a 3) n)] ++
    (if a 16 = 0 then [] else [(104, a 16, arrayBytes (a 3) n), (112, a 17, scaleBytes (a 3) n)])
  let outs := [(24, a 1, arrayBytes (a 4) n), (72, a 12, scaleBytes (a 4) n), (80, a 13, statBytes (a 6) n (a 14))]
  let inPlace (o i : Nat × Nat × Nat) : Bool := o.1 == 24 && i.1 == 16 && o.2 == i.2 && elemBits (a 3) == elemBits (a 4) && blockOf (a 3) == 1 && blockOf (a 4) == 1
  eltRules n 32 [(a 3, 40)] (a 4) 41 (bitAt (a 6) 3) (a 14) 88 ins outs inPlace ++
  named [(a 3 == a 4 && (a 5 == 0 || (a 5 == 1 && a 7 == 0x3F800000 && a 8 == 0)), 40), (a 5 == 2 && a 10 % 16 != 0, 56),
    (a 5 == 3 && a 10 % 64 != 0, 56), (a 13 % 16 != 0, 80)]

/-- Values out of range of a REDUCE (R245). -/
def reduceErrs (p : Pkt) : List Nat :=
  let a := p.arg
  let n := a 3
  let ins := [(16, a 0, arrayBytes (a 4) n), (64, a 10, scaleBytes (a 4) n), (24, a 1, arrayBytes (a 5) n), (72, a 11, scaleBytes (a 5) n)]
  let outs := [(32, a 2, arrayBytes (a 6) n), (80, a 12, scaleBytes (a 6) n), (88, a 13, statBytes (a 8) n (a 14))]
  let whole (f s d : Nat) : Bool := f == a 6 && d == a 2 && (!fmtMx f || s == a 12)
  let inPlace (o i : Nat × Nat × Nat) : Bool :=
    (whole (a 4) (a 10) (a 0) && ((o.1 == 32 && i.1 == 16) || (o.1 == 80 && i.1 == 64))) ||
    (whole (a 5) (a 11) (a 1) && ((o.1 == 32 && i.1 == 24) || (o.1 == 80 && i.1 == 72)))
  eltRules n 40 [(a 4, 48), (a 5, 49)] (a 6) 50 (bitAt (a 8) 3) (a 14) 96 ins outs inPlace ++
  named [(bits (a 9) 30 23 == 255, 56), (a 13 % 16 != 0, 88)]

/-- Values out of range of a ROUTE (Table 09-11). -/
def routeErrs (p : Pkt) : List Nat :=
  let a := p.arg
  let d := a 0
  let n := a 7
  let k := a 1
  let rows := rowBytes (a 2) (a 8)
  let rng (off base len : Nat) : Bool × Nat := (decide (len ≠ 0) && decide (2 ^ 57 < base + len), off)
  named [(if d = 1 then k != 0 else (k == 0 || decide (8 < k)), 17), (n == 0 || decide (2 ^ 20 < n), 40),
    (a 8 == 0 || decide (65536 < a 8) || a 8 % blockOf (a 2) != 0 || a 8 % blockOf (a 3) != 0, 44), (a 9 % 32 != 0, 48),
    (d != 2 && (a 10 == 0 || decide (256 < a 10)), 56), (decide (2 ^ 63 ≤ a 13), 72),
    rng 24 (a 5) (n * (if d = 2 then k else 1) * rows), rng 32 (a 6) (if d = 2 ∨ bitAt p.hdr.flags 4 then 0 else if d = 0 then n * k * 2 else n * 8),
    rng 48 (a 9) (if d = 2 then 0 else a 10 * 32), rng 64 (a 12) (if d = 1 then 0 else n * k * 4),
    rng 80 (a 14) (if d = 2 then n * rowBytes (a 3) (a 8) else 0), rng 88 (a 15) (if d = 2 then n * k * 4 else 0)]

/-- Values out of range of a DRAFT_SEND (Table 10-2). -/
def sendErrs (p : Pkt) : List Nat :=
  let a := p.arg
  let n := a 2
  if a 5 = 4 then named [(n == 0 || decide (2 ^ 40 < n), 32), (decide (2 ^ 57 < a 1 + n), 32)]
  else
    let ins := [(24, a 1, arrayBytes (a 3) n), (64, a 11, scaleBytes (a 3) n)]
    let outs := [(80, a 14, statBytes (a 6) n (a 15))]
    let sc := decide (1 < blockOf (a 4))
    eltRules n 32 [(a 3, 40)] (a 4) 41 (bitAt (a 6) 3) (a 15) 88 ins outs (fun _ _ => false) ++
    named [(sc && (a 12 == 0 || decide (65536 < a 12) || a 12 % blockOf (a 4) != 0), 72), (sc && a 12 != 0 && n % a 12 != 0, 32),
      (a 5 == 2 && a 10 % 16 != 0, 56), (a 5 == 3 && a 10 % 64 != 0, 56), (a 14 % 16 != 0, 80)]

/-- Values out of range of the other user opcodes. -/
def userErrs (x : Half) (admin : Bool) (p : Pkt) : List Nat :=
  let a := p.arg
  match p.op with
  | 0x01 => named [(badAddr admin (a 0), 16), (badAddr admin (a 1), 24), (a 2 == 0 || decide (2 ^ 40 < a 2), 32),
      (badRange admin (a 0) (a 2), if admin then 16 else 32), (badRange admin (a 1) (a 2), if admin then 24 else 32)]
  | 0x02 => named [(badAddr admin (a 0), 16), (a 1 == 0 || decide (2 ^ 40 < a 1), 24), (badRange admin (a 0) (a 1), if admin then 16 else 24)]
  | 0x03 => named [(badAddr admin (a 0), 16), (a 1 == 0 || decide ((if bitAt p.hdr.flags 3 then 432 else 448) < a 1), 24),
      (badRange admin (a 0) (a 1), 16)]
  | 0x04 =>
    let far (sy sz : Nat) : Nat := (a 4 - 1) * sz + (a 3 - 1) * sy + a 2
    named [(badRange false (a 0) (far (a 5) (a 6)), 16), (badRange false (a 1) (far (a 7) (a 8)), 24),
      (a 2 == 0 || decide (2 ^ 40 < a 2 * a 3 * a 4) || (decide (1 < a 3) && decide (a 7 < a 2)) ||
        (decide (1 < a 4) && decide (a 8 < (a 3 - 1) * a 7 + a 2)), 32),
      (a 3 == 0 || decide (2 ^ 24 < a 3), 36), (a 4 == 0 || decide (2 ^ 24 < a 4), 40)]
  | 0x05 => named [(badAddr false (a 0), 16), (badAddr false (a 1), 24), (badAddr false (a 2), 32), (a 3 == 0 || decide (2 ^ 24 < a 3), 40),
      (!bitAt p.hdr.flags 4 && badRange false (a 2) (a 3 * (if bitAt (a 5) 0 then 8 else 4)), 40), (decide (12 < a 4), 44)]
  | 0x06 => named [(badAddr false (a 0), 16), (badAddr false (a 1), 24), (badAddr false (a 2), 32), (a 3 == 0 || decide (2 ^ 24 < a 3), 40),
      (!bitAt p.hdr.flags 4 && badRange false (a 2) (a 3 * (if bitAt (a 5) 0 then 8 else 4)), 40), (decide (12 < a 4), 44)]
  | 0x10 => named [(badAddr admin (a 0) || a 0 % 8 != 0, 16), (decide (2 ^ 63 ≤ a 1), 24)]
  | 0x11 => named [(badAddr admin (a 0) || a 0 % 8 != 0, 16), (decide (2 ^ 63 ≤ a 1), 24)]
  | 0x18 => transformErrs p
  | 0x19 => reduceErrs p
  | 0x1A => routeErrs p
  | 0x20 => named [(a 0 % 64 != 0 || badAddr false (a 0), 16), (a 1 % 2 ^ (a 3) != 0 || badRange false (a 1) (a 2 * 2 ^ (a 3)), 24),
      (decide (a 2 < 2) || decide (2 ^ 20 < a 2), 32), (decide (a 3 < 12) || decide (28 < a 3), 36), (a 4 % 8 != 0 || badAddr false (a 4), 40),
      (a 5 % 8 != 0 || badAddr false (a 5), 48), (decide (2 ^ 63 ≤ a 6), 56)]
  | 0x21 => sendErrs p
  | 0x22 => named [(badAddr false (a 0), 16)]
  | 0x30 =>
    let e := a 2
    let pb := pageBytes (eSize e)
    named [(a 0 % pb != 0 || badAddr false (a 0), 16), (a 1 == 0 || a 1 % pb != 0 || badRange false (a 0) (a 1), 24),
      (!eValid e || !eLeaf e || eSize e == 3 || eTarget e != 0 || eRun e != 0 || bits e 63 62 != 0 || bitAt e 8 || eFrame e % pb != 0, 32)]
  | 0x31 => named [(a 0 % 4096 != 0 || badAddr false (a 0), 16), (a 1 == 0 || a 1 % 4096 != 0 || badRange false (a 0) (a 1), 24)]
  | 0x32 => named [(a 0 % 4096 != 0 || badAddr false (a 0), 16), (a 1 == 0 || a 1 % 4096 != 0 || badRange false (a 0) (a 1), 24)]
  | 0x33 => named [(a 0 % 4096 != 0 || badAddr false (a 0), 16), (a 1 % 4096 != 0 || badRange false (a 0) (a 1), 24)]
  | 0x34 => named [(a 0 % 4096 != 0 || badAddr false (a 0), 16), (a 1 % 4096 != 0 || badRange false (a 0) (a 1), 24)]
  | 0x38 =>
    let hs := ((x.ctx? p.hdr.ctx).map (·.heapSize)).getD 0
    named [(a 0 == 0 || decide (hs < a 0), 16), (bits (a 1) 4 0 != 0 && (decide (bits (a 1) 4 0 < 12) || decide (30 < bits (a 1) 4 0)), 24)]
  | 0x39 => named [(badAddr false (a 0), 16)]
  | 0x40 =>
    if bitAt (a 3) 0 then []
    else named [(badAddr false (a 0), 16), (a 1 == 0 || decide (2 ^ 40 < a 1) || badRange false (a 0) (a 1), 24),
      (decide (a 2 < 64) || decide (16384 < a 2), 32)]
  | 0x50 => named [(decide (2 < a 0) || (a 0 == 1 && admin), 16), (if a 0 = 0 then a 1 == 0 || decide (12 < a 1) else a 1 != 0, 17),
      (badAddr admin (a 2), 24), (badRange admin (a 2) (a 3), 24)]
  | _ => []

/-- A trailer's fence address and value are out of range (R111, R112). -/
def trailerErrs (admin : Bool) (p : Pkt) : List Nat :=
  match p.hdr.trailer with
  | none => []
  | some (f, v) => named [(badAddr admin f || f % 8 != 0, p.hdr.len * 16 - 16), (decide (2 ^ 63 ≤ v), p.hdr.len * 16 - 8)]

/-- The first offset of a list, as a DETAIL (R81). -/
def detailOf (l : List Nat) : Option Nat := (l.foldl (fun (b : Option Nat) n => match b with
  | none => some n
  | some k => some (min k n)) none).map (· / 2)

/-- Features a packet needs beyond its opcode's own: MX, WQ-S4 and relay programs (Table 05-13). -/
def Pkt.needs (p : Pkt) : List Nat :=
  let a := p.arg
  let f (l : List Nat) : List Nat := (if l.any fmtMx then [6] else []) ++ (if l.any (· == 0x10) then [7] else [])
  match p.op with
  | 0x18 => f [a 3, a 4] ++ (if a 5 = 3 then [8] else [])
  | 0x19 => f [a 4, a 5, a 6]
  | 0x1A => f [a 2, a 3]
  | 0x21 => if a 5 = 4 then [] else f [a 3, a 4] ++ (if a 5 = 3 then [8] else [])
  | 0x66 => if bitAt (a 2) 0 then [10] else []
  | 0x65 => if a 1 = 1 then [10] else []
  | 0x60 => if bitAt (a 2) 0 then [9] else []
  | 0x64 => if bitAt (a 1) 1 then [13] else []
  | _ => []

/-- The checks of a fetched packet (R94, steps 2 to 8): status and DETAIL of the first that fails; `more` holds the value checks of the
admin opcodes. -/
def Half.checkPkt (x : Half) (q : Nat) (qu : Queue) (p : Pkt) (more : List Nat) : Option (Nat × Nat) :=
  let admin := q == 0
  match opRow p.op with
  | none => some (0x10, 0)
  | some r =>
    if ¬ x.glaze ∧ ¬ r.bisque then some (0x52, 0)
    else if ¬ admin ∧ r.cls = 2 then some (0x12, 1)
    else if admin ∧ r.cls = 0 then some (0x12, 7)
    else if p.op = 0xF0 ∧ x.sec.debugLevel = 0 then some (0x12, 6)
    else if p.hdr.ctx ≠ (if admin then 0 else qu.ctx) then some (0x12, 2)
    else if p.hdr.part ≠ (if admin then 0 else qu.part) then some (0x12, 3)
    else match detailOf (p.reservedErrs r) with
      | some d => some (0x11, d)
      | none =>
        if Nat.land p.hdr.flags (0x3F - r.flags) ≠ 0 ∨ (p.op = 0x03 ∧ ¬ bitAt p.hdr.flags 4) ∨ bitAt p.hdr.flags 3 ≠ p.hdr.trailer.isSome then some (0x11, 0)
        else if ¬ p.lengthOk r then some (0x11, 1)
        else match detailOf (userErrs x admin p ++ more ++ trailerErrs admin p) with
          | some d => some (0x11, d)
          | none =>
            if bitAt p.hdr.flags 5 ∧ ¬ qu.allowPrio then some (0x12, 4)
            else if (r.feat.toList ++ p.needs).any (fun f => !bitAt x.features f) then some (0x12, 5)
            else if admin then none
            else match x.ctx? qu.ctx with
              | none => some (0x34, 0)
              | some c => match c.st with
                | .faulted => some (0x30, 0)
                | .draining => some (0x34, 0)
                | .destroyed => some (0x34, 0)
                | _ => none

end Sys2Proof.Machine
end

