-- ==== Sys2Proof/Machine/UserPkt.lean ====
section
/-! DEFINITION. What the packets of user queues do that take no channel (chapters 5 and 6, R157 to R160, R179, R180, R263, R271, R282):
fences, events, mappings, pins, allocations, streams opened and closed. -/
namespace Sys2Proof.Machine

/-- A packet without a channel completes. -/
def Mach.endPkt (m : Mach) (h : HalfId) (d : Disp) (st det res fa : Nat) (sync : Bool) : Mach :=
  { m with blk := (m.blk.finish h d.ref st det res fa d.pkt.hdr.trailer sync).release h d.ref.q d.ref.slot }

/-- A FENCE_SIGNAL or EVENT_RAISE completes, and with it what it waited for. -/
def Mach.endOrdered (m : Mach) (h : HalfId) (d : Disp) (st det res fa : Nat) (sync : Bool) : Mach :=
  (m.orderClear h d.ref.q d.ref.slot false).endPkt h d st det res fa sync

/-- A fabric request of a half for a purpose is still out, or waits to be issued. -/
def Half.fabOwes (x : Half) (p : FabFor → Bool) : Bool := x.fab.reqs.any (fun r => p r.2.what) || x.fab.waiting.any (fun r => p r.what)

/-! ### Fences and events -/

/-- FENCE_SIGNAL (R96, R111, R113, R204): behind everything earlier in its queue. -/
def Mach.doSignal (m : Mach) (h : HalfId) (d : Disp) (sync : Bool) : Mach :=
  let q := d.ref.q
  let p := d.pkt
  match m.orderReady h q d.ref.slot false with
  | (m0, none) => m0
  | (m0, some refused) =>
    let (m1, a) := m0.fenceAt h q d.ref.slot p.hdr.ctx p.hdr.part (p.arg 0) true sync
    match a with
    | .wait => m1
    | .absent => m1.endOrdered h d 0x20 0xC0 0 (p.arg 0) sync
    | .prot k => m1.endOrdered h d 0x21 k 0 (p.arg 0) sync
    | .outside => m1.endOrdered h d 0x21 0x0D 0 (p.arg 0) sync
    | .fabric f =>
      let v := p.arg 1 % 2 ^ 63 + (if refused then 2 ^ 63 else 0)
      let r : FabReq := { op := 0x33, addr := f, len := 8, ctx := p.hdr.ctx, part := p.hdr.part, dst := fabDst f, data := leBytes 8 v, value := v,
                          err := refused, what := .fence d.ref }
      ((m1.orderClear h q d.ref.slot false).fabIssue h r).fabDrain h 64
    | .area off =>
      let (m2, st, det) := m1.fenceApply off (p.arg 1) refused p.hdr.ctx false
      if st = 0 ∧ refused then m2.endOrdered h d 0x21 0x09 0 0 sync
      else m2.endOrdered h d st det 0 0 sync

/-- FENCE_WAIT (R111, R115, R116). -/
def Mach.doWait (m : Mach) (h : HalfId) (d : Disp) (sync : Bool) : Mach :=
  let q := d.ref.q
  let p := d.pkt
  let held (x : Half) : Bool := x.waiters.any (fun w => w.ref.q == q && w.ref.slot == d.ref.slot)
  if held m.blk.a ∨ held m.blk.b then m
  else
    let (m1, a) := m.fenceAt h q d.ref.slot p.hdr.ctx p.hdr.part (p.arg 0) false sync
    match a with
    | .wait => m1
    | .absent => m1.endPkt h d 0x20 0xC0 0 (p.arg 0) sync
    | .prot k => m1.endPkt h d 0x21 k 0 (p.arg 0) sync
    | .outside => m1.endPkt h d 0x21 0x0D 0 (p.arg 0) sync
    | .fabric _ => m1.endPkt h d 0x11 8 0 0 sync
    | .area off => m1.fenceWait d.ref p.hdr.ctx off (p.arg 1) (p.arg 2) d.time

/-- What reaching a place of the event ring comes to. -/
inductive RingRes where
  | ok (p : Place)
  | wait
  | stop (st det : Nat) (lost : Option Nat)
  deriving DecidableEq, Repr

/-- Reach an address of the event ring, with the checker's decision (R39, R119). -/
def Mach.ringAt (m : Mach) (h : HalfId) (d : Disp) (opnd va : Nat) (write sync : Bool) : Mach × RingRes :=
  let p := d.pkt
  let pp := m.blk.dataPort d.ref.q
  let (m1, r) := m.resolve h d.ref.q d.ref.slot opnd 0xFFFF p.hdr.ctx p.hdr.part va write pp sync
  (m1, match r with
    | .wait => .wait
    | .absent => .stop 0x20 0xC0 none
    | .prot k => .stop 0x21 k none
    | .ok (.dev a) _ => match (m1.blk.half h).devAccess a p.hdr.ctx p.hdr.part false with
      | .ok => .ok (.dev a)
      | .denied => .stop 0x21 0x0C (some a)
      | .unreachable => .stop 0x21 0x0E none
    | .ok (.host a t s) _ => if m1.blk.portReady pp p.hdr.part then .ok (.host a t s) else .wait
    | .ok (.fab _) _ => .stop 0x21 0x0D none)

/-- An EVENT_RAISE that the ring's page ends; a checker denial loses the context (R39). -/
def Mach.eventStop (m : Mach) (h : HalfId) (d : Disp) (st det : Nat) (lost : Option Nat) (va : Nat) (sync : Bool) : Mach :=
  let m1 := m.endOrdered h d st det 0 va sync
  match lost with
  | none => m1
  | some a =>
    let b := m1.blk.upd h (fun x => x.raiseErr 4 0 0x14 3 2 a (some d.pkt.hdr.part))
    { m1 with blk := { b with lossQ := b.lossQ ++ [{ ctx := d.pkt.hdr.ctx, cause := 1, master := 2 ^ 15 + d.pkt.hdr.part % 64 * 512,
                                                      access := 2, addr := a, half := h }] } }

/-- EVENT_RAISE (R119, R96, R204). -/
def Mach.doEvent (m : Mach) (h : HalfId) (d : Disp) (sync : Bool) : Mach :=
  let p := d.pkt
  match m.orderReady h d.ref.q d.ref.slot false with
  | (m0, none) => m0
  | (m0, some refused) =>
    match (m0.blk.half h).ctx? p.hdr.ctx with
    | none => m0.endOrdered h d 0x34 0 0 0 sync
    | some c =>
      if c.eventLog2 = 0 then m0.endOrdered h d 0x40 0 0 0 sync
      else
        let n := 2 ^ c.eventLog2
        let slotVa := c.eventVa + 64 + c.eventProduced % n * 32
        match m0.ringAt h d 0 c.eventVa false sync with
        | (m1, .wait) => m1
        | (m1, .stop st det l) => m1.eventStop h d st det l c.eventVa sync
        | (m1, .ok hdrR) =>
          let consumed := leNat ((m1.mem.readAt hdrR 16).drop 8)
          if (c.eventProduced + 2 ^ 64 - consumed) % 2 ^ 64 = n then m1.endOrdered h d 0x40 0 0 0 sync
          else match m1.ringAt h d 3 slotVa true sync with
            | (m2, .wait) => m2
            | (m2, .stop st det l) => m2.eventStop h d st det l slotVa sync
            | (m2, .ok at_) =>
              match m2.ringAt h d 1 c.eventVa true sync with
              | (m3, .wait) => m3
              | (m3, .stop st det l) => m3.eventStop h d st det l c.eventVa sync
              | (m3, .ok hdrW) =>
                let now := m3.clk.now h
                let next := (c.eventProduced + 1) % 2 ^ 64
                let mem1 := m3.mem.writeAt at_ (eventRecord (p.arg 1) (p.arg 0) p.hdr.ctx now p.hdr.tag)
                let mem2 := mem1.writeAt hdrW (leBytes 8 next)
                let b1 := m3.blk.updCtx h p.hdr.ctx (fun e => { e with eventProduced := next })
                let b2 := b1.cause m3.clk (b1.ringPort d.ref.q) c.part c.eventVec
                Mach.endOrdered { m3 with mem := mem2, blk := b2 } h d (if refused then 0x21 else 0) (if refused then 0x09 else 0) 0 0 sync

/-! ### Ranges -/

/-- Add a range to a list of ranges of a context; ranges that touch or overlap merge (R158). -/
def addRange (l : List PinRange) (r : PinRange) : List PinRange :=
  let near (k : PinRange) : Bool := k.ctx == r.ctx && decide (k.lo ≤ r.hi) && decide (r.lo ≤ k.hi)
  let m := (l.filter near).foldl (fun (a : PinRange) k => { a with lo := min a.lo k.lo, hi := max a.hi k.hi }) r
  l.filter (fun k => !near k) ++ [m]

/-- Remove a range from a list of ranges of a context. -/
def subRange (l : List PinRange) (r : PinRange) : List PinRange :=
  l.flatMap (fun k =>
    if k.ctx ≠ r.ctx ∨ k.hi ≤ r.lo ∨ r.hi ≤ k.lo then [k]
    else (if k.lo < r.lo then [{ k with hi := r.lo }] else []) ++ (if r.hi < k.hi then [{ k with lo := r.hi }] else []))

/-- A range lies in the ranges of a context. -/
def inRanges (l : List PinRange) (r : PinRange) : Bool := l.any (fun k => k.ctx == r.ctx && decide (k.lo ≤ r.lo) && decide (r.hi ≤ k.hi))

/-- Whether a range meets the fence area, the heap range or the event ring of a context (R104, R157). -/
def Ctx.meetsOwn (c : Ctx) (va n : Nat) (events : Bool) : Bool :=
  (c.fenceLog2 != 0 && meets va n c.fenceVa (2 ^ c.fenceLog2 * 8)) || (c.heapSize != 0 && meets va n c.heapVa c.heapSize) ||
  (events && c.eventLog2 != 0 && meets va n c.eventVa (64 + 32 * 2 ^ c.eventLog2)) ||
  (c.sealSize != 0 && meets va n c.sealVa c.sealSize)

/-- The parts of a page that lie in different 2 MiB frames: (local offset, 4 KiB pages). -/
def pageChunks (frame bytes : Nat) : List (Nat × Nat) :=
  if bytes ≤ 2 ^ 21 then [(frame, bytes / 4096)] else (List.range (bytes / 2 ^ 21)).map (fun i => (frame + i * 2 ^ 21, 512))

/-- Count sealed leaves that name a key slot, up or down (R416). -/
def Blk.sealCount (b : Blk) (h : HalfId) (ctx slot n : Nat) (up : Bool) : Blk :=
  let f (k : KeySlot) : KeySlot := { k with pages := if up then k.pages + n else k.pages - n }
  b.updCtx h ctx (fun c => if slot = 0 then { c with slot0 := f c.slot0 } else { c with slot1 := f c.slot1 })

/-! ### MAP and UNMAP -/

/-- A frame that R120 and R124 let a context map (R157, DETAIL 0x08). -/
def Half.mapAllowed (x : Half) (ctx part off : Nat) : Bool :=
  let f := off / 2 ^ 21
  let held := (Tab.look x.obj.frames f).isSome
  let e := x.frame f
  if (x.part part).allocator then (e.mode == 1 && e.owner == ctx) || (e.mode == 2 && e.part == part && held)
  else e.mode == 2 && e.part == part && !held

/-- The references a MAP takes (R120): one for each object of another context that it meets; none where a count would pass 65,535. -/
def Blk.mapRefs (b : Blk) (h : HalfId) (ctx : Nat) : List (Nat × Nat) → Option Blk
  | [] => some b
  | (off, n) :: rest =>
    match (b.half h).objAt off with
    | none => Blk.mapRefs b h ctx rest
    | some o =>
      if o.ctx = ctx then Blk.mapRefs b h ctx rest
      else if o.mappers.any (fun e => e.1 == ctx) then
        Blk.mapRefs (b.updMem h off (fun k => { k with mappers := k.mappers.map (fun e => if e.1 = ctx then (ctx, e.2 + n) else e) })) h ctx rest
      else if 65535 ≤ o.count then none
      else Blk.mapRefs (b.updMem h off (fun k => { k with mappers := k.mappers ++ [(ctx, n)] })) h ctx rest

/-- MAP (R157): status and DETAIL; a failure changes nothing. -/
def Mach.doMap (m : Mach) (h : HalfId) (ctx part va count entry : Nat) : Mach × Nat × Nat :=
  let x := m.blk.half h
  let size := eSize entry
  let pb := pageBytes size
  let n := count / pb
  match x.ctx? ctx with
  | none => (m, 0x34, 0)
  | some c =>
    let hits := m.entriesOf h ctx va (va + count) (count / 4096 + 1)
    let bad := hits.any (fun e => eValid e.2.2 || decide (e.1 < size + 1))
    let frames := (List.range n).map (fun k => eFrame entry + k * pb)
    let gone (f : Nat) : Bool := decide (2 ^ 46 ≤ f) || !x.devOk f || !x.devOk (f + pb - 1) || decide (dieOf f ≠ dieOf (eFrame entry))
    let chunks := frames.flatMap (fun f => pageChunks f pb)
    if c.meetsOwn va count true ∨ bad then (m, 0x11, 8)
    else if frames.any gone then (m, 0x21, 0x05)
    else if bitAt entry 10 ∧ (c.key (bits entry 11 11)).st ≠ .live then (m, 0x21, 0x06)
    else if chunks.any (fun k => !x.mapAllowed ctx part k.1) then (m, 0x21, 0x08)
    else match m.blk.mapRefs h ctx chunks with
      | none => (m, 0x40, 0)
      | some b =>
        match Mach.setLeaves { m with blk := b } h ctx part va size (Nat.land entry 0xFF0) n (fun k => eFrame entry + k * pb) n with
        | none => (m, 0x40, 0)
        | some m1 =>
          let b1 := m1.blk.updObj h (fun o => { o with maps := addRange o.maps { ctx := ctx, lo := va, hi := va + count } })
          ({ m1 with blk := if bitAt entry 10 then b1.sealCount h ctx (bits entry 11 11) n true else b1 }, 0, 0)

/-- The valid leaves a range meets, as (address, bytes, entry). -/
def Mach.leavesIn (m : Mach) (h : HalfId) (ctx va hi : Nat) : List (Nat × Nat × Nat) :=
  ((m.entriesOf h ctx va hi ((hi - va) / 4096 + 1)).filter (fun e => eValid e.2.2 && eLeaf e.2.2)).map (fun e =>
    (e.2.1, 2 ^ (12 + 9 * (e.1 - 1)), e.2.2))

/-- UNMAP (R179, R180): none once its invalidation has started; else the status and DETAIL it ends with. -/
def Mach.doUnmap (m : Mach) (h : HalfId) (ref : PktRef) (ctx part va count : Nat) : Mach × Option (Nat × Nat) :=
  let x := m.blk.half h
  let hi := va + count
  match x.ctx? ctx with
  | none => (m, some (0x34, 0))
  | some c =>
    let ls := m.leavesIn h ctx va hi
    if c.meetsOwn va count false ∨ ls.any (fun l => decide (l.1 < va) || decide (hi < l.1 + l.2.1)) then (m, some (0x11, 8))
    else
      let chips := x.chipsMeet ctx false va hi
      let drops := (ls.filter (fun l => eTarget l.2.2 == 0)).flatMap (fun l => pageChunks (eFrame l.2.2) l.2.1)
      let m1 := m.overRange (fun k a => k.clearLeaf h ctx a) va hi (count / 4096 + 1)
      let r : PinRange := { ctx := ctx, lo := va, hi := hi }
      let b1 := m1.blk.updObj h (fun o => { o with pins := subRange o.pins r, maps := subRange o.maps r })
      let b2 := ls.foldl (fun b l => if bitAt l.2.2 10 then b.sealCount h ctx (bits l.2.2 11 11) 1 false else b) b1
      ({ m1 with blk := b2.invStart h { ctx := ctx, lo := va, hi := hi, drops := drops, what := .unmap ref part } chips }, none)

/-! ### PIN and UNPIN -/

/-- Set or clear PINNED in the leaves of a range that pass a test. -/
def Mach.markPins (m : Mach) (h : HalfId) (ctx va hi : Nat) (on : Nat → Nat → Option Bool) : Mach :=
  m.overRange (fun k a =>
    let (l, host, table, e) := k.peekAt h ctx a 0
    let sp := 2 ^ (12 + 9 * (l - 1))
    match (if eValid e ∧ eLeaf e then on (a / sp * sp) sp else none) with
    | some v => ({ k with mem := k.mem.setWord host (table + levelIdx a l * 8) (putBits e 8 8 (b2n v)) }, sp)
    | none => (k, sp)) va hi ((hi - va) / 4096 + 1)

/-- Cached spans of a context that meet a range learn of PINNED. -/
def Half.pinCache (x : Half) (ctx lo hi : Nat) : Half :=
  let f (s : Span) : Span := if s.ctx = ctx ∧ meets s.va s.bytes lo (hi - lo) then { s with pinned := true } else s
  { x with xlt := { x.xlt with iotlb := x.xlt.iotlb.map f, holders := x.xlt.holders.map (fun e => (e.1, { e.2 with span := f e.2.span })) } }

/-- PIN (R158): status, DETAIL and FAULT_ADDR. -/
def Mach.doPin (m : Mach) (h : HalfId) (ctx va count : Nat) : Mach × Nat × Nat × Nat :=
  let x := m.blk.half h
  let r : PinRange := { ctx := ctx, lo := va, hi := va + count }
  let fault (e : Nat × Nat × Nat) : Option (Nat × Nat) :=
    if ¬ (eValid e.2.2 ∧ eLeaf e.2.2) then some (0, max va e.2.1) else if eTarget e.2.2 = 1 then some (1, max va e.2.1)
    else if bitAt e.2.2 10 then some (2, max va e.2.1) else none
  match (m.entriesOf h ctx va r.hi (count / 4096 + 1)).findSome? fault with
  | some (d, a) => (m, 0x20, d, a)
  | none =>
    if count = 0 ∨ inRanges x.obj.pins r then (m, 0, 0, 0)
    else
      let pins := addRange x.obj.pins r
      if 4096 < pins.length then (m, 0x40, 0, 0)
      else
        let m1 := m.markPins h ctx va r.hi (fun _ _ => some true)
        let b := ((m1.blk.updObj h (fun o => { o with pins := pins })).upd .A (fun y => y.pinCache ctx va r.hi)).upd .B (fun y => y.pinCache ctx va r.hi)
        ({ m1 with blk := b }, 0, 0, 0)

/-- UNPIN (R160): completes with its invalidation, at once where nothing is pinned. -/
def Mach.doUnpin (m : Mach) (h : HalfId) (ref : PktRef) (ctx va count : Nat) : Mach × Bool :=
  let x := m.blk.half h
  let hi := va + count
  if ¬ x.obj.pins.any (fun p => p.ctx == ctx && meets p.lo (p.hi - p.lo) va count) then (m, false)
  else
    let chips := x.chipsMeet ctx false va hi
    let pins := subRange x.obj.pins { ctx := ctx, lo := va, hi := hi }
    let m1 := m.markPins h ctx va hi (fun a n => if pins.any (fun p => p.ctx == ctx && meets p.lo (p.hi - p.lo) a n) then none else some false)
    let b := m1.blk.updObj h (fun o => { o with pins := pins })
    ({ m1 with blk := b.invStart h { ctx := ctx, lo := va, hi := hi, what := .unpin ref } chips }, true)

/-! ### ALLOC and FREE -/

/-- ALLOC (R122, R124, R398): none while only frames in reclaim can satisfy it. -/
def Mach.doAlloc (m : Mach) (h : HalfId) (ctx part size align : Nat) : Mach × Option (Nat × Nat × Nat) :=
  let x := m.blk.half h
  if ¬ (x.part part).allocator then (m, some (0x12, 8, 0))
  else
    let al := if bits align 4 0 = 0 then 12 else bits align 4 0
    let (m1, st, d, r) := m.alloc h ctx size al (bitAt align 8)
    let back := (x.obj.dead.filter (fun o => o.part == part)).foldl (fun n o => n + o.frames.length) 0
    if st = 0x40 ∧ (x.part part).st = .reclaiming ∧ back ≠ 0 then (m, none) else (m1, some (st, d, r))

/-- FREE (R121, R122, R293): none once the withdrawal has started. -/
def Mach.doFree (m : Mach) (h : HalfId) (ref : PktRef) (ctx part va : Nat) : Mach × Option (Nat × Nat) :=
  let x := m.blk.half h
  if ¬ (x.part part).allocator then (m, some (0x12, 8))
  else match x.obj.mems.find? (fun o => o.kind == .alloc && o.ctx == ctx && o.va == va && o.owned && !o.freeing) with
    | none => (m, some (0x11, 8))
    | some o =>
      let inWin := x.obj.windows.any (fun w => w.2.enabled && w.2.kind == 1 && o.frames.any (fun f =>
        meets (if o.frames.length = 1 then f + o.off else f) (if o.frames.length = 1 then o.span else 2 ^ 21) w.2.base w.2.size))
      if inWin then (m, some (0x12, 8))
      else
        let hi := va + o.span
        let chips := x.chipsMeet ctx false va hi
        let m1 := m.overRange (fun k a => k.clearLeaf h ctx a) va hi (o.span / 4096 + 1)
        let b := m1.blk.updMem h (o.at 0) (fun k => if k = o then { k with freeing := true } else k)
        ({ m1 with blk := b.invStart h { ctx := ctx, lo := va, hi := hi, what := .free ref (o.at 0) } chips }, none)

/-! ### Prefetch and streams -/

/-- PREFETCH_STREAM (R282): status, DETAIL and RESULT. STOP ends the stream named, by its half and prefetcher, which must be the context's own. -/
def Mach.doPrefetch (m : Mach) (h : HalfId) (p : Pkt) : Mach × Nat × Nat × Nat :=
  let x := m.blk.half h
  if bitAt (p.arg 3) 0 then
    let k : HalfId := if bitAt (p.arg 4) 8 then .B else .A
    let n := p.arg 4 % 256
    if 512 ≤ p.arg 4 then (m, 0x11, 19, 0)
    else match Tab.look (m.blk.half k).ware.pf n with
      | some e => if e.ctx ≠ p.hdr.ctx then (m, 0x11, 19, 0) else ({ m with blk := m.blk.upd k (fun y => y.pfEnd n false) }, 0, 0, 0)
      | none => (m, 0, 0, 0)
  else
    let (y, st, r) := x.pfStart (m.clk.now h) p.hdr.ctx p.hdr.part (p.arg 0) (p.arg 1) (p.arg 2) (bitAt (p.arg 3) 1)
    ({ m with blk := m.blk.upd h (fun _ => y) }, st, 0, r)

/-- An invalidation that completes a packet is in progress. -/
def Half.invOf (x : Half) (ref : PktRef) : Bool := x.xlt.invs.any (fun j => match j.what with
  | .packet r => r == ref
  | .unmap r _ => r == ref
  | .unpin r => r == ref
  | .free r _ => r == ref
  | _ => false)

/-- A packet of a user queue that takes no channel, at its dispatch or when it is tried again. -/
def Mach.userPkt (m : Mach) (h : HalfId) (d : Disp) (sync : Bool) : Mach :=
  let p := d.pkt
  let a := p.arg
  let fin (r : Mach × Nat × Nat × Nat) (fa : Bool) : Mach :=
    if fa then r.1.endPkt h d r.2.1 r.2.2.1 0 r.2.2.2 sync else r.1.endPkt h d r.2.1 r.2.2.1 r.2.2.2 0 sync
  match p.op with
  | 0x00 => m.endPkt h d 0 0 0 0 sync
  | 0x10 => m.doSignal h d sync
  | 0x11 => m.doWait h d sync
  | 0x12 => m.doEvent h d sync
  | 0x20 =>
    if (m.blk.half h).fabOwes (fun w => match w with
      | .open_ e _ => e == d.ref
      | _ => false) then m
    else match m.draftOpen h d.ref p with
      | (m1, some (st, det)) => m1.endPkt h d st det 0 0 sync
      | (m1, none) => m1.fabDrain h 64
  | 0x22 =>
    match (m.blk.half h).stream p.hdr.ctx (a 0) with
    | some s =>
      if s.flight.isSome then m
      else match m.draftClose h d.ref p with
        | (m1, some (st, det)) => m1.endPkt h d st det 0 0 sync
        | (m1, none) => m1.fabDrain h 64
    | none => if (m.blk.half h).fabOwes (fun w => match w with
      | .close e _ => e == d.ref
      | _ => false) then m
    else match m.draftClose h d.ref p with
      | (m1, some (st, det)) => m1.endPkt h d st det 0 0 sync
      | (m1, none) => m1.fabDrain h 64
  | 0x30 =>
    let (m1, st, det) := m.doMap h p.hdr.ctx p.hdr.part (a 0) (a 1) (a 2)
    m1.endPkt h d st det 0 0 sync
  | 0x31 => if (m.blk.half h).invOf d.ref then m else match m.doUnmap h d.ref p.hdr.ctx p.hdr.part (a 0) (a 1) with
    | (m1, some (st, det)) => m1.endPkt h d st det 0 0 sync
    | (m1, none) => m1
  | 0x32 =>
    let chips := (m.blk.half h).chipsMeet p.hdr.ctx false (a 0) (a 0 + a 1)
    let j : InvJob := { ctx := p.hdr.ctx, lo := a 0, hi := a 0 + a 1, what := .packet d.ref }
    if (m.blk.half h).invOf d.ref then m else { m with blk := m.blk.invStart h j chips }
  | 0x33 => fin (m.doPin h p.hdr.ctx (a 0) (a 1)) true
  | 0x34 => if (m.blk.half h).invOf d.ref then m else match m.doUnpin h d.ref p.hdr.ctx (a 0) (a 1) with
    | (m1, true) => m1
    | (m1, false) => m1.endPkt h d 0 0 0 0 sync
  | 0x38 => match m.doAlloc h p.hdr.ctx p.hdr.part (a 0) (a 1) with
    | (m1, some (st, det, r)) => m1.endPkt h d st det r 0 sync
    | (m1, none) => m1
  | 0x39 => if (m.blk.half h).invOf d.ref then m else match m.doFree h d.ref p.hdr.ctx p.hdr.part (a 0) with
    | (m1, some (st, det)) => m1.endPkt h d st det 0 0 sync
    | (m1, none) => m1
  | 0x40 => fin (m.doPrefetch h p) false
  | _ => m

end Sys2Proof.Machine
end

