-- ==== Sys2Proof/Machine/AdminPkt.lean ====
section
/-! DEFINITION. The admin commands (R83 to R85, R103, R108, R376, R377, R386, R387, R415 to R418, R466, R470, R468, R475, R328 to R331, R422), apart
from taking a half offline and back. Each answers the status, DETAIL and RESULT it ends with, or none while its packet waits. -/
namespace Sys2Proof.Machine

/-- How an admin command ends: status, DETAIL, RESULT; none while it waits. -/
abbrev Answer := Option (Nat × Nat × Nat)

/-- A command that ends with a status and DETAIL, nothing changed. -/
def Mach.refuse (m : Mach) (st det : Nat) : Mach × Answer := (m, some (st, det, 0))

/-! ### Value checks (R94 step 6) -/

/-- A partition's range that breaks R385 or the limits of Table 14-2. -/
def badPartRange (part base size : Nat) : Bool :=
  if part = 0 then decide (base ≠ 0) || decide (size ≠ 0)
  else base % 2 ^ 21 != 0 || (decide (size ≠ 0) &&
    (decide (2 ^ 41 ≤ base) || decide (base % 2 ^ 40 < reserveBytes) || decide (dieBytes < base % 2 ^ 40 + size)))

/-- A class record out of range (Table 14-3): the offset of its faulty field. -/
def badClass (off w c : Nat) : List Nat := named [(w == 0, off), (decide (c < 16), off + 4)]

/-- Values out of range of the admin opcodes. -/
def adminErrs (x : Half) (p : Pkt) : List Nat :=
  let a := p.arg
  match p.op with
  | 0x60 =>
    let fenceN := 2 ^ (a 6) * 8
    let evN := 64 + 32 * 2 ^ (a 7)
    named [(a 0 == 0, 16), (bitAt (a 2) 0 && (a 1 == 0 || bitAt (a 2) 1), 21),
      (decide (a 3 % 2 ^ 63 % 4096 ≠ 0) || badAddr true (a 3) || (!bitAt (a 3) 63 && !x.devOk (a 3)), 24), (decide (10 ^ 10 < a 4), 32),
      (a 6 != 0 && (decide (a 5 % 4096 ≠ 0) || badRange false (a 5) fenceN), 40), (a 6 != 0 && (decide (a 6 < 9) || decide (16 < a 6)), 48),
      (a 7 != 0 && (decide (a 7 < 4) || decide (12 < a 7)), 49), (decide ((if a 1 = 0 then 2048 else 64) ≤ a 8), 50),
      (a 7 != 0 && (decide (a 9 % 64 ≠ 0) || badRange false (a 9) evN), 56),
      (a 11 != 0 && (decide (a 10 % 2 ^ 21 ≠ 0) || badRange false (a 10) (a 11)), 64), (decide (a 11 % 2 ^ 21 ≠ 0), 72),
      (a 6 != 0 && overlap (a 5, fenceN) (a 10, a 11), 40), (a 7 != 0 && overlap (a 9, evN) (a 10, a 11), 49)]
  | 0x61 => named [(decide (10 ^ 10 < a 2), 24)]
  | 0x62 =>
    named [(a 0 == 0, 16), (a 1 != 0 && bits (a 2) 5 4 != 0, 19), (decide (a 4 % 4096 ≠ 0), 24), (decide (a 5 < 6) || decide (18 < a 5), 32),
      (decide (a 6 < 6) || decide (18 < a 6), 33), (decide ((if a 1 = 0 then 2048 else 64) ≤ a 7), 34), (decide (a 8 % 4096 ≠ 0), 40),
      (decide (a 9 % 8 ≠ 0), 48)]
  | 0x63 => named [(a 0 == 0 || decide (16383 < a 0), 16)]
  | 0x64 =>
    named [(decide (4096 < a 2) || (a 0 == 0 && a 2 != 0), 18), (decide (16383 < a 3) || (a 0 == 0 && a 3 != 0), 20),
      (badPartRange (a 0) (a 4) (a 5), 24), (decide (a 5 % 2 ^ 21 ≠ 0) || decide (2 ^ 40 < a 5), 32)] ++
    badClass 48 (a 6) (a 7) ++ badClass 56 (a 8) (a 9) ++ badClass 64 (a 10) (a 11) ++ badClass 72 (a 12) (a 13) ++ badClass 80 (a 14) (a 15)
  | 0x65 =>
    if ¬ bitAt (a 2) 0 then []
    else
      let n := a 5
      named [(decide (a 4 % 65536 ≠ 0) || badRange false (a 4) n, 24), (n == 0 || decide (2 ^ 36 < n) || decide (n % 65536 ≠ 0), 32),
        (decide (a 6 % 65536 ≠ 0), 40), (decide (a 7 % 4096 ≠ 0) || badRange false (a 7) (n / 4096 * 32) || overlap (a 7, n / 4096 * 32) (a 4, n), 48)]
  | 0x67 =>
    named [(bits (a 1) 1 0 == 0, 20), (decide (a 3 % 4096 ≠ 0) || decide (2 ^ 41 ≤ a 3) || decide (dieBytes < a 3 % 2 ^ 40 + a 4), 24),
      (a 4 == 0 || decide (a 4 % 4096 ≠ 0) || decide (2 ^ 40 < a 4) || (bitAt (a 1) 2 && decide (a 4 % (512 * 1024) ≠ 0)), 32)]
  | 0x69 =>
    let idle := bitAt (a 1) 1 || bitAt (a 1) 2
    named [(a 4 != 0 && (!bitAt (a 2) 63 || badRange true (a 2) (a 4)), 24), (decide ((if bitAt (a 1) 3 then 4096 else pendingArea) < a 3 + a 4), 32),
      (decide (65536 < a 4) || (a 4 == 0 && !idle), 36)]
  | 0x6C =>
    named [(decide (1 < a 1), 17), (badAddr true (a 2) || badRange true (a 2) (if a 1 = 0 then a 4 * 64 else 4096), 24), (a 4 == 0 || decide (65536 < a 4), 40)]
  | 0x6F =>
    if bitAt (a 2) 1 then named [(a 1 == 0, 18)]
    else named [(a 1 == 0, 18), (decide (a 3 % 2 ^ 63 % 4096 ≠ 0) || badAddr true (a 3) || badRange true (a 3) 65536, 24),
      (decide (a 4 % 2 ^ 63 % 64 ≠ 0) || badAddr true (a 4) || badRange true (a 4) 64, 32), (decide (10000 < a 5), 40)]
  | 0xF0 => named [(a 0 == 0 || decide (2 < a 0), 16), (a 1 == 0 || decide (7 < a 1), 17), (decide (Config.diagLast (a 1) < a 2), 24)]
  | _ => []

/-- Device ranges an admin packet names physically: (local offset, bytes). -/
def Pkt.physRanges (p : Pkt) : List (Nat × Nat) :=
  let a := p.arg
  let l := match p.op with
    | 0x01 => [(a 0, a 2), (a 1, a 2)]
    | 0x02 => [(a 0, a 1)]
    | 0x03 => [(a 0, a 1)]
    | 0x10 => [(a 0, 8)]
    | 0x11 => [(a 0, 8)]
    | 0x50 => [(a 2, a 3)]
    | 0x60 => [(a 3, 4096)]
    | 0x6C => [(a 2, if a 1 = 0 then a 4 * 64 else 4096)]
    | 0x6F => if bitAt (a 2) 1 then [] else [(a 3, 65536), (a 4, 64)]
    | _ => []
  l.filter (fun r => !bitAt r.1 63)

/-- An admin packet's device physical address meets a sealed partition's range (R408). -/
def Half.meetsSealed (x : Half) (p : Pkt) : Bool :=
  p.physRanges.any (fun r => x.obj.parts.any (fun e => e.2.sealed && decide (e.2.memSize ≠ 0) &&
    meets r.1 r.2 (viewFrame e.2.memBase * 2 ^ 21) e.2.memSize))

/-! ### Contexts -/

/-- Contexts of a partition that are not DESTROYED, and its queues, the admin queue included (R384). -/
def Half.ctxsIn (x : Half) (part : Nat) : Nat := (x.obj.ctxs.filter (fun e => e.2.part == part && e.2.st != .destroyed)).length
def Half.queuesIn (x : Half) (part : Nat) : Nat := (x.obj.queues.filter (fun e => e.2.part == part && e.2.st != .absent)).length
/-- A partition's quota of contexts and of queues (R384): partition 0 holds the remainder. -/
def Half.ctxQuota (x : Half) (part : Nat) : Nat :=
  if part = 0 then 4096 - (x.obj.parts.foldl (fun n e => if e.1 = 0 then n else n + e.2.maxCtx) 0) else (x.part part).maxCtx
def Half.queueQuota (x : Half) (part : Nat) : Nat :=
  if part = 0 then 16384 - (x.obj.parts.foldl (fun n e => if e.1 = 0 then n else n + e.2.maxQueue) 0) else (x.part part).maxQueue

/-- A range meets a valid leaf of the tree at a root (R103). -/
def Mach.rootMeets (m : Mach) (root va hi : Nat) : Nat → Bool
  | 0 => false
  | n + 1 =>
    if hi ≤ va then false
    else
      let (l, _, _, e) := peek m.mem 4 0 5 (bitAt root 63) (root % 2 ^ 63) va
      let sp := 2 ^ (12 + 9 * (l - 1))
      (eValid e && eLeaf e) || Mach.rootMeets m root (va / sp * sp + sp) hi n

/-- A fence area's frame (R120, R124): the highest free frame of a carve-out, or one from the allocator; its words start at 0. -/
def Mach.fenceFrame (m : Mach) (h : HalfId) (part : Nat) : Option (Mach × Nat) :=
  let x := m.blk.half h
  let (b, i) := m.blk.draw
  match (if (x.part part).allocator then x.pickFrame part i else x.topFrame part) with
  | none => none
  | some f => some ({ m with blk := b.program h f (some { mode := 2, part := part }) }, frameAddr f)

/-- CTX_CREATE (R103, R104, R133, R384, R407). -/
def Mach.ctxCreate (m : Mach) (h : HalfId) (p : Pkt) : Mach × Answer :=
  let a := p.arg
  let id := a 0
  let part := a 1
  let x := m.blk.half h
  let sec (y : Half) : Bool := decide (y.sec.debugLevel ≠ 0) || y.sec.tainted
  let n := 2 ^ (a 6) * 8
  if ((x.ctx? id).map (·.st)) = some .draining then m.refuse 0x41 0
  else if (x.ctx? id).isSome then m.refuse 0x11 8
  else if a 6 ≠ 0 ∧ m.rootMeets (a 3) (a 5) (a 5 + n) (n / 4096 + 1) then m.refuse 0x11 20
  else if m.rootMeets (a 3) (a 10) (a 10 + a 11) (a 11 / 4096 + 1) then m.refuse 0x11 32
  else if bitAt (a 2) 0 ∧ (sec m.blk.a || sec m.blk.b) then m.refuse 0x12 8
  else if 4096 ≤ x.obj.ctxs.length ∨ x.ctxQuota part ≤ x.ctxsIn part then m.refuse 0x40 0
  else
    let c : Ctx := { st := .destroyed, part := part, confidential := bitAt (a 2) 0, fabric := bitAt (a 2) 1, root := a 3, drainNs := a 4,
                     fenceVa := a 5, fenceLog2 := a 6, eventLog2 := a 7, eventVec := a 8, eventVa := a 9, heapVa := a 10, heapSize := a 11, seed := a 12 }
    let put (k : Mach) (c : Ctx) : Mach := { k with blk := k.blk.updObj h (fun o => { o with ctxs := Tab.put o.ctxs id c }) }
    let made : Option Mach :=
      if a 6 = 0 then some (put m c)
      else match m.fenceFrame h part with
        | none => none
        | some (m1, f) =>
          let o : MemObj := { kind := .fenceArea, ctx := id, part := part, va := a 5, size := n, frames := [f], shared := true }
          let m2 := put m1 { c with fenceFrame := f }
          let m3 : Mach := { m2 with mem := m2.mem.writeDev f (List.replicate n 0)
                                     blk := m2.blk.updObj h (fun k => { k with mems := k.mems ++ [o] }) }
          m3.objLeaves h o (x.devWindow part f).isSome
    match made with
    | none => m.refuse 0x40 0
    | some m1 =>
      let b := (m1.blk.ctxState m.clk h m.blk.adminOrigin id .created (fun k => k)).updPart h part (fun k => { k with sealed := k.sealed || c.confidential })
      ({ m1 with blk := b.recompute }, some (0, 0, 0))

/-- CTX_DESTROY (R108, R109): accepted unless the context is absent or already DRAINING. -/
def Mach.ctxDestroy (m : Mach) (h : HalfId) (ref : PktRef) (p : Pkt) : Mach × Answer :=
  let x := m.blk.half h
  match x.ctx? (p.arg 0) with
  | none => m.refuse 0x11 8
  | some c =>
    match c.st with
    | .destroyed => m.refuse 0x11 8
    | .draining => if (c.drain.bind (·.reply)) = some ref then (m, none) else m.refuse 0x41 0
    | _ =>
      let bound := if bitAt (p.arg 1) 0 then p.arg 2 else if c.drainNs = 0 then (x.reg 0x0030058).toNat else c.drainNs
      ((m.drainStart h m.blk.adminOrigin (p.arg 0) bound (some ref) false).drainGo h (p.arg 0) false 0x32 1, none)

/-! ### Queues -/

/-- The half that homes a new queue and the original home it records (R83); none where HOME names a half the device does not have. -/
def Half.newHome (x : Half) (part home : Nat) : Option (HalfId × Option HalfId) :=
  let want : Option HalfId := if home = 1 then some .A else if home = 2 then some .B else none
  let mine (k : HalfId) : Nat := (x.obj.queues.filter (fun e => e.2.part == part && e.2.home == k && e.2.st != .absent)).length
  match x.tdm.st with
  | .paired => some (want.getD (if mine .B < mine .A then .B else .A), none)
  | .freewheel => some (x.id, match want with
    | some k => if k = x.id then none else some k
    | none => none)
  | _ => match want with
    | some k => if k = x.id then some (k, none) else none
    | none => some (x.id, none)

/-- The outcome of an admin command that names a context in set C (R82): FAULTED or DRAINING. -/
def ctxOutcome (c : Option Ctx) : Option (Nat × Nat) :=
  match c with
  | some k => if k.st = .faulted then some (0x30, 0) else if k.st = .draining then some (0x34, 0) else none
  | none => none

/-- QUEUE_CREATE (R83, R84, R384, Table 05-2). -/
def Mach.queueCreate (m : Mach) (h : HalfId) (p : Pkt) : Mach × Answer :=
  let a := p.arg
  let q := a 0
  let part := a 1
  let x := m.blk.half h
  let c? := x.ctx? (a 3)
  let home := x.newHome part (bits (a 2) 3 2)
  let port := bits (a 2) 5 4
  let gone : Bool := x.tdm.st != .paired && x.tdm.st != .freewheel && HalfId.ofPort port != x.id
  if (m.blk.getQ q).st ≠ .absent then m.refuse 0x11 8
  else if home.isNone ∨ gone ∨ m.blk.unbonded port part then m.refuse 0x11 9
  else match c? with
    | none => m.refuse 0x11 10
    | some c =>
      if c.st = .draining then m.refuse 0x34 0
      else if c.st = .faulted ∨ c.st = .destroyed ∨ c.part ≠ part then m.refuse 0x11 10
      else if x.queueQuota part ≤ x.queuesIn part then m.refuse 0x40 0
      else
        let hm := (home.map (·.1)).getD h
        let r : Queue := { st := .running, part := part, ctx := a 3, allowPrio := bitAt (a 2) 0, intOnErr := bitAt (a 2) 1, home := hm,
                           origHome := home.bind (·.2), ringPort := port, sqBase := a 4, sqLog2 := a 5, cqLog2 := a 6, vec := a 7, cqBase := a 8,
                           cidxAddr := a 9 }
        let o := m.blk.adminOrigin
        let b1 := ((m.blk.updObj h (fun k => { k with queues := Tab.put k.queues q r })).mirror h (.queue q r)).upd h (fun y =>
          y.journal (m.clk.now h) o 3 q 0 1)
        let b2 := if c.st = .created then b1.ctxState m.clk h o (a 3) .active (fun k => k) else b1
        ({ m with blk := b2 }, some (0, 0, hm.num))

/-- QUEUE_DESTROY (R85): fetching stops, and the queue drains for up to its context's bound. A packet already fetched still runs
(DEDUCED, log entry 24). -/
def Mach.queueDestroy (m : Mach) (h : HalfId) (ref : PktRef) (p : Pkt) : Mach × Answer :=
  let q := p.arg 0
  let r := m.blk.getQ q
  if r.st = .absent then m.refuse 0x11 8
  else if (r.drain.bind (·.reply)) = some ref then (m, none)
  else if r.st = .draining then m.refuse 0x11 8
  else
    let x := m.blk.half h
    let dn := ((x.ctx? r.ctx).map (·.drainNs)).getD 0
    let bound := if dn = 0 then (x.reg 0x0030058).toNat else dn
    let old := r.st.num
    let b := (m.blk.modQ q (fun k => { k with
      st := .draining, fetching := none
      drain := some { start := m.clk.now h, bound := bound, reply := some ref } })).upd h (fun y =>
        y.journal (m.clk.now h) m.blk.adminOrigin 3 q old 4)
    (Mach.queueDrained { m with blk := b } h q, none)

/-! ### Partitions -/

/-- What a journal entry of a partition shows: flags, quotas and the range's first and last 2 MiB (DESIGN CHOICE, log entry 12). -/
def Part.word (p : Part) : Nat :=
  b2n p.allocator + b2n p.strict * 2 + b2n p.noPool * 4 + b2n p.userPmc * 8 + p.maxCtx * 2 ^ 4 + p.maxQueue * 2 ^ 17 +
    p.memBase / 2 ^ 21 % 2 ^ 16 * 2 ^ 32 + p.memSize / 2 ^ 21 % 2 ^ 16 * 2 ^ 48

/-- Default owner entries of a partition's range, programmed on its die (R385). -/
def Blk.programRange (b : Blk) (p : Part) (part : Nat) : Blk :=
  if p.memSize = 0 then b
  else
    let f := viewFrame p.memBase
    b.emit (.checkerRange (homeOf (frameAddr f)) (if p.allocator then 0 else 2) part f (p.memSize / 2 ^ 21))

/-- PART_CONFIG (R386, R387): the checks from 2 on, in their order, then the change. -/
def Mach.partConfig (m : Mach) (h : HalfId) (p : Pkt) : Mach × Answer :=
  let a := p.arg
  let n := a 0
  let x := m.blk.half h
  let old := x.part n
  let fl := a 1
  let new : Part := { old with
    allocator := bitAt fl 0, strict := bitAt fl 1, noPool := bitAt fl 2, userPmc := bitAt fl 3, maxCtx := a 2, maxQueue := a 3,
    memBase := a 4, memSize := a 5, host := { weight := a 6, ceiling := a 7 }, fabric := { weight := a 8, ceiling := a 9 },
    spoke := { weight := a 10, ceiling := a 11 }, xfm := { weight := a 12, ceiling := a 13 }, irq := { weight := a 14, ceiling := a 15 } }
  let moved : Bool := new.allocator != old.allocator || new.memBase != old.memBase || new.memSize != old.memSize
  let others := x.obj.parts.filter (fun e => e.1 != 0 && e.1 != n)
  let sum (f : Part → Nat) : Nat := others.foldl (fun s e => s + f e.2) (if n = 0 then 0 else f new)
  let clash : Bool := decide (new.memSize ≠ 0) && others.any (fun e => decide (e.2.memSize ≠ 0) && meets new.memBase new.memSize e.2.memBase e.2.memSize)
  let all := (x.obj.parts.filter (fun e => e.1 != n)).map (·.2) ++ [new]
  let strict (k : Nat) : Nat := all.foldl (fun s e => if e.strict then s + (e.cls k).weight else s) 0
  let held : Bool := n != 0 && decide (new.memSize ≠ 0) && x.obj.frames.any (fun e =>
    x.framePart e.1 == some 0 && decide (viewFrame new.memBase ≤ e.1) && decide (e.1 < viewFrame new.memBase + new.memSize / 2 ^ 21))
  let few : Bool := n != 0 && (decide (new.maxCtx < x.ctxsIn n) || decide (new.maxQueue < x.queuesIn n))
  if new.allocator ∧ ¬ x.glaze then m.refuse 0x12 8
  else if old.st = .resetting ∨ ((old.st = .reclaiming ∨ old.sealed) ∧ moved) then m.refuse 0x41 0
  else if x.ctxsIn n ≠ 0 ∧ (moved || few) then m.refuse 0x41 0
  else if 4096 < sum (·.maxCtx) ∨ 16383 < sum (·.maxQueue) ∨ clash ∨ (List.range 5).any (fun k => decide (192 < strict k)) then m.refuse 0x40 0
  else if 4096 < sum (·.maxCtx) + x.ctxsIn 0 ∨ 16384 < sum (·.maxQueue) + x.queuesIn 0 ∨ held then m.refuse 0x41 0
  else
    let b1 := (m.blk.updObj h (fun o => { o with parts := Tab.put o.parts n new })).mirror h (.partition n new)
    let b2 := if moved then (if n = 0 then b1 else (b1.programRange { old with allocator := (x.part 0).allocator } 0).programRange new n) else b1
    let b3 := b2.upd h (fun y => y.journal (m.clk.now h) m.blk.adminOrigin 4 n old.word new.word)
    ({ m with blk := b3.recompute }, some (0, 0, 0))

/-! ### Keys -/

/-- Rewrite a key slot of a context, pair-wide. -/
def Blk.updKey (b : Blk) (h : HalfId) (ctx slot : Nat) (f : KeySlot → KeySlot) : Blk :=
  b.putCtx h ctx (fun c => if slot = 0 then { c with slot0 := f c.slot0 } else { c with slot1 := f c.slot1 })

/-- A key slot's change in the journal: object is context × 2 + slot; values are its state and epoch. -/
def Blk.keyJournal (b : Blk) (t : Clk) (h : HalfId) (ctx slot : Nat) (old new : KeySlot) : Blk :=
  let num (s : KeySt) : Nat := match s with
    | .free => 0
    | .live => 1
    | .retiring => 2
  b.upd h (fun x => x.journal (t.now h) b.adminOrigin 5 (ctx * 2 + slot) (num old.st + old.epoch * 2 ^ 32) (num new.st + new.epoch * 2 ^ 32))

/-- Attributes of a window leaf (R410): TARGET host, READ, WRITE, SEALED and its KEY_SLOT. -/
def winAttrs (slot : Nat) : Nat := 0x10 + 0x40 + 0x80 + 0x400 + slot * 0x800

/-- KEY_INSTALL (R410, R415). -/
def Mach.keyInstall (m : Mach) (h : HalfId) (p : Pkt) : Mach × Answer :=
  let a := p.arg
  let id := a 0
  let slot := bits (a 1) 0 0
  let win := bitAt (a 2) 0
  let x := m.blk.half h
  match x.ctx? id with
  | none => m.refuse 0x11 8
  | some c =>
    match ctxOutcome (some c) with
    | some (st, d) => m.refuse st d
    | none =>
      if ¬ c.confidential then m.refuse 0x11 8
      else if win ∧ c.sealSize ≠ 0 then m.refuse 0x11 10
      else match Tab.look x.obj.staged (a 3) with
        | none => m.refuse 0x11 11
        | some s =>
          if win ∧ c.meetsOwn (a 4) (a 5) true then m.refuse 0x11 12
          else if s.ctx ≠ id then m.refuse 0x12 8
          else if s.epoch ≤ c.slot0.epoch ∨ s.epoch ≤ c.slot1.epoch then m.refuse 0x60 0
          else if (c.key slot).st ≠ .free then m.refuse 0x40 0
          else
            let n := if win then a 5 / 4096 else 0
            match m.setLeaves h id c.part (a 4) 0 (winAttrs slot) n (fun k => a 6 + k * 4096) n with
            | none => m.refuse 0x40 0
            | some m1 =>
              let k : KeySlot := { st := .live, epoch := s.epoch, pages := n, key := s.key }
              let b1 := (m1.blk.updObj h (fun o => { o with staged := Tab.del o.staged (a 3) })).updKey h id slot (fun _ => k)
              let b2 := if win then b1.putCtx h id (fun e => { e with sealVa := a 4, sealSize := a 5, sealHost := a 6, sealMeta := a 7 }) else b1
              ({ m1 with blk := b2.keyJournal m.clk h id slot (c.key slot) k }, some (0, 0, 0))

/-- A slot turns FREE and its key is zeroised (Table 15-5); its epoch stays as the bound that later epochs must pass. -/
def KeySlot.freed (k : KeySlot) : KeySlot := { epoch := k.epoch }

/-- KEY_RETIRE without SWEEP, or the start of a sweep (R417). -/
def Mach.keyRetire (m : Mach) (h : HalfId) (ref : PktRef) (p : Pkt) : Mach × Answer :=
  let id := p.arg 0
  let slot := bits (p.arg 1) 0 0
  let x := m.blk.half h
  match x.ctx? id with
  | none => m.refuse 0x11 8
  | some c =>
    let k := c.key slot
    let o := c.key (1 - slot)
    if x.sec.sweepRef = some ref then (m, none)
    else match ctxOutcome (some c) with
      | some (st, d) => m.refuse st d
      | none =>
        if c.slot0.st = .retiring ∨ c.slot1.st = .retiring then m.refuse 0x41 0
        else if k.st ≠ .live then m.refuse 0x11 10
        else if ¬ bitAt (p.arg 2) 0 then
          if k.pages ≠ 0 then m.refuse 0x41 0
          else ({ m with blk := (m.blk.updKey h id slot KeySlot.freed).keyJournal m.clk h id slot k k.freed }, some (0, 0, 0))
        else if o.st ≠ .live ∨ o.epoch ≤ k.epoch then m.refuse 0x11 10
        else if x.sec.sweeping then (m, none)
        else
          let b := (m.blk.updKey h id slot (fun e => { e with st := .retiring })).keyJournal m.clk h id slot k { k with st := .retiring }
          ({ m with blk := b.upd h (fun y => { y with sec := { y.sec with
            sweepCtx := id, sweeping := true, swept := 0, sweepSlot := slot, sweepRef := some ref } }) }, none)

/-- Leaves of a context that name a key slot, in ascending address, window pages first (R417): (address, bytes, entry). -/
def Mach.slotLeaves (m : Mach) (h : HalfId) (ctx slot : Nat) (c : Ctx) : List (Nat × Nat × Nat) :=
  let pick (lo hi : Nat) : List (Nat × Nat × Nat) := (m.leavesIn h ctx lo hi).filter (fun e => bitAt e.2.2 10 && bits e.2.2 11 11 == slot)
  pick c.sealVa (c.sealVa + c.sealSize) ++
    (((m.blk.half h).obj.maps.filter (fun r => r.ctx == ctx)).flatMap (fun r => pick r.lo r.hi))

/-- Where a swept page and its record lie: the page's place and the record's reference; none where its metadata cannot be reached. -/
def Mach.sweepAt (m : Mach) (h : HalfId) (ctx : Nat) (c : Ctx) (va e : Nat) : Option (Place × SealRef) :=
  let page := eFrame e + va % pageBytes (eSize e)
  if eTarget e = 0 then
    ((m.blk.half h).sealedRegion ctx page).map (fun r =>
      let i := (page - r.2.2) / 4096
      (.dev page, { area := r.1, idx := i, rec_ := .dev (r.2.2 + r.2.1.size / 128 * 127 + 32 * i), win := false }))
  else
    let i := (va - c.sealVa) / 4096
    let a := c.sealMeta + 32 * i
    let (_, _, _, l) := m.peekAt h ctx a 0
    if eValid l ∧ eLeaf l ∧ eTarget l = 1 then
      some (.host page false ctx, { idx := i, rec_ := .host (eFrame l + a % pageBytes (eSize l)) false ctx })
    else none

/-- Re-encrypt one page of a sweep (R418): 1 if it was re-encrypted, 0 if its record was new already or could not be reached. -/
def Mach.sweepPage (m : Mach) (h : HalfId) (ctx slot : Nat) (va e : Nat) : Mach × Nat :=
  match (m.blk.half h).ctx? ctx with
  | none => (m, 0)
  | some c =>
    match m.sweepAt h ctx c va e with
    | none => (m, 0)
    | some (pl, r) =>
      let tgt := c.key (1 - slot)
      let page := m.mem.bytesAt pl 4096
      let rc := m.mem.bytesAt r.rec_ 32
      if byteFld rc 27 24 = tgt.epoch then (m, 0)
      else match openPage c ctx slot r page rc with
        | .ok plain =>
          let (ct, rn) := sealPage tgt ctx (sealCtr (m.clk.now h) h 0) r plain
          ({ m with mem := (m.mem.putAt pl ct).putAt r.rec_ rn }, 1)
        | _ => ({ m with mem := m.mem.putAt r.rec_ (rc.take 24 ++ leBytes 4 0xFFFFFFFF ++ leBytes 4 0) }, 1)

/-- A leaf's KEY_SLOT is rewritten (R418). -/
def Mach.moveSlot (m : Mach) (h : HalfId) (ctx va slot : Nat) : Mach :=
  let (l, host, table, e) := m.peekAt h ctx va 0
  { m with mem := m.mem.setWord host (table + levelIdx va l * 8) (putBits e 11 11 slot) }

/-- The sweep of a context stops: its packet has ended elsewhere. -/
def Half.sweepStop (x : Half) : Half := { x with sec := { x.sec with sweeping := false, sweepRef := none } }

/-- The leaves of one chunk: 256 pages (R417), and the rest of a leaf begun, since a leaf names one slot (DESIGN CHOICE, log entry 26). -/
def chunkOf : Nat → List (Nat × Nat × Nat) → List (Nat × Nat × Nat)
  | 0, _ => []
  | _, [] => []
  | n + 1, l :: ls => l :: chunkOf (n + 1 - l.2.1 / 4096) ls

/-- SWEEP_CHUNK_UNLOCK (R418): the next 256 pages are re-encrypted under the other slot, their leaves and counts move; with no page left the
slot turns FREE and KEY_RETIRE completes. -/
def Mach.sweepChunk (m : Mach) (h : HalfId) : Mach :=
  let x := m.blk.half h
  let id := x.sec.sweepCtx
  let slot := x.sec.sweepSlot
  match x.sec.sweeping, x.sec.sweepRef, x.ctx? id with
  | true, some ref, some c =>
    if c.st ≠ .created ∧ c.st ≠ .active then { m with blk := m.blk.upd h Half.sweepStop }
    else
      let ls := chunkOf 256 (m.slotLeaves h id slot c)
      let todo := ls.flatMap (fun e => (List.range (e.2.1 / 4096)).map (fun i => (e.1 + i * 4096, e.2.2)))
      let lo := (todo.map (·.1)).foldl min vaTop
      let hi := (todo.map (·.1)).foldl max 0 + 4096
      let pp := m.blk.ringPort ref.q
      let m0 : Mach := if todo.isEmpty then m else { m with blk :=
        (m.blk.invStart h { ctx := id, lo := lo, hi := hi, what := .none } []).upd h (fun y => y.takeLease 0 (pp % 2) c.part (todo.length * 4128)) }
      let (m1, n) := todo.foldl (fun (acc : Mach × Nat) e =>
        let (k, i) := acc.1.sweepPage h id slot e.1 e.2
        (k, acc.2 + i)) (m0, 0)
      let m2 := ls.foldl (fun (k : Mach) e => k.moveSlot h id e.1 (1 - slot)) m1
      let b := ((m2.blk.sealCount h id slot ls.length false).sealCount h id (1 - slot) ls.length true).upd h (fun y =>
        { y with sec := { y.sec with swept := y.sec.swept + n } })
      let m3 : Mach := { m2 with blk := b }
      match (m3.blk.half h).ctx? id with
      | none => m3
      | some c1 =>
        if ¬ (m3.slotLeaves h id slot c1).isEmpty then m3
        else
          let k := c1.key slot
          let b1 := (m3.blk.updKey h id slot KeySlot.freed).keyJournal m.clk h id slot k k.freed
          { m3 with blk := (b1.upd h Half.sweepStop).finish h ref 0 0 (m3.blk.half h).sec.swept 0 none }
  | _, _, _ => m

/-! ### Regions -/

/-- A 4 KiB page a region of a context may cover (R376): mappable under R120, or in its partition's carve-out. -/
def Half.regionOk (x : Half) (ctx part off : Nat) : Bool :=
  (!(x.part part).allocator && x.framePart (off / 2 ^ 21) == some part) || x.mapAllowed ctx part off

/-- REGION_REGISTER (R376, R408, R419). -/
def Mach.regionRegister (m : Mach) (h : HalfId) (p : Pkt) : Mach × Answer :=
  let a := p.arg
  let x := m.blk.half h
  let lo := viewFrame (a 3) * 2 ^ 21 + a 3 % 2 ^ 21
  let sealed := bitAt (a 1) 2
  match x.ctx? (a 0) with
  | none => m.refuse 0x11 8
  | some c =>
    if c.st ≠ .created ∧ c.st ≠ .active then m.refuse 0x11 8
    else if (sealed ∧ ¬ c.confidential) ∨ (¬ sealed ∧ (x.part c.part).sealed) then m.refuse 0x11 10
    else if x.obj.regions.any (fun r => r.2.rid == a 2 && meets r.2.off r.2.size (a 3) (a 4)) then m.refuse 0x11 11
    else if ¬ (List.range (a 4 / 4096)).all (fun i => x.regionOk (a 0) c.part (lo + i * 4096)) then m.refuse 0x11 12
    else
      let meet (o : MemObj) : Bool := o.frames.any (fun f => meets (f + (if o.frames.length = 1 then o.off else 0))
        (if o.frames.length = 1 then o.span else 2 ^ 21) lo (a 4))
      match Tab.free x.obj.regions 0 1024 with
      | none => m.refuse 0x40 0
      | some n =>
        if x.obj.mems.any (fun o => meet o && decide (65535 ≤ o.count)) then m.refuse 0x40 0
        else
          let r : Region := { ctx := a 0, rd := bitAt (a 1) 0, wr := bitAt (a 1) 1, sealed := sealed,
                              pasid := if bitAt (a 1) 3 then some (a 5) else none, rid := a 2, off := a 3, size := a 4 }
          let b := (m.blk.updObj h (fun k => { k with regions := Tab.put k.regions n r })).dropRefs h (fun o => if meet o then { o with regions := o.regions + 1 } else o)
          ({ m with blk := b.upd h (fun y => y.journal (m.clk.now h) m.blk.adminOrigin 9 n 0 (a 2 + a 0 * 2 ^ 16)) }, some (0, 0, n))

/-- REGION_RELEASE (R377): the region stops admitting requests, and its references go. -/
def Mach.regionRelease (m : Mach) (h : HalfId) (p : Pkt) : Mach × Answer :=
  match Tab.look (m.blk.half h).obj.regions (p.arg 0) with
  | none => m.refuse 0x11 8
  | some r =>
    let b := (m.blk.regionGone h (p.arg 0)).upd h (fun y => y.journal (m.clk.now h) m.blk.adminOrigin 9 (p.arg 0) (r.rid + r.ctx * 2 ^ 16) 0)
    ({ m with blk := b }, some (0, 0, 0))

/-! ### Firmware -/

/-- A half that answers admin commands from another half (R55): itself, or its partner while it is PAIRED, STANDBY or OFFLINE and out of reset. -/
def Blk.answers (b : Blk) (h k : HalfId) : Bool :=
  k == h || (!(b.half k).boot.inReset && ((b.half k).tdm.st == .paired || (b.half k).tdm.st == .standby || (b.half k).tdm.st == .offline))

/-- FW_STAGE (R466, R473): the chunk, then LAST, then ACTIVATE; none while the ring port cannot read the chunk. -/
def Mach.fwStage (m : Mach) (h : HalfId) (p : Pkt) : Mach × Answer :=
  let a := p.arg
  let k : HalfId := if bitAt (a 0) 0 then .B else .A
  let first := bitAt (a 1) 0
  let last := bitAt (a 1) 1
  let act := bitAt (a 1) 2
  let serv := bitAt (a 1) 3
  let y := m.blk.half k
  let bs := m.mem.readHost (a 2 % 2 ^ 63) (a 4)
  let now := m.clk.now k
  if ¬ m.blk.answers h k then m.refuse 0x51 0
  else if y.boot.mctpImage then m.refuse 0x41 0
  else if a 4 ≠ 0 ∧ ¬ m.blk.portReady (m.blk.ringPort 0) 0 then (m, none)
  else if serv then
    let old := if first then [] else y.boot.recordIn
    let rec_ := (FwImage.chunk { bytes := old } (a 3) bs).bytes
    let y1 := { y with boot := { y.boot with recordIn := rec_, service := y.boot.service && !first } }
    if ¬ last then ({ m with blk := m.blk.upd k (fun _ => y1) }, some (0, 0, 0))
    else if rec_.length ≠ 4096 ∨ ¬ Config.recordAuthentic y.fuse.serial rec_ then
      ({ m with blk := m.blk.upd k (fun _ => { y1 with boot := { y1.boot with service := false, recordIn := [] } }) }, some (0x12, 8, 0))
    else ({ m with blk := m.blk.upd k (fun _ => y1.recordIn rec_) }, some (0, 0, 0))
  else
    let old := if first then none else y.boot.pendingCopy
    if a 4 ≠ 0 ∧ (old.map (·.last)) = some true then m.refuse 0x11 8
    else
      let i0 := (old.getD {}).chunk (a 3) bs
      let i1 : FwImage := if a 4 = 0 then old.getD {} else i0
      let y1 := { y with boot := { y.boot with
        pendingCopy := if a 4 = 0 ∧ ¬ first then y.boot.pendingCopy else some i1
        stage := if (y.boot.stage = 1 ∨ y.boot.stage = 5) ∧ ¬ y.latched.bootSrc then 2 else y.boot.stage } }
      let code := y1.fwCheck (m.blk.partnerMajor k) i1.bytes
      if last ∧ code ≠ 0 then ({ m with blk := m.blk.upd k (fun _ => y1.fwRefuse code) }, some (0x12, 8, 0))
      else
        let y2 := if last then { y1 with boot := { y1.boot with pendingCopy := some i1.passed } } else y1
        if ¬ act then ({ m with blk := m.blk.upd k (fun _ => y2) }, some (0, 0, 0))
        else
          let bisque : Bool := y.boot.stage == 1 || y.boot.stage == 2 || y.boot.stage == 5
          match y2.boot.pendingCopy.filter (·.good) with
          | none => ({ m with blk := m.blk.upd k (fun _ => y2) }, some (0x12, 8, 0))
          | some i =>
            if ¬ (bisque || y.tdm.st == .offline) then ({ m with blk := m.blk.upd k (fun _ => y2) }, some (0x12, 8, 0))
            else
              let again := y2.fwCheck (m.blk.partnerMajor k) i.bytes
              if again ≠ 0 then ({ m with blk := m.blk.upd k (fun _ => y2.fwRefuse again) }, some (0x12, 8, 0))
              else
                let y3 := { y2 with boot := { y2.boot with pendingCopy := none } }
                ({ m with blk := m.blk.upd k (fun _ => y3.fwStart now m.blk.adminOrigin i true) }, some (0, 0, 0))

/-! ### Journal, margin, chiplets -/

/-- The 64 bytes of a journal entry (Table 18-8). -/
def JEntry.bytes (e : JEntry) : List Byte :=
  leBytes 8 e.seq ++ leBytes 8 e.time ++ [BitVec.ofNat 8 e.origin, 0] ++ leBytes 2 e.cls ++ leBytes 4 e.originId ++ leBytes 8 e.object ++
    leBytes 8 e.old ++ leBytes 8 e.new ++ List.replicate 16 0

/-- What a JOURNAL_READ can reach of a half's journal, oldest first (R475), and whether some of it is out of reach. -/
def Blk.journalOf (b : Blk) (h k : HalfId) : List JEntry × Bool :=
  let y := b.half k
  let ring := y.jnl.spill.reverse
  let chip := y.jnl.chip.reverse
  let merged := ring ++ chip.filter (fun e => !ring.any (fun r => r.seq == e.seq))
  if b.answers h k then (if (b.half h).glaze then merged else chip, false)
  else if (b.half h).dieReach k.num then (ring, true)
  else ([], true)

/-- JOURNAL_READ (R475): entries from FROM, or the service record; none while the ring port cannot be written. -/
def Mach.journalRead (m : Mach) (h : HalfId) (p : Pkt) : Mach × Answer :=
  let a := p.arg
  let k : HalfId := if bitAt (a 0) 0 then .B else .A
  let host := bitAt (a 2) 63
  let put (bs : List Byte) : Mach := { m with mem := if host then m.mem.writeHost (a 2 % 2 ^ 63) bs else m.mem.writeDev (a 2) bs }
  if host ∧ ¬ m.blk.portReady (m.blk.ringPort 0) 0 then (m, none)
  else if a 1 = 1 then
    if m.blk.answers h k ∨ (m.blk.half h).dieReach k.num then (put ((m.blk.half k).jnl.record.take 4096), some (0, 0, 1))
    else (m, some (1, 0, 0))
  else
    let (all, cut) := m.blk.journalOf h k
    let here := all.filter (fun e => decide (a 3 ≤ e.seq))
    let es := here.take (a 4)
    let head := (m.blk.half k).jnl.head
    let lost : Bool := decide (a 3 < head) && (match here with
      | [] => true
      | e :: _ => decide (a 3 < e.seq))
    let short : Bool := cut && decide (es.length < a 4)
    (put (es.flatMap JEntry.bytes), some (if lost || short then 1 else 0, 0, es.length))

/-- MARGIN_REPLAN (R470): a re-plan at once, from the Cones' readings, on this half and, while paired, on its partner. -/
def Mach.marginReplan (m : Mach) (h : HalfId) : Mach × Answer :=
  let x := m.blk.half h
  if x.boot.replanRunning then m.refuse 0x41 0
  else
    let rs (y : Half) : List ConeReading := (List.range 96).map (fun c =>
      let k := Tab.dflt y.cones c {}
      (k.slack, k.drift, !k.failed))
    let b1 := m.blk.replan m.clk h (rs x) false
    let b2 := if m.blk.linked then b1.replan m.clk h.other (rs (m.blk.half h.other)) false else b1
    ({ m with blk := b2 }, some (0, 0, 0))

/-- CHIPLET_ADMIT (R468): on the half that owns the port; none while its link is awaited. -/
def Mach.chipAdmit (m : Mach) (h : HalfId) (ref : PktRef) (p : Pkt) : Mach × Answer :=
  let d := p.arg 0 % 8
  let k : HalfId := if p.arg 0 / 8 = 0 then .A else .B
  let port := Tab.dflt (m.blk.half k).dies d {}
  if k ≠ h ∧ ¬ m.blk.linked then m.refuse 0x51 0
  else if port.admitFor = some ref then (m, none)
  else if port.st = 1 then (m, some (0, 0, 0))
  else if ¬ port.link then
    ({ m with blk := m.blk.upd k (fun y => { y with dies := Tab.upd y.dies d {} (fun e => { e with st := 4, admitFor := some ref }) }) }, none)
  else
    let (b, code) := m.blk.admitPort m.clk k m.blk.adminOrigin d
    ({ m with blk := b }, some (if code = 0 then 0 else 0x12, if code = 0 then 0 else 8, 0))

/-! ### Fabric -/

/-- Route table entries from the table's bytes (Table 12-2), with the index of the first faulty one (R329). -/
def parseRoutes (pkg : Nat) (bs : List Byte) : Tab Route × Option Nat :=
  let one (d : Nat) : Route × Bool :=
    let e := (bs.drop (16 * d)).take 16
    let r : Route := { primary := byteFld e 3 0, alternate := byteFld e 7 4, hops := byteFld e 8 8, altHops := byteFld e 9 9 }
    let none_ : Bool := r.primary == 0 && r.alternate == 0
    let alt : Bool := if r.alternate = 0 then r.altHops == 0xFF else decide (r.hops ≤ r.altHops) && decide (r.altHops ≤ 8)
    let ok : Bool := byteFld e 15 10 == 0 && (if d = pkg then r.hops == 0 && none_ && alt
      else (r.hops == 0xFF && none_ && alt) || (decide (1 ≤ r.hops) && decide (r.hops ≤ 8) && decide (r.primary ≠ 0) && alt &&
        Nat.land r.primary r.alternate == 0))
    (r, ok)
  let all := (List.range 4096).map (fun d => (d, one d))
  (((all.filter (fun e => e.2.1.hops != 0xFF)).map (fun e => (e.1, e.2.1))), (all.find? (fun e => !e.2.2)).map (·.1))

/-- The neighbour list from its bytes: expected package by pair port, with the index of the first faulty word (R329). -/
def parseNeigh (pkg : Nat) (bs : List Byte) : Tab Nat × Option Nat :=
  let ws := (List.range 32).map (fun n => (n, byteFld bs (2 * n + 1) (2 * n)))
  ((ws.filter (fun w => bitAt w.2 15)).map (fun w => (w.1, w.2 % 4096)),
   (ws.find? (fun w => bits w.2 14 12 != 0 || (bitAt w.2 15 && w.2 % 4096 == pkg))).map (·.1))

/-- Apply the route entries of an UPDATE whose destinations have drained (R331, R336); with none left the command completes. -/
def Mach.routeUpdate (m : Mach) (h : HalfId) : Mach :=
  match (m.blk.half h).obj.joinCmd with
  | none => m
  | some c =>
    if ¬ c.update then m
    else
      let busy (d : Nat) : Bool := !((m.blk.a.reqsTo d).isEmpty && (m.blk.b.reqsTo d).isEmpty)
      let go := c.newRoutes.filter (fun e => !busy e.1)
      let rest := c.newRoutes.filter (fun e => busy e.1)
      let b := m.blk.updObj h (fun o => { o with
        routes := go.foldl (fun r e => if e.2.hops = 0xFF then Tab.del r e.1 else Tab.put r e.1 e.2) o.routes
        joinCmd := if rest.isEmpty then none else some { c with newRoutes := rest } })
      if rest.isEmpty then { m with blk := b.finish h c.ref 0 0 b.portsUp 0 none } else { m with blk := b }

/-- FABRIC_JOIN with LEAVE (R331). -/
def Mach.fabLeave (m : Mach) (h : HalfId) (pkg dom : Nat) : Mach × Answer :=
  if ¬ (m.blk.half h).obj.streams.isEmpty then m.refuse 0x12 8
  else
    let ports (k : HalfId) : List Nat := (m.blk.half k).fab.ports.map (fun e => 16 * k.num + e.1)
    let b1 := (ports .A ++ ports .B).foldl (fun b pp => b.emit (.fabric pp { ty := 0x20, addr := pkg + dom * 2 ^ 16 + pp * 2 ^ 32 + 2 ^ 40 })) m.blk
    let drop (x : Half) : Half := { x with fab := { x.fab with
      instant := x.fab.instant ++ ((x.fab.reqs.map (·.1)).filter (fun t => !x.fab.instant.any (fun i => i.1 == t))).map (fun t => (t, FabRes.unreachable))
      ports := x.fab.ports.map (fun e => (e.1, { e.2 with st := 0 })), drains := [] } }
    let b2 := (b1.upd .A drop).upd .B drop
    let b3 := (b2.updObj h (fun o => { o with join := none, routes := [], neigh := [], unreach := [] })).upd h (fun x =>
      x.journal (m.clk.now h) m.blk.adminOrigin 10 pkg (pkg + dom * 2 ^ 16) 0)
    (({ m with blk := b3 }.fabDrain .A 256).fabDrain .B 256, some (0, 0, 0))

/-- FABRIC_JOIN (R328 to R331): join, UPDATE or LEAVE; none while a join or update runs, or the tables cannot be read. -/
def Mach.fabricJoin (m : Mach) (h : HalfId) (ref : PktRef) (p : Pkt) : Mach × Answer :=
  let a := p.arg
  let x := m.blk.half h
  let upd := bitAt (a 2) 0
  let leave := bitAt (a 2) 1
  let rd (ad n : Nat) : List Byte := if bitAt ad 63 then m.mem.readHost (ad % 2 ^ 63) n else m.mem.readDev ad n
  let host : Bool := bitAt (a 3) 63 || bitAt (a 4) 63
  match x.obj.joinCmd with
  | some c => if c.ref = ref then (m, none) else m.refuse 0x12 8
  | none =>
    if (upd || leave) ≠ x.obj.join.isSome then m.refuse 0x12 8
    else if leave then
      match x.obj.join with
      | some j => if j.pkg ≠ a 0 then m.refuse 0x11 8 else if j.domain ≠ a 1 then m.refuse 0x11 9 else m.fabLeave h j.pkg j.domain
      | none => m.refuse 0x12 8
    else if upd ∧ (x.obj.join.map (·.pkg)) ≠ some (a 0) then m.refuse 0x11 8
    else if upd ∧ (x.obj.join.map (·.domain)) ≠ some (a 1) then m.refuse 0x11 9
    else if host ∧ ¬ m.blk.portReady (m.blk.ringPort 0) 0 then (m, none)
    else
      let (rt, badR) := parseRoutes (a 0) (rd (a 3) 65536)
      let (ng, badN) := parseNeigh (a 0) (rd (a 4) 64)
      let err (i d : Nat) : Mach × Answer :=
        ({ m with blk := m.blk.updPair h (fun y => y.setFld 0x0500010 63 0 i) }, some (0x11, d, 0))
      match badR, badN with
      | some i, _ => err i 12
      | none, some i => err i 16
      | none, none =>
        let limit := if a 5 = 0 then 100 else a 5
        let c : JoinCmd := { ref := ref, pkg := a 0, domain := a 1, limit := limit, start := m.clk.now h, update := upd }
        if ¬ upd then ({ m with blk := m.blk.updObj h (fun o => { o with joinCmd := some c, routes := rt, neigh := ng }) }, none)
        else
          let dead : Route := {}
          let changed := ((List.range 4096).filter (fun d => Tab.dflt rt d dead != Tab.dflt x.obj.routes d dead)).map (fun d => (d, Tab.dflt rt d dead))
          let free (k : HalfId) (y : Half) : Half := { y with fab := { y.fab with ports := y.fab.ports.map (fun e =>
            if e.2.st = 4 ∧ Tab.look ng (16 * k.num + e.1) = some e.2.neighbour then (e.1, { e.2 with st := 2, replays := 0 }) else e) } }
          let drain (y : Half) : Half := changed.foldl (fun z e => z.startDrain e.1) y
          let b := ((((m.blk.updObj h (fun o => { o with joinCmd := some { c with newRoutes := changed }, neigh := ng })).upd .A (free .A)).upd .B (free .B)).upd
            .A drain).upd .B drain
          let b1 := b.upd h (fun y => y.journal (m.clk.now h) m.blk.adminOrigin 10 (a 0) 1 changed.length)
          (Mach.routeUpdate { m with blk := b1 } h, none)

/-! ### DIAG -/

/-- DIAG (R422): one word of an internal array. The manual gives no layout of the arrays: a word that DIAG has written is kept, any other is a
free value. -/
def Mach.diag (m : Mach) (h : HalfId) (p : Pkt) : Mach × Answer :=
  let a := p.arg
  let key := a 1 * 2 ^ 40 + a 2
  let x := m.blk.half h
  if a 0 = 1 then
    match Tab.look x.sec.diag key with
    | some w => (m, some (0, 0, w))
    | none =>
      let (b, i) := m.blk.draw
      ({ m with blk := b }, some (0, 0, Config.diagWord (a 1) (a 2) i % 2 ^ 64))
  else if x.sec.debugLevel < 2 then m.refuse 0x12 6
  else ({ m with blk := m.blk.upd h (fun y => { y with sec := { y.sec with diag := Tab.put y.sec.diag key (a 3) } }) }, some (0, 0, 0))

end Sys2Proof.Machine
end

