-- ==== Sys2Proof/Machine/Tandem.lean ====
section
/-! DEFINITION. The Tandem link (chapter 3): pairing, mirrors, heartbeat, loss and Freewheel, lost commands, planned offline and
return, and the pair reset. -/
namespace Sys2Proof.Machine

/-! ### Pairing (R56 to R59) -/

/-- The HELLO a half sends, or its HELLO_ACK with a result code (Table 03-3). -/
def Half.hello (x : Half) (result : Nat) : HelloFrame :=
  { halfId := b2n x.latched.halfId, orient := x.orient, freewheel := x.tdm.st == .freewheel, lock := x.tdm.lock,
    sirev := x.fuse.sirev, fwrev := x.fwrev, result := result, features := x.fuse.features, build := x.fuse.build }

/-- The pairing result of two frames (Table 03-4), the same for both halves. -/
def helloCode (mine theirs : HelloFrame) : Nat :=
  if mine.halfId = theirs.halfId then 4
  else if mine.sirev / 256 ≠ theirs.sirev / 256 then 1
  else if mine.build ≠ theirs.build then 3
  else if mine.fwrev / 256 ≠ theirs.fwrev / 256 ∧ mine.fwrev ≠ 0 ∧ theirs.fwrev ≠ 0 then 2
  else if mine.freewheel || theirs.freewheel then 6
  else 0

/-- The two frames differ in a minor revision (R58); a half in Bisque service has no firmware revision to compare. -/
def minorDiffers (mine theirs : HelloFrame) : Bool :=
  mine.sirev % 256 != theirs.sirev % 256 ||
    (mine.fwrev != 0 && theirs.fwrev != 0 && mine.fwrev % 256 != theirs.fwrev % 256)

/-- HELLO_SEND (R56): until it hears its partner, a half sends HELLO. TDM_PHY_UP is high when it does (DEDUCED, log entry 22). -/
def Blk.helloSend (b : Blk) (h : HalfId) : Blk :=
  let x := b.half h
  if x.boot.inReset ∨ x.tdm.st ≠ .pairing ∨ x.tdm.helloSeen then b
  else
    let b1 := b.upd h (fun y => { y with pins := { y.pins with tdmPhyUp := true } })
    b1.sendFrame h (.hello (x.hello 0))

/-- A half pairs at the common feature level (R58, R498): both halves take the OR of the LOCK copies. -/
def Half.pairUp (x : Half) (f : HelloFrame) : Half :=
  let mine := x.hello 0
  let minor := minorDiffers mine f
  let y := { x with tdm := { x.tdm with
    st := .paired, refuseCause := 0, actingPrimary := false, partner := some f, helloSeen := true, longWindow := false, keptHello := none,
    common := Nat.land x.fuse.features f.features, minorMismatch := minor, lock := x.tdm.lock || f.lock, silentAt := none,
    lossClass := none, partnerOffline := false, offlineCmd := none, stopped := false } }
  if minor then y.raiseErr 13 0 0xA1 0 else y

/-- A half decides its pairing by its partner's frame (R57, R59, R498, R501). Within the long window of a pair reset a frame that shows
Freewheel is only kept (R75), unless the window has closed. -/
def Blk.pairDecide (b : Blk) (h : HalfId) (f : HelloFrame) (closed : Bool) : Blk :=
  let x := b.half h
  let code := helloCode (x.hello 0) f
  if code = 6 ∧ x.tdm.longWindow ∧ ¬ closed then b.upd h (fun y => { y with tdm := { y.tdm with keptHello := some f } })
  else if code = 0 then (b.upd h (fun y => { y.pairUp f with tdm := { (y.pairUp f).tdm with partnerTime := none } })).recompute
  else if code = 6 then
    b.upd h (fun y => { y with tdm := { y.tdm with
      st := .standby, partner := some f, helloSeen := true, longWindow := false, keptHello := none, lock := f.lock, partnerTime := none } })
  else
    b.upd h (fun y =>
      let z := { y with tdm := { y.tdm with
        st := .unpaired, refuseCause := code, partner := some f, helloSeen := true, longWindow := false, keptHello := none } }
      z.raiseErr 13 0 0xA2 2)

/-- Everything the survivor mirrors to a returning half (R73): queues, contexts, partitions and allocations. -/
def Blk.fullMirrors (b : Blk) (s : HalfId) : Blk :=
  let o := (b.half s).obj
  let b1 := o.parts.foldl (fun k e => k.mirror s (.partition e.1 e.2)) b
  let b2 := o.ctxs.foldl (fun k e => k.mirror s (.context e.1 e.2)) b1
  let b3 := o.queues.foldl (fun k e => k.mirror s (.queue e.1 e.2)) b2
  o.mems.foldl (fun k e => k.mirror s (.allocator e)) b3

/-- A queue held for want of a host path runs again, and its held replies go to the host ring in order (R69, R92). -/
def Queue.unhold (q : Queue) : Queue :=
  if q.st = .held then
    { q with st := .running, heldRing := [],
             replies := q.heldRing.map (fun r => { r with ref := { r.ref with nslots := 0 } }) ++ q.replies,
             msixAfterIdx := q.msixAfterIdx || !q.heldRing.isEmpty }
  else q

/-- The survivor takes its partner back (R73): it is PAIRED again, full mirrors and ONLINE go out, and held queues run. -/
def Blk.sendOnline (b : Blk) (s : HalfId) : Blk :=
  let f := ((b.half s).tdm.partner).getD {}
  let b1 := b.upd s (fun y =>
    let z := (y.pairUp f).raiseErr 13 0 0xA4 0
    { z with obj := { z.obj with queues := z.obj.queues.map (fun e => (e.1, e.2.unhold)) } })
  (b1.fullMirrors s).sendFrame s .online

/-- HELLO (R56, R57): a frame arrives; a half in PAIRING decides, and every half answers with its code. A survivor with AUTO_REJOIN
set takes a half that goes to STANDBY back at once (R73). -/
def Blk.helloIn (b : Blk) (h : HalfId) (f : HelloFrame) : Blk :=
  let x := b.half h
  if x.boot.inReset ∨ x.tdm.st = .solo then b
  else
    let b0 := b.upd h (fun y => { y with pins := { y.pins with tdmPhyUp := true } })
    let code := helloCode (x.hello 0) f
    match x.tdm.st with
    | .pairing =>
      let b1 := b0.pairDecide h f false
      if (b1.half h).tdm.st = .pairing then b1 else b1.sendFrame h (.helloAck (x.hello code))
    | .freewheel =>
      let b1 := (b0.upd h (fun y => { y with tdm := { y.tdm with partner := some f, helloSeen := true, partnerTime := none } })).sendFrame h
        (.helloAck (x.hello code))
      if code = 6 ∧ ¬ f.freewheel ∧ x.regFld 0x0020008 0 0 = 1 then b1.sendOnline h else b1
    | _ => b0.sendFrame h (.helloAck (x.hello code))

/-- HELLO_ACK (R56, R57). -/
def Blk.helloAckIn (b : Blk) (h : HalfId) (f : HelloFrame) : Blk :=
  let x := b.half h
  if x.boot.inReset ∨ x.tdm.st ≠ .pairing then b
  else (b.upd h (fun y => { y with pins := { y.pins with tdmPhyUp := true } })).pairDecide h f false

/-! ### Heartbeat and block time (R63, R501) -/

/-- A half that exchanges HEARTBEAT: PAIRED, in STANDBY, or a survivor that a half in STANDBY has found (R63, R501). -/
def Half.beats (x : Half) : Bool :=
  !x.boot.inReset && !x.tdm.stopped &&
    (x.tdm.st == .paired || x.tdm.st == .standby || (x.tdm.st == .freewheel && x.tdm.helloSeen))

/-- HEARTBEAT_SEND (R63). -/
def Blk.heartbeatSend (b : Blk) (t : Clk) (h : HalfId) : Blk :=
  let x := b.half h
  if x.beats then b.sendFrame h (.heartbeat (t.now h) x.tdm.st.num) else b

/-- HEARTBEAT (R501, R379): the first one after a pairing decision steps a lower count forward to the partner's; later ones do so on half
B, which follows half A; half B ahead of half A slews. -/
def Mach.heartbeat (m : Mach) (h : HalfId) (time : Nat) : Mach :=
  let x := m.blk.half h
  let now := m.clk.now h
  if ¬ x.beats then m
  else
    let follows := x.tdm.partnerTime.isNone || h == .B
    let slew : Int := if h = .B ∧ time < now then (time : Int) - (now : Int) else 0
    { m with clk := if follows then m.clk.stepTo h time else m.clk
             blk := m.blk.upd h (fun y => { y with tdm := { y.tdm with partnerTime := some time, slew := slew } }) }

/-- A half declares its partner silent (R63, R66): dispatch stops, kind 0xA3 at CONTAINED, and the probes start. -/
def Blk.silent (b : Blk) (t : Clk) (h : HalfId) : Blk :=
  let x := b.half h
  if x.boot.inReset ∨ x.tdm.silentAt.isSome ∨ ¬ (x.tdm.st = .paired ∨ x.tdm.st = .standby) then b
  else b.upd h (fun y =>
    let z := (y.bump 0x0020020 31 0 1).raiseErr 13 0 0xA3 3
    { z with tdm := { z.tdm with silentAt := some (t.now h) } })

/-- TDM_PHY_DOWN (R42, R63). -/
def Blk.phyDown (b : Blk) (t : Clk) (h : HalfId) : Blk :=
  (b.upd h (fun y => { y with pins := { y.pins with tdmPhyUp := false } })).silent t h

/-- Where a half's liveness word lies: the first bytes of frame 0 of its die (R64). -/
def livenessWord (h : HalfId) : Nat := h.num * 2 ^ 45

/-- LIVENESS_WRITE (R64): block time goes to the liveness word while the half is out of reset and has not stopped it (R440). -/
def Mach.livenessWrite (m : Mach) (h : HalfId) : Mach :=
  let x := m.blk.half h
  if x.boot.inReset ∨ x.tdm.stopped then m
  else { m with mem := m.mem.setWord false (livenessWord h) (m.clk.now h % 2 ^ 64) }

/-- LIVENESS_PROBE_RESULT (R64, R65): the second probe is back; `none` is a read that failed or returned poison. On a LINK FAULT half B
fences itself. -/
def Blk.probeResult (b : Blk) (h : HalfId) (p1 p2 : Option Nat) : Blk :=
  let x := b.half h
  if x.tdm.silentAt.isNone ∨ x.tdm.lossClass.isSome ∨ x.boot.inReset then b
  else
    let cls : LossClass := match p1, p2 with
      | some a, some c => if a = c then .blockDown else .linkFault
      | _, _ => .dieDown
    b.upd h (fun y =>
      let z := { y with tdm := { y.tdm with lossClass := some cls, partnerDieDown := cls == .dieDown } }
      let z1 := if cls = .linkFault then z.setBit 0x0020000 11 else z
      if cls = .linkFault ∧ h = .B then z1.fenceSelf false else z1)

/-! ### Lost commands (R67, R68) -/

/-- Bytes of a tile's range at a base (R198). -/
def tileBytes (xb ys zs yp zp : Nat) : Nat := (zs - 1) * zp + (ys - 1) * yp + xb

/-- The destination range is disjoint from every source range (Table 03-6). A GATHER's elements lie, for an index list in memory, anywhere
its index width reaches from SRC on (DEDUCED, log entry 23). -/
def Pkt.disjoint (p : Pkt) : Bool :=
  let a := p.arg
  match p.op with
  | 0x01 => !meets (a 0) (a 2) (a 1) (a 2)
  | 0x04 => !meets (a 0) (tileBytes (a 2) (a 3) (a 4) (a 5) (a 6)) (a 1) (tileBytes (a 2) (a 3) (a 4) (a 7) (a 8))
  | 0x05 =>
    let size := 2 ^ a 4
    let stride := if a 6 = 0 then size else a 6
    let w := if bitAt (a 5) 0 then 8 else 4
    let n := a 3 * size
    if bitAt p.hdr.flags 4 then
      (List.range (a 3)).all (fun i => !meets (a 0 + byteFld p.hdr.payload (i * w + w - 1) (i * w) * stride) size (a 1) n)
    else !meets (a 2) (a 3 * w) (a 1) n && !meets (a 0) (2 ^ (8 * w) * stride + size) (a 1) n
  | 0x18 =>
    let e := p.elt
    e.reads.all (fun r => e.writes.all (fun w => !meets (r.base + r.lo 0) (r.hi e.count) (w.base + w.lo 0) (w.hi e.count)))
  | _ => true

/-- Replay class of a packet (Table 03-6). -/
def Pkt.replayable (p : Pkt) : Bool :=
  [0x00, 0x50, 0x02, 0x03, 0x40, 0x10, 0x11, 0x30, 0x32, 0x33].contains p.op ||
    ([0x01, 0x04, 0x05, 0x18].contains p.op && p.disjoint)

/-- A queue's dispatched packets in ring order. -/
def Queue.lostInOrder (q : Queue) : List Disp :=
  let at_ (d : Disp) : Nat := sub32 d.ref.slot q.cidx
  q.inflight.mergeSort (fun d e => decide (at_ d ≤ at_ e))

/-- A HALF_LOST reply; its half byte names the lost half (R68). -/
def lostReply (lost : HalfId) (d : Disp) : Reply :=
  { ref := { d.ref with nslots := 0 }, status := 0x51, half := lost }

/-- Adoption of one queue of the lost half by its mirrors (R67 to R69). -/
def Queue.adopt (q : Queue) (s : HalfId) : Queue :=
  let lost := s.other
  let ds := q.lostInOrder
  let again (zero : Bool) (d : Disp) : Fetched :=
    { ref := if zero then { d.ref with nslots := 0 } else d.ref, pkt := d.pkt }
  let ready (r : Reply) : Reply := { r with waitAck := none }
  let heldSt : QState := if q.st = .running ∧ s = .B ∧ q.part ≠ 0 then .held else q.st
  let base := { q with home := s, origHome := some (q.origHome.getD lost), inflight := [], fetching := none,
                       replies := q.replies.map ready }
  match ds.find? (fun d => !d.pkt.replayable) with
  | none => { base with st := heldSt, fetched := ds.map (again false) ++ q.fetched }
  | some l =>
    let before := ds.takeWhile (fun d => d.pkt.replayable)
    let gone := (ds.filter (fun d => !d.pkt.replayable))
    { base with
      st := if q.st = .running ∨ q.st = .held then .stopped else q.st
      stopCause := if q.st = .running ∨ q.st = .held then 2 else q.stopCause
      cidx := l.ref.slot, fetchIdx := l.ref.slot, doneSlots := []
      fetched := before.map (again true)
      replies := base.replies.map (fun r => { r with ref := { r.ref with nslots := 0 } }) ++ gone.map (lostReply lost)
      trailers := q.trailers ++ gone.filterMap (fun d => d.pkt.hdr.trailer.map (fun e =>
        { ref := d.ref, fence := e.1, value := e.2, err := true })) }

/-- The survivor adopts the lost half's queues (R67). -/
def Obj.adoptQueues (o : Obj) (s : HalfId) : Obj :=
  { o with queues := o.queues.map (fun e => if e.2.home = s.other ∧ e.2.st ≠ .absent then (e.1, e.2.adopt s) else
      (e.1, { e.2 with inflight := e.2.inflight.map (fun d => { d with waitAck := none })
                       replies := e.2.replies.map (fun r => { r with waitAck := none }) })) }

/-- Waiters of the survivor's own packets that were registered on the lost half register again (R118). -/
def Mach.rewait (m : Mach) (s : HalfId) : Mach :=
  let ds := (m.blk.half s).obj.queues.flatMap (fun e => if e.2.home = s then e.2.inflight.filter (fun d => d.pkt.op == 0x11) else [])
  ds.foldl (fun k d => k.userPkt s d false) m

/-- A context owns or maps a frame of a die (R71). -/
def Mach.usesDie (m : Mach) (s die : HalfId) (id : Nat) : Bool :=
  let x := m.blk.half s
  x.obj.mems.any (fun o => (o.ctx == id || o.mappers.any (fun e => e.1 == id)) && o.frames.any (fun f => homeOf f == die)) ||
  x.obj.tables.any (fun t => t.ctx == id && homeOf t.addr == die) ||
  (m.leavesIn s id 0 vaTop).any (fun l => eTarget l.2.2 == 0 && homeOf (eFrame l.2.2) == die)

/-- Loss events of Freewheel entry (R68, R71): windows homed on the lost half, cause 0x04, and with DIE DOWN the contexts that use its die,
cause 0x05. -/
def Mach.lossOfHalf (m : Mach) (s : HalfId) (dieDown : Bool) : Mach :=
  let x := m.blk.half s
  let wins := (x.obj.windows.filter (fun w => w.2.enabled && w.2.half == s.other.num)).map (fun w =>
    ({ ctx := w.2.owner, cause := 4, half := s } : LossEv))
  let dies := if dieDown then (x.obj.ctxs.filter (fun c => m.usesDie s s.other c.1)).map (fun c =>
    ({ ctx := c.1, cause := 5, half := s } : LossEv)) else []
  (wins ++ dies).foldl (fun k e => k.lose e) m

/-- Freewheel entry (R59, R65 to R71): what the partner owed counts as acknowledged, its queues are adopted, and half B becomes the acting
primary. -/
def Mach.freewheel (m : Mach) (s : HalfId) (dieDown : Bool) : Mach :=
  let b0 := m.blk.invPartnerGone s
  let b1 := b0.upd s (fun y =>
    let z := y.bump 0x0020028 63 0 1
    { z with
      tdm := { z.tdm with st := .freewheel, actingPrimary := s == .B, silentAt := none, lossClass := none, helloSeen := false,
                          longWindow := false, keptHello := none, mirUnacked := [], slew := 0, offlineCmd := none }
      obj := z.obj.adoptQueues s })
  let b2 := b1.upd s.other (fun y => { y with waiters := [] })
  let m1 := Mach.lossOfHalf { m with blk := b2.recompute } s dieDown
  m1.rewait s

/-- FREEWHEEL_ENTRY (R66): 15 µs after the partner's last frame; half B with a LINK FAULT has fenced itself instead. -/
def Mach.freewheelEntry (m : Mach) (h : HalfId) : Mach :=
  let x := m.blk.half h
  match x.tdm.lossClass with
  | none => m
  | some c =>
    if x.boot.inReset ∨ ¬ (x.tdm.st = .paired ∨ x.tdm.st = .standby) then m
    else m.freewheel h (c == .dieDown)

/-- PAIRING_WINDOW_CLOSE (R56, R59, R75): without a decision the half takes result 5, or decides by the Freewheel HELLO it kept. -/
def Mach.windowClose (m : Mach) (h : HalfId) : Mach :=
  let x := m.blk.half h
  if x.boot.inReset ∨ x.tdm.st ≠ .pairing then m
  else match x.tdm.keptHello with
    | some f => { m with blk := m.blk.pairDecide h f true }
    | none => m.freewheel h false

/-! ### Mirrors and forwarded work (R61, R62) -/

/-- A mirror record stored in a half's copy (Table 03-5). -/
def Obj.store (o : Obj) : MirrorRec → Obj
  | .queue q r => { o with queues := if r.st = .absent then Tab.del o.queues q else Tab.put o.queues q r }
  | .dispatch q d => { o with queues := Tab.modify o.queues q (fun k =>
      { k with inflight := k.inflight.filter (fun e => e.ref.slot != d.ref.slot) ++ [d]
               fetched := k.fetched.filter (fun e => e.ref.slot != d.ref.slot) }) }
  | .completion q r => { o with queues := Tab.modify o.queues q (fun k =>
      { k with inflight := k.inflight.filter (fun e => e.ref.slot != r.ref.slot)
               replies := k.replies.filter (fun e => e.ref.slot != r.ref.slot) ++ [r] }) }
  | .context id c => { o with ctxs := if c.st = .destroyed then Tab.del o.ctxs id else Tab.put o.ctxs id c }
  | .partition p r => { o with parts := Tab.put o.parts p r }
  | .allocator m => { o with mems := o.mems.filter (fun e => !(e.ctx == m.ctx && e.va == m.va && e.kind == m.kind)) ++ [m] }

/-- MIRROR (R61): the record is stored and acknowledged. While the pair is linked the copy already holds it. -/
def Blk.mirrorIn (b : Blk) (h : HalfId) (seq : Nat) (r : MirrorRec) : Blk :=
  let x := b.half h
  if x.boot.inReset ∨ ¬ (x.tdm.st = .paired ∨ x.tdm.st = .standby) then b
  else
    let b1 := if b.linked then b else b.upd h (fun y => { y with obj := y.obj.store r })
    b1.sendFrame h (.mirrorAck seq)

/-- MIRROR_ACK (R62): the first write of the packet, or its reply, waits no longer. -/
def Blk.mirrorAckIn (b : Blk) (h : HalfId) (seq : Nat) : Blk :=
  let b1 := b.upd h (fun y => { y with tdm := { y.tdm with mirUnacked := y.tdm.mirUnacked.erase seq } })
  b1.updObj h (fun o => { o with queues := o.queues.map (fun e => (e.1, { e.2 with
    inflight := e.2.inflight.map (fun d => if d.waitAck = some seq then { d with waitAck := none } else d)
    replies := e.2.replies.map (fun r => if r.waitAck = some seq then { r with waitAck := none } else r) })) })

/-! ### Planned offline and return (R72, R73) -/

/-- HALF_OFFLINE (R72): NOT_PERMITTED unless the pair is PAIRED; else the target stops fetching and drains. -/
def Mach.halfOffline (m : Mach) (h : HalfId) (ref : PktRef) (p : Pkt) : Mach × Answer :=
  let x := m.blk.half h
  match x.tdm.offlineCmd with
  | some (_, r, _) => if r = ref then (m, none) else m.refuse 0x12 8
  | none =>
    if ¬ m.blk.linked then m.refuse 0x12 8
    else
      let target : HalfId := if p.arg 0 = 0 then .A else .B
      ({ m with blk := m.blk.updPair h (fun y => { y with tdm := { y.tdm with offlineCmd := some (target, ref, m.clk.now h) } }) }, none)

/-- The target of a HALF_OFFLINE has nothing dispatched but the command itself. -/
def Half.offlineReady (x : Half) : Bool :=
  match x.tdm.offlineCmd with
  | some (t, ref, _) => t == x.id && x.obj.queues.all (fun q => q.2.home != x.id || q.2.inflight.all (fun d => d.ref == ref))
  | none => false

/-- The target leaves (R72): its packets still running are aborted, OFFLINE goes out and its heartbeat stops. -/
def Blk.goOffline (b : Blk) (h : HalfId) : Blk :=
  let b1 := b.upd h (fun y =>
    let z := y.fenceSelf false
    { z with tdm := { z.tdm with st := .offline, aborted := y.tdm.aborted, offlineCmd := none } })
  b1.sendFrame h .offline

/-- A HALF_OFFLINE whose target has drained moves on. -/
def Blk.offlinePoke (b : Blk) : Blk :=
  let b1 := if b.a.tdm.st = .paired ∧ b.a.offlineReady then b.goOffline .A else b
  if b1.b.tdm.st = .paired ∧ b1.b.offlineReady then b1.goOffline .B else b1

/-- HALF_OFFLINE_DRAIN_EXPIRY (R72): 100 ms have passed since the command was accepted. -/
def Blk.offlineExpiry (b : Blk) (h : HalfId) : Blk :=
  match (b.half h).tdm.offlineCmd with
  | some (t, _, _) => if t = h ∧ (b.half h).tdm.st = .paired then b.goOffline h else b
  | none => b

/-- OFFLINE (R72): the partner has left as planned; its queues come here, and HALF_OFFLINE completes OK on this half. -/
def Mach.offlineIn (m : Mach) (h : HalfId) : Mach :=
  let x := m.blk.half h
  if x.boot.inReset ∨ x.tdm.st ≠ .paired then m
  else
    let out (o : Obj) (ref : PktRef) : Obj := { o with queues := Tab.modify o.queues ref.q (fun q =>
      { q with inflight := q.inflight.filter (fun d => d.ref != ref) }) }
    let b1 := match x.tdm.offlineCmd with
      | some (_, ref, _) =>
        let b0 := b0Of m.blk h
        (b0.upd h (fun y => { y with obj := out y.obj ref })).finish h ref 0 0 0 0 none
      | none => b0Of m.blk h
    Mach.freewheel { m with blk := b1 } h false
where
  /-- The partner is known to be gone before its queues are touched. -/
  b0Of (b : Blk) (h : HalfId) : Blk := b.upd h (fun y => { y with tdm := { y.tdm with partnerOffline := true, silentAt := some 0 } })

/-- HALF_ONLINE is done once every queue is home, its own apart, and both halves are PAIRED (R73). -/
def Blk.onlinePoke (b : Blk) (h : HalfId) : Blk :=
  match (b.half h).tdm.onlineCmd with
  | none => b
  | some ref =>
    if b.linked ∧ (b.half h).obj.queues.all (fun q => q.1 == ref.q || q.2.origHome.isNone) then
      (b.upd h (fun y => { y with tdm := { y.tdm with onlineCmd := none } })).finish (b.queueHome ref.q) ref 0 0 0 0 none
    else b

/-- HALF_ONLINE (R73): NOT_PERMITTED without a half in STANDBY; else the partner is taken back. -/
def Mach.halfOnline (m : Mach) (h : HalfId) (ref : PktRef) : Mach × Answer :=
  let x := m.blk.half h
  if x.tdm.onlineCmd.isSome then (if x.tdm.onlineCmd = some ref then (m, none) else m.refuse 0x12 8)
  else if x.tdm.st ≠ .freewheel ∨ (m.blk.half h.other).tdm.st ≠ .standby then m.refuse 0x12 8
  else
    let b := (m.blk.upd h (fun y => { y with tdm := { y.tdm with onlineCmd := some ref } })).sendOnline h
    ({ m with blk := b.onlinePoke h }, none)

/-- Pair-wide registers of a half taken from its partner (R457, R496). -/
def Half.takePairRegs (x y : Half) : Half :=
  { x with regs := (y.regs.filter (fun e => pairWide e.1)).foldl (fun r e => Tab.put r e.1 e.2) (x.regs.filter (fun e => !pairWide e.1)) }

/-- ONLINE (R73, R457): a half in STANDBY returns with the pair-wide state of its partner's mirrors. -/
def Blk.onlineIn (b : Blk) (h : HalfId) : Blk :=
  let x := b.half h
  if x.boot.inReset ∨ x.tdm.st ≠ .standby then b
  else
    let p := b.half h.other
    let f := (x.tdm.partner).getD {}
    let b1 := b.upd h (fun y => { (y.pairUp { f with freewheel := false }).takePairRegs p with obj := p.obj })
    b1.recompute.onlinePoke h.other

/-- QUEUE_REHOME (R73): at a packet boundary a queue moves back to its original home half. -/
def Blk.rehome (b : Blk) (q : Nat) : Blk :=
  let r := b.getQ q
  let h := b.queueHome q
  match r.origHome with
  | none => b
  | some k =>
    if ¬ b.linked ∨ ¬ r.inflight.isEmpty ∨ r.st = .absent then b
    else
      let b1 := b.modQ q (fun e => { e with home := k, origHome := none, fetching := none })
      (b1.mirror h (.queue q (b1.getQ q))).onlinePoke h

/-! ### Pair reset (R75) -/

/-- Frames pass on the Tandem link: both halves out of reset with the PHY up, and not both in Freewheel. -/
def Blk.linkCarries (b : Blk) : Bool :=
  b.a.linkUp && b.b.linkUp && !(b.a.tdm.st == .freewheel && b.b.tdm.st == .freewheel)

/-- PAIR_RESET (R75): a write of WQ_PAIR_RESET. It acts through a function of partition 0 with CONFIRM = 0x5A; any other is ignored and
counted. -/
def Blk.pairReset (b : Blk) (t : Clk) (via : Via) (h : HalfId) (v : Nat) : Blk :=
  let accepted : Bool := match via with
    | .fn _ part _ => part == 0 && bits v 15 8 == 0x5A
    | .mctp _ => false
  if (b.half h).boot.inReset then b
  else if ¬ accepted then b.upd h (fun y => y.bump 0x0600060 31 0 1)
  else if ¬ bitAt v 0 then b
  else
    let b1 := b.upd h (fun y =>
      let z := (y.setBit 0x0A00038 8).journal (t.now h) via.origin 1 0x0010018 0 v
      { z with tdm := { z.tdm with longWindow := true } })
    let b2 := if b.linkCarries then b1.sendXreq h (.fatalNotice {} true) else b1
    b2.fatalSteps h 8

end Sys2Proof.Machine
end

