-- ==== Sys2Proof/Machine/Issue.lean ====
section
/-! DEFINITION. Fetching packets, their checks, dispatch and completion at the command processor (R93 to R101). -/
namespace Sys2Proof.Machine

/-! ### Admin packets -/

/-- An admin command: how it ends, none while it waits. -/
def Mach.adminAnswer (m : Mach) (h : HalfId) (ref : PktRef) (p : Pkt) : Mach × Answer :=
  match p.op with
  | 0x60 => m.ctxCreate h p
  | 0x61 => m.ctxDestroy h ref p
  | 0x62 => m.queueCreate h p
  | 0x63 => m.queueDestroy h ref p
  | 0x64 => m.partConfig h p
  | 0x65 => m.keyInstall h p
  | 0x66 => m.keyRetire h ref p
  | 0x67 => m.regionRegister h p
  | 0x68 => m.regionRelease h p
  | 0x69 => m.fwStage h p
  | 0x6A => m.halfOffline h ref p
  | 0x6B => m.halfOnline h ref
  | 0x6C => m.journalRead h p
  | 0x6D => m.marginReplan h
  | 0x6E => m.chipAdmit h ref p
  | 0x6F => m.fabricJoin h ref p
  | 0xF0 => m.diag h p
  | _ => (m, none)

/-- The half that executes a packet (Table 04-3): the owner of the port for CHIPLET_ADMIT, else the queue's home. -/
def Pkt.runsOn (p : Pkt) (h : HalfId) : HalfId :=
  if p.op = 0x6E then (if p.arg 0 / 8 = 0 then .A else .B) else h

/-- An admin packet runs, or is tried again where it waits. One that waits for a drain or a sweep is completed there. -/
def Mach.adminPkt (m : Mach) (h : HalfId) (d : Disp) (first sync : Bool) : Mach :=
  if ¬ first ∧ [0x61, 0x63, 0x66].contains d.pkt.op then m
  else match m.adminAnswer h d.ref d.pkt with
    | (m1, some (st, det, res)) => m1.endPkt (d.pkt.runsOn h) d st det res 0 sync
    | (m1, none) => m1

/-! ### Dispatch (R94 step 9, R96 to R98) -/

/-- Packets that may start before the partner has acknowledged their Dispatch record: they write no memory (R62). -/
def Pkt.writesNothing (p : Pkt) : Bool := p.op == 0x00 || p.op == 0x11

/-- A stream that a DRAFT_SEND or DRAFT_CLOSE names has a packet in flight (R268): the packet does not start, and holds its queue. -/
def Half.streamBusy (x : Half) (p : Pkt) : Bool := match x.stream p.hdr.ctx (p.arg 0) with
  | some s => s.flight.isSome
  | none => false

/-- The head of a queue may be dispatched on its home half (R64, R72, R92, R96, R98, R446). -/
def Blk.mayDispatch (b : Blk) (q : Nat) : Bool :=
  let h := b.queueHome q
  let x := b.half h
  let r := b.getQ q
  let leaving : Bool := match x.tdm.offlineCmd with
    | some (t, _, _) => t == h
    | none => false
  x.serves && x.tdm.silentAt.isNone && !x.pwr.hold && !leaving &&
  (r.st == .running || r.st == .held || r.st == .draining || (r.st == .stopped && (r.fetched.head?.map (·.ref.nslots)).getD 1 == 0)) &&
  !r.fetched.isEmpty && decide (r.inflight.length < 32) &&
  r.inflight.all (fun d => !bitAt d.ref.flags 0 && d.pkt.op != 0x11 && !(d.pkt.op == 0x22 && x.streamBusy d.pkt)) &&
  !(r.fetched.head?.any (fun f => f.pkt.isSend && x.streamBusy f.pkt)) &&
  decide (sub32 r.cqCount r.cqHead + r.replies.length + r.inflight.length < 2 ^ r.cqLog2)

/-- A packet leaves the queue's fetched packets for the dispatch window; while PAIRED its Dispatch record is mirrored (R61). -/
def Blk.startPkt (b : Blk) (t : Clk) (h : HalfId) (f : Fetched) (sync : Bool) : Blk × Disp :=
  let d : Disp := { ref := f.ref, pkt := f.pkt, half := h, waitAck := if sync then none else b.mirrorSeq h, time := t.now h }
  let b1 := b.modQ f.ref.q (fun k => { k with
    fetched := k.fetched.filter (fun e => e.ref.slot != f.ref.slot), inflight := k.inflight ++ [d] })
  (b1.mirror h (.dispatch f.ref.q d), d)

/-- A signal trailer's range is translated at submission (R94 step 9, R145, R167): the failure it gives the packet. -/
def Mach.trailerCheck (m : Mach) (h : HalfId) (f : Fetched) : Mach × Option (Nat × Nat × Nat) :=
  match f.pkt.hdr.trailer with
  | none => (m, none)
  | some (a, _) =>
    if f.ref.q = 0 then (m, none)
    else match m.translate h f.pkt.hdr.ctx f.pkt.hdr.part a true with
      | (m1, .span _) => (m1, none)
      | (m1, .absent) => (m1, some (0x20, 0xC0, a))
      | (m1, .prot k) => (m1, some (0x21, k, a))

/-- The first spans of a channel packet's ranges, translated at submission (R94 step 9, R145): a refused one refuses the packet, before any
fault of another range is served (R167). -/
def Mach.rangesCheck (m : Mach) (h : HalfId) (p : Pkt) : List (Nat × Nat × Bool) → Mach × Option (Nat × Nat × Nat)
  | [] => (m, none)
  | (_, va, write) :: rest =>
    match m.translate h p.hdr.ctx p.hdr.part va write with
    | (m1, .prot k) => (m1, some (0x21, k, va))
    | (m1, _) => m1.rangesCheck h p rest

/-- What submission's translations of a packet come to; without `sync` those of a channel's ranges are walked on their own. -/
def Mach.submitCheck (m : Mach) (h : HalfId) (f : Fetched) (sync : Bool) : Mach × Option (Nat × Nat × Nat) :=
  match m.trailerCheck h f with
  | (m1, some e) => (m1, some e)
  | (m1, none) => if sync ∧ f.ref.q ≠ 0 ∧ f.pkt.takesChan then m1.rangesCheck h f.pkt f.pkt.firsts else (m1, none)

/-- Data of a QUERY (R126), cut to MAX, and whether it was cut. -/
def Blk.queryData (b : Blk) (h : HalfId) (p : Pkt) : List Byte × Bool :=
  if p.op = 0x50 then
    let r := queryRecord b h p.hdr.ctx p.hdr.part (p.arg 0) (p.arg 1)
    (r.take (p.arg 3), decide (p.arg 3 < r.length))
  else ([], false)

/-- Dispatch one packet on its home half: it takes its channel and engine slot, or runs in the command processor. With `sync` every
exchange inside the block is taken as done, and the packet runs as far as it goes; without, its events are commands of their own.
False where no channel or slot is free. -/
def Mach.dispatchPkt (m : Mach) (h : HalfId) (f : Fetched) (sync : Bool) : Mach × Bool :=
  match m.submitCheck h f sync with
  | (m1, some (st, det, fa)) => ({ m1 with blk := m1.blk.finish h f.ref st det 0 fa none sync }, true)
  | (m1, none) =>
    let p := f.pkt
    if f.ref.q = 0 ∧ (m1.blk.half h).meetsSealed p then
      ({ m1 with blk := m1.blk.finish h f.ref 0x12 8 0 0 p.hdr.trailer sync }, true)
    else if p.takesChan then
      let (b1, d) := m1.blk.startPkt m1.clk h f sync
      let (data, cut) := m1.blk.queryData h p
      match Mach.assign { m1 with blk := b1 } h d data cut with
      | none => (m, false)
      | some (m3, c) =>
        let m2 := if p.isSend then m3.updStream h p.hdr.ctx (p.arg 0) (fun s => { s with flight := some h }) else m3
        if sync then ((m2.runChan h c (m2.chan h c).fuel).fabDrain h 64, true)
        else if f.ref.q = 0 then (m2, true)
        else
          let hold (y : Half) (o : Nat × Nat × Bool) : Half :=
            y.holdAt c f.ref.q f.ref.slot o.1 p.hdr.ctx p.hdr.part o.2.1 o.2.2 3
          ({ m2 with blk := m2.blk.upd h (fun y => p.firsts.foldl hold y) }, true)
    else
      let (b1, d) := m1.blk.startPkt m1.clk h f sync
      let m2 : Mach := { m1 with blk := b1 }
      if d.waitAck.isSome ∧ ¬ p.writesNothing then (m2, true)
      else if 0x60 ≤ p.op then (m2.adminPkt h d true sync, true)
      else (m2.userPkt h d sync, true)

/-- An admin packet that waited for its Dispatch record has not run yet. -/
def Mach.adminFresh (m : Mach) (d : Disp) : Bool :=
  match d.pkt.op with
  | 0x61 => !(m.blk.half d.half).obj.ctxs.any (fun c => (c.2.drain.bind (·.reply)) == some d.ref)
  | 0x63 => !(m.blk.half d.half).obj.queues.any (fun c => (c.2.drain.bind (·.reply)) == some d.ref)
  | 0x66 => (m.blk.half d.half).sec.sweepRef != some d.ref
  | _ => true

/-- A packet in flight is tried again, once its Dispatch record is acknowledged (R62): PACKET_COMPLETE. -/
def Mach.retryPkt (m : Mach) (q slot : Nat) (sync : Bool) : Mach :=
  let r := m.blk.getQ q
  match r.inflight.find? (fun d => d.ref.slot == slot) with
  | none => m
  | some d =>
    if d.waitAck.isSome then m
    else match d.chan with
      | some c => if sync then (m.runChan d.half c (m.chan d.half c).fuel).fabDrain d.half 64 else m.packetComplete d.half c
      | none => if 0x60 ≤ d.pkt.op then m.adminPkt d.half d (m.adminFresh d) sync else m.userPkt d.half d sync
/-- Dispatch the packets of one queue while its head may go. -/
def Mach.dispatchQueue (m : Mach) (q : Nat) (sync : Bool) : Nat → Mach
  | 0 => m
  | n + 1 =>
    if ¬ m.blk.mayDispatch q then m
    else match (m.blk.getQ q).fetched with
      | [] => m
      | f :: _ =>
        match m.dispatchPkt (m.blk.queueHome q) f sync with
        | (m1, true) => m1.dispatchQueue q sync n
        | (_, false) => m

/-- Queues of a half whose head may be dispatched, PRIORITY heads or the others. -/
def Blk.heads (b : Blk) (h : HalfId) (prio : Bool) : List Nat :=
  ((b.half h).obj.queues.map (·.1)).filter (fun q =>
    b.queueHome q == h && b.mayDispatch q && ((b.getQ q).fetched.head?.map (fun f => bitAt f.ref.flags 5)).getD false == prio)

/-- The next of a list of numbers in round robin after the last one served. -/
def nextInTurn (last : Nat) (l : List Nat) : Option Nat :=
  match l.find? (fun q => decide (last < q)) with
  | some q => some q
  | none => l.head?

/-- PACKET_DISPATCH (R97): the half's Kiln dispatches one queue head, PRIORITY ones first, each class in round robin. -/
def Mach.packetDispatch (m : Mach) (h : HalfId) : Mach :=
  let x := m.blk.half h
  let go (q : Nat) (b : Blk) : Mach :=
    match (b.getQ q).fetched with
    | [] => m
    | f :: _ => match Mach.dispatchPkt { m with blk := b } h f false with
      | (m1, true) => m1
      | (_, false) => m
  match nextInTurn x.lastPrio (m.blk.heads h true) with
  | some q => go q (m.blk.upd h (fun y => { y with lastPrio := q }))
  | none => match nextInTurn x.lastQ (m.blk.heads h false) with
    | some q => go q (m.blk.upd h (fun y => { y with lastQ := q }))
    | none => m

/-! ### Fetch (R93, R94, R101) -/

/-- Slots of a packet. -/
def Hdr.slots (e : Hdr) : Nat := (e.len + 3) / 4

/-- A packet as its queue receives it: checked in the order of R94; one that fails is answered and does not execute. -/
def Blk.takePkt (b : Blk) (q idx : Nat) (p : Pkt) (sync : Bool) : Blk :=
  let h := b.queueHome q
  let x := b.half h
  let r := b.getQ q
  let ref : PktRef := { q := q, slot := idx, nslots := p.hdr.slots, tag := p.hdr.tag, flags := p.hdr.flags }
  let b1 := b.modQ q (fun k => { k with fetchIdx := (idx + p.hdr.slots) % 2 ^ 32 })
  match x.checkPkt q r p (if q = 0 then adminErrs x p else []) with
  | some (st, det) => b1.finish h ref st det 0 0 none sync
  | none => b1.modQ q (fun k => { k with fetched := k.fetched ++ [{ ref := ref, pkt := p }] })

/-- A packet whose LENGTH is out of range stops its queue (R93): INVALID_PARAM, DETAIL 1, TAG as read, and the consumer index stays. -/
def Blk.badLength (b : Blk) (q idx : Nat) (flags tag : Nat) (sync : Bool) : Blk :=
  let h := b.queueHome q
  let ref : PktRef := { q := q, slot := idx, nslots := 0, tag := tag, flags := flags }
  (b.finish h ref 0x11 1 0 0 none sync).stopQueue q 1

/-- PACKET_FETCH (R101): a fetch read of up to 64 slots, never past the producer index. -/
def Blk.packetFetch (b : Blk) (q : Nat) : Blk :=
  let h := b.queueHome q
  let x := b.half h
  let r := b.getQ q
  let leaving : Bool := match x.tdm.offlineCmd with
    | some (t, _, _) => t == h
    | none => false
  let n := min 64 (sub32 r.pidx r.fetchIdx)
  if r.st != .running ∨ r.fetching.isSome ∨ ¬ x.serves ∨ x.tdm.silentAt.isSome ∨ leaving ∨ n = 0 ∨ 2 ^ 31 ≤ sub32 r.pidx r.fetchIdx ∨
    64 ≤ r.fetched.length ∨ ¬ b.ringReady (b.ringPort q) r.part then b
  else
    (b.modQ q (fun k => { k with fetching := some (r.fetchIdx, n) })).emit
      (.hostRead (b.ringPort q) (r.sqBase + r.fetchIdx % 2 ^ r.sqLog2 * 64) (n * 64))

/-- Bytes of n slots of a ring from an index on; the ring wraps (R86). -/
def ringBytes (ms : MemSys) (r : Queue) (idx n : Nat) : List Byte :=
  (List.range n).flatMap (fun i => ms.readHost (r.sqBase + (idx + i) % 2 ^ r.sqLog2 * 64) 64)

/-- Packets of fetched slots in ring order: each whole one is taken; the first that runs past them waits for a later fetch. -/
def Blk.takeSlots (b : Blk) (q idx left : Nat) (bs : List Byte) : Nat → Blk
  | 0 => b
  | n + 1 =>
    if left = 0 ∨ (b.getQ q).st != .running then b
    else
      let len := byteFld bs 3 2
      if len < 4 ∨ 32 < len then b.badLength q idx (byteFld bs 1 1) (byteFld bs 15 8) false
      else
        let k := (len + 3) / 4
        if left < k then b
        else (b.takePkt q idx (parsePkt bs) false).takeSlots q ((idx + k) % 2 ^ 32) (left - k) (bs.drop (k * 64)) n

/-- PACKET_FETCH_COMPLETE (R94): the fetch data is back, and each packet is checked. -/
def Mach.fetchComplete (m : Mach) (q : Nat) : Mach :=
  let r := m.blk.getQ q
  match r.fetching with
  | none => m
  | some (idx, n) =>
    let b := m.blk.modQ q (fun k => { k with fetching := none })
    if r.st != .running then { m with blk := b } else { m with blk := b.takeSlots q idx n (ringBytes m.mem r idx n) n }

/-- A packet submitted on a queue (the opcode commands): it stands at the next slot to fetch, is checked, and runs as far as it goes. A
queue that is not RUNNING, or whose half does not serve, fetches nothing. -/
def Mach.submit (m : Mach) (q : Nat) (p : Pkt) : Mach :=
  let r := m.blk.getQ q
  let x := m.blk.half (m.blk.queueHome q)
  if r.st != .running ∨ ¬ x.serves ∨ r.fetching.isSome then m
  else
    let idx := r.fetchIdx
    let k := if p.hdr.len < 4 ∨ 32 < p.hdr.len then 1 else p.hdr.slots
    let b0 := m.blk.modQ q (fun e => if later ((idx + k) % 2 ^ 32) e.pidx then { e with pidx := (idx + k) % 2 ^ 32 } else e)
    let b1 := if p.hdr.len < 4 ∨ 32 < p.hdr.len then b0.badLength q idx p.hdr.flags p.hdr.tag true else b0.takePkt q idx p true
    Mach.dispatchQueue { m with blk := b1 } q true ((b1.getQ q).fetched.length)

/-- PACKET_COMPLETE (R202). -/
def Mach.packetDone (m : Mach) (q slot : Nat) : Mach := m.retryPkt q slot false

/-- FENCE_SIGNAL_APPLY (R113): a FENCE_SIGNAL that waited for what comes before it is tried again. -/
def Mach.signalApply (m : Mach) (q slot : Nat) : Mach :=
  match (m.blk.getQ q).inflight.find? (fun d => d.ref.slot == slot && d.pkt.op == 0x10) with
  | none => m
  | some _ => m.retryPkt q slot false

end Sys2Proof.Machine
end

