-- ==== Sys2Proof/Machine/Pmc.lean ====
section
/-! DEFINITION. Performance monitors (R479 to R493). -/
namespace Sys2Proof.Machine

/-- An event of an island and whether it can be attributed to a partition (Table 19-1); none for a reserved number. -/
def pmcEvent (island ev : Nat) : Option Bool :=
  let y (lo hi : Nat) : Bool := decide (lo ≤ ev) && decide (ev ≤ hi)
  if island = 4 then (if y 1 4 || y 0x10 0x14 then some true else none)
  else if 5 ≤ island ∧ island ≤ 8 then (if y 1 4 || y 0x10 0x13 then some true else none)
  else if island ≤ 1 then (if y 0x10 0x12 || ev == 0x14 then some true else if ev = 0x13 ∨ ev = 0x15 then some false else none)
  else if island = 2 then (if y 0x10 0x12 then some true else none)
  else if island = 3 then (if y 0x10 0x15 then some true else none)
  else if island = 9 then (if y 0x10 0x12 then some true else if y 0x13 0x14 then some false else none)
  else if island = 10 then (if y 0x10 0x13 then some true else if ev = 0x14 then some false else none)
  else if island = 11 then (if y 0x10 0x12 then some true else none)
  else if island = 13 then (if y 0x10 0x11 then some false else none)
  else if island = 12 then (if ev = 0x10 then some false else none)
  else none

/-- Units of an island that a counter can select. -/
def pmcUnits (island : Nat) : Nat :=
  if island = 4 then 16 else if 5 ≤ island ∧ island ≤ 8 then 4 else if island ≤ 1 then 2 else if island = 10 then 16 else 1

/-- Offset of a group's registers. -/
def pmcBase (g : Nat) : Nat := 0x0B00000 + 0x100 * g

/-- The partition a group's control register filters by (R488). -/
def pmcFilter (ctrl : Nat) : Option Nat :=
  if bitAt ctrl 30 then some (bits ctrl 29 24) else if bitAt ctrl 22 then some (bits ctrl 21 16) else none

/-- What one counter adds for a batch (R481, R488). -/
def pmcCount (ctrl sel : Nat) (occs : List PmcOcc) : Nat :=
  let island := bits ctrl 11 8
  let ev := bits sel 7 0
  let unit := bits sel 14 8
  let f := pmcFilter ctrl
  match pmcEvent island ev with
  | none => 0
  | some p =>
    if f.isSome ∧ ¬ p then 0
    else ((occs.filter (fun o => o.event == ev && (bitAt sel 15 && decide (o.unit < pmcUnits island) || decide (unit < pmcUnits island) && o.unit == unit) &&
      (f.isNone || o.part == f))).map (·.n)).foldl (· + ·) 0

/-- Add to a 48-bit counter of a group; passing the top wraps it and sets its overflow bit (R485). -/
def Half.pmcAdd (x : Half) (g off bit n : Nat) : Half :=
  let v := x.regFld off 47 0 + n
  let y := x.setFld off 47 0 (v % 2 ^ 48)
  if 2 ^ 48 ≤ v then y.setBit (pmcBase g + 0x10) bit else y

/-- PMC_BATCH (R480, R481, R486): a batch of at most 32 cycles reaches its group: the fixed counter and every programmable counter take it
together. -/
def Half.pmcBatch (x : Half) (g cycles : Nat) (occs : List PmcOcc) : Half :=
  let ctrl := (x.reg (pmcBase g)).toNat
  if 12 ≤ g ∨ x.boot.inReset ∨ ¬ bitAt ctrl 0 ∨ 14 ≤ bits ctrl 11 8 then x
  else
    let y := x.pmcAdd g (pmcBase g + 8) 8 (min 32 cycles)
    (List.range 8).foldl (fun z k => z.pmcAdd g (pmcBase g + 0x80 + 8 * k) k (pmcCount ctrl (x.reg (pmcBase g + 0x40 + 8 * k)).toNat occs)) y

/-- A group that a partition owns. -/
def Half.pmcOwned (x : Half) (g part : Nat) : Bool :=
  let ctrl := (x.reg (pmcBase g)).toNat
  bitAt ctrl 30 && bits ctrl 29 24 == part

/-- A partition's reset clears the counters, overflow bits, ENABLE and SEL fields of the groups it owns (R490). -/
def Half.pmcReset (x : Half) (part : Nat) : Half :=
  (List.range 12).foldl (fun y g =>
    if y.pmcOwned g part then
      let z := (y.setFld (pmcBase g) 0 0 0).setReg (pmcBase g + 8) 0 |>.setReg (pmcBase g + 0x10) 0
      (List.range 8).foldl (fun w k => (w.setReg (pmcBase g + 0x40 + 8 * k) 0).setReg (pmcBase g + 0x80 + 8 * k) 0) z
    else y) x

end Sys2Proof.Machine
end

