-- ==== Sys2Proof/Machine/Flr.lean ====
section
/-! DEFINITION. Resets of partitions (R397 to R400, R439) and what a function's configuration reset does (R364). -/
namespace Sys2Proof.Machine

/-- A function returns to its configuration defaults: with them its MSI-X table (R364). The fields that no command writes read as
the host's enumeration leaves them again. -/
def Half.fnReset (x : Half) (p vf : Nat) : Half :=
  { x with fns := Tab.del x.fns (p * 64 + vf)
           msix := x.msix.filter (fun e => e.1 / 2 ^ 11 != p * 64 + vf) }

/-- Pending messages of a partition's vectors are discarded (Table 14-7). -/
def Half.dropMsgs (x : Half) (part : Nat) : Half :=
  { x with msgs := x.msgs.filter (fun e => e.1 / 2 ^ 11 % 64 != part) }

/-- Packets of the admin queue are aborted and the queue is ABSENT; ENABLE clears (R397). -/
def Mach.adminGone (m : Mach) (h : HalfId) (o : Origin) : Mach :=
  let m1 := (m.blk.getQ 0).inflight.foldl (fun k d => k.abortPacket d 0x32 1 false) m
  let b := m1.blk.upd h (fun x => x.setFld 0x0030018 0 0 0)
  { m1 with blk := if (b.getQ 0).st = .absent then b else b.queueGone m.clk h o 0 }

/-- A partition's reset starts (Table 14-7): one already in progress absorbs it, and that is journalled (Table 14-8). The contexts of the
partition are destroyed with a bound of 0 that has expired at once. -/
def Mach.partReset (m : Mach) (h : HalfId) (o : Origin) (p : Nat) : Mach :=
  let x := m.blk.half h
  let old := (x.part p).st
  let b0 := m.blk.upd h (fun y => y.journal (m.clk.now h) o 4 p old.num 1)
  if old = .resetting then { m with blk := b0 }
  else
    let b1 := b0.updPart h p (fun k => { k with st := .resetting, flrStart := m.clk.now h, vecMod := [] })
    let quietQ (y : Half) : Half := ((y.dropMsgs p).returnLeases p).pmcReset p
    let b2 := ((b1.upd .A quietQ).upd .B quietQ).upd h (fun y => y.bump 0x0700030 31 0 1)
    let qs := (((b2.a.obj.queues ++ b2.b.obj.queues).filter (fun e => e.2.part == p && e.1 != 0)).map (·.1)).eraseDups
    let b3 := qs.foldl (fun b q => b.modQ q (fun k => { k with fetching := none, fetched := [] })) b2
    let ids := ((b3.half h).obj.ctxs.filter (fun e => e.2.part == p && e.2.st != .destroyed)).map (·.1)
    let m1 := ids.foldl (fun (k : Mach) id =>
      let k1 : Mach := match (k.blk.half h).ctx? id with
        | some c => if c.st = .draining then
            { k with blk := k.blk.updCtx h id (fun e => { e with drain := e.drain.map (fun d => { d with bound := 0, quiet := true }) }) }
          else k.drainStart h o id 0 none true
        | none => k
      k1.drainExpiry h id) { m with blk := b3 }
    if p = 0 then m1.adminGone h o else m1

/-- Every virtual-function partition is reset (R397). -/
def Mach.vfReset (m : Mach) (h : HalfId) (o : Origin) : Mach :=
  ((List.range 63).map (· + 1)).foldl (fun k p => k.partReset h o p) m

/-- VF_ENABLE_CLEAR (R397): VF Enable is cleared on the primary function at a pair port. -/
def Mach.vfEnableClear (m : Mach) (pp : Nat) : Mach :=
  let h := HalfId.ofPort pp
  if m.blk.primaryPort pp then
    let b := m.blk.upd h (fun x => x.updFn (pp % 2) 0 (fun f => { f with vfEnable := false }))
    Mach.vfReset { m with blk := b } h ⟨2, pp * 256⟩
  else m

/-- The longest reset is kept in WQ_PART_FLR_COUNT, in µs. -/
def Half.flrLongest (x : Half) (us : Nat) : Half :=
  if x.regFld 0x0700030 63 32 < us then x.setFld 0x0700030 63 32 us else x

/-- PARTITION_RESET_COMPLETE (R398): with its last context destroyed the partition is READY; it reads RECLAIMING while frames of it wait
for reclaim, or its range for the zero-fill of R408. -/
def Mach.resetComplete (m : Mach) (h : HalfId) (p : Nat) : Mach :=
  let x := m.blk.half h
  let k := x.part p
  if k.st ≠ .resetting ∨ x.obj.ctxs.any (fun e => e.2.part == p && e.2.st != .destroyed) then m
  else
    let st : PartSt := if k.sealed || x.obj.dead.any (fun o => o.part == p) then .reclaiming else .ready
    let b := m.blk.updPart h p (fun e => { e with st := st })
    { m with blk := b.upd h (fun y => (y.flrLongest ((m.clk.now h - k.flrStart) / 1000)).journal (m.clk.now h) fwOrigin 4 p 1 st.num) }

/-- Device memory with a range of local offsets cleared, its poison with it. -/
def MemSys.zeroRange (ms : MemSys) (lo n : Nat) : MemSys :=
  { ms with dev := ms.dev.filter (fun c => decide (c.1 < lo) || decide (lo + n ≤ c.1))
            poison := ms.poison.filter (fun a => decide (a < lo) || decide (lo + n ≤ a)) }

/-- A partition's frames that wait for reclaim go back (R121). -/
def Mach.reclaimPart (m : Mach) (h : HalfId) (p : Nat) : Mach :=
  ((m.blk.half h).obj.dead.filter (fun o => o.part == p)).foldl (fun k o => k.reclaimObj h o) m

/-- FRAME_RECLAIM_DONE (R398, R408): the partition's reclaim has ended, and with it the zero-fill of a sealed range. Frames out of
reach on a lost half keep it waiting (R71). -/
def Mach.reclaimDone (m : Mach) (h : HalfId) (p : Nat) : Mach :=
  let k := (m.blk.half h).part p
  if k.st ≠ .reclaiming then m
  else
    let m1 := m.reclaimPart h p
    if (m1.blk.half h).obj.dead.any (fun o => o.part == p) then m1
    else
      let mem := if k.sealed then m1.mem.zeroRange (viewFrame k.memBase * 2 ^ 21) k.memSize else m1.mem
      let b := m1.blk.updPart h p (fun e => { e with st := .ready, sealed := false })
      { m1 with mem := mem, blk := b.upd h (fun y => y.journal (m.clk.now h) fwOrigin 4 p 2 0) }

/-- Resets that R439 has called for start. -/
def Mach.flrRun (m : Mach) : Mach :=
  let l := m.blk.flrQ
  let h : HalfId := if m.blk.a.boot.inReset ∨ m.blk.a.tdm.st = .fenced then .B else .A
  l.foldl (fun k p => k.partReset h fwOrigin p) { m with blk := { m.blk with flrQ := [] } }

end Sys2Proof.Machine
end

