-- ==== Sys2Proof/Machine/Link.lean ====
section
/-! DEFINITION. Host ports: link events and containment (R34, R209 to R213), Bus Master Enable (R504), D3hot (R455), bonding (R363),
link power (R381, R382), time synchronisation (R379, R380) and function-level reset (R397). -/
namespace Sys2Proof.Machine

/-! ### Containment -/

/-- Offset of WQ_DMA_CONTAIN_n of a logical host port. -/
def containOff (p : Nat) : Nat := 0x0200010 + 8 * p

/-- Contexts with an unflushed mark on a pair port (R205). -/
def Blk.markedCtxs (b : Blk) (pp : Nat) : List Nat :=
  (((b.a.dma.marks ++ b.b.dma.marks).filter (fun k => k / 2 ^ 20 == pp)).map (· % 2 ^ 20)).eraseDups

/-- What a half holds that came through a pair port, or waits on it, is given up: flush reads, marks, ATS requests and results. -/
def Blk.dropPort (b : Blk) (pp : Nat) : Blk :=
  let clean (x : Half) : Half :=
    { x with
      dma := { x.dma with
        flushes := x.dma.flushes.filter (fun f => f.port != pp)
        marks := x.dma.marks.filter (fun k => k / 2 ^ 20 != pp)
        last := Tab.del x.dma.last pp
        owed := x.dma.owed.map (fun o => { o with flush := Tab.del o.flush pp }) }
      xlt := { x.xlt with holders := x.xlt.holders.map (fun e =>
        if e.2.span.target = 1 ∧ b.dataPort e.2.q = pp then (e.1, { e.2 with ats := [], atsOut := none }) else e) } }
  (b.upd .A clean).upd .B clean

/-- A channel's packet uses a pair port for host memory: a host span, a host read, an unflushed write, or a physical host address. -/
def Blk.chanUses (b : Blk) (x : Half) (k : Chan) (pp : Nat) : Bool :=
  b.dataPort k.q == pp &&
    (x.xlt.holders.any (fun e => e.2.q == k.q && e.2.slot == k.slot && e.2.span.target == 1 && e.2.st != 0) ||
     k.reads.any (fun r => match r.src with
       | .host _ _ _ => true
       | _ => false) || !k.flush.isEmpty || (k.q == 0 && k.disp.pkt.args.any (fun a => bitAt a 63)))

/-- Packets on channels of both halves that pass a test, stopped at a burst boundary with HOST_LINK_DOWN. -/
def Mach.stopOnPort (m : Mach) (pp : Nat) (trailer : Bool) (p : Half → Chan → Bool) : Mach :=
  [HalfId.A, HalfId.B].foldl (fun (k : Mach) h =>
    let x := k.blk.half h
    (x.dma.chans.filter (fun e => p x e.2)).foldl (fun n e => n.abortPacket { e.2.disp with chan := some e.1, half := h } 0x50 pp trailer) k) m

/-- The port's function takes its configuration defaults (R364). Pending messages of the port are discarded and counted; on a primary port
VF Enable clears with them, and the virtual-function partitions are due a reset. -/
def Blk.portConfigReset (b : Blk) (pp : Nat) : Blk :=
  let h := HalfId.ofPort pp
  let p := pp % 2
  let n := ((b.half h).msgs.filter (fun e => e.1 / 2 ^ 17 == p)).length
  let b1 := b.upd h (fun x =>
    let y := (x.fnReset p 0).updPort p (fun k => { k with dropped := k.dropped + n })
    { y with msgs := y.msgs.filter (fun e => e.1 / 2 ^ 17 != p) })
  if b.primaryPort pp then
    let b2 := b1.upd h (fun x => (List.range 63).foldl (fun y i => y.fnReset p (i + 1)) (x.updFn p 0 (fun f => { f with vfEnable := false })))
    { b2 with flrQ := b2.flrQ ++ ((List.range 63).map (· + 1)).filter (fun i => !b2.flrQ.contains i) }
  else b1

/-- Containment is entered (Table 08-8). -/
def Mach.containEnter (m : Mach) (pp : Nat) : Mach :=
  let h := HalfId.ofPort pp
  let p := pp % 2
  let lost := m.blk.markedCtxs pp
  let b1 := m.blk.upd h (fun x => x.updPort p (fun k => { k with contained := true, dropped := 0, lostCtx := min 65535 lost.length, lpReq := none }))
  let m1 := Mach.stopOnPort { m with blk := b1 } pp false (fun _ k => lost.contains k.ctx && (Tab.look k.flush pp).isSome)
  let m2 := lost.foldl (fun (k : Mach) id =>
    let part := (((k.blk.half h).ctx? id).map (·.part)).getD 0
    k.lose { ctx := id, cause := 3, master := 2 ^ 15 + part % 64 * 512, access := 2, addr := 0, half := h }) m1
  let m3 := (List.range 64).foldl (fun k vf => k.faultsEnd pp vf 7) m2
  let m4 := m3.stopOnPort pp true (fun x k => m3.blk.chanUses x k pp)
  let b2 := m4.blk.dropPort pp
  let qs := ((b2.a.obj.queues ++ b2.b.obj.queues).map (·.1)).eraseDups
  let b3 := (qs.filter (fun q => b2.ringPort q == pp)).foldl (fun b q => b.stopQueue q 4) b2
  Mach.cohContain { m4 with blk := b3 } h p

/-- HL_DOWN or HL_HOT_RESET is asserted (R211), with the cause bit of WQ_DMA_CONTAIN_n it sets. -/
def Mach.hostPortEvent (m : Mach) (pp bit : Nat) : Mach :=
  let h := HalfId.ofPort pp
  let p := pp % 2
  if (m.blk.half h).boot.inReset then m
  else
    let m1 := if ((m.blk.half h).port p).contained then m else m.containEnter pp
    let b := (m1.blk.upd h (fun x => (x.setBit (containOff p) bit).raiseErr p 0 0x44 3 11 0 none p)).portConfigReset pp
    { m1 with blk := b }

/-- HL_DOWN (R34, R211, R364). -/
def Mach.hlDown (m : Mach) (pp : Nat) : Mach :=
  let m1 := m.hostPortEvent pp 1
  { m1 with blk := m1.blk.updHport pp (fun k => { k with up := false, retrain := false }) }

/-- HL_HOT_RESET (R34, R211, R364). -/
def Mach.hlHotReset (m : Mach) (pp : Nat) : Mach := m.hostPortEvent pp 2

/-- HL_UP (R34): the link can carry flits; no low-power request of before is still driven. -/
def Blk.hlUp (b : Blk) (t : Clk) (pp : Nat) : Blk :=
  b.updHport pp (fun k => { k with up := true, retrain := false, lpState := 0, lpReq := none, lpSince := t.now (HalfId.ofPort pp) })

/-- HL_RETRAIN (R34, R210): asserted or released; nothing fails while it lasts. -/
def Blk.hlRetrain (b : Blk) (pp : Nat) (active : Bool) : Blk := b.updHport pp (fun k => { k with retrain := active })

/-- A queue asks for a message when its port is re-armed (R213 step 4). -/
def Queue.rearmCause (q : Queue) : Bool :=
  q.replies.any (fun r => bitAt r.ref.flags 2 || (q.intOnErr && r.status != 0))

/-- The held replies of one queue go out, or are dropped, when its port is re-armed (R213). -/
def Mach.rearmQueue (m : Mach) (pp : Nat) (discard : Bool) (q : Nat) : Mach :=
  let r := m.blk.getQ q
  let cause := r.rearmCause
  let ready := r.replies.filter (fun e => e.waitAck.isNone)
  let m1 := if discard then
      { m with blk := m.blk.modQ q (fun k => ready.foldl (fun (c : Queue) e => ({ c with replies := c.replies.erase e }).slotsDone e.ref) k) }
    else ready.foldl (fun (k : Mach) _ => k.replyWrite q) m
  let m2 := Mach.indexWrite { m1 with blk := m1.blk.modQ q (fun k => { k with idxDirty := true, msixAfterIdx := false }) } q
  if cause then { m2 with blk := m2.blk.cause m2.clk pp r.part r.vec } else m2

/-- CONTAIN_REARM (R213): a write of REARM is ignored while the port is down or its function's Bus Master Enable is clear. -/
def Mach.containRearm (m : Mach) (pp : Nat) (discard : Bool) : Mach :=
  let h := HalfId.ofPort pp
  let x := m.blk.half h
  let k := x.port (pp % 2)
  if x.boot.inReset ∨ ¬ k.contained ∨ ¬ k.up ∨ ¬ (x.fn (pp % 2) 0).bme then m
  else
    let b := m.blk.updHport pp (fun e => { e with contained := false })
    let qs := (((b.a.obj.queues ++ b.b.obj.queues).map (·.1)).eraseDups).filter (fun q => b.ringPort q == pp && (b.getQ q).st != .absent)
    qs.foldl (fun n q => n.rearmQueue pp discard q) { m with blk := b }

/-! ### Functions -/

/-- Replies, index words and messages that waited on a function leave in order, the messages last (R455, R504). -/
def Mach.releaseFn (m : Mach) (pp part : Nat) : Mach :=
  let b := m.blk
  let qs := (((b.a.obj.queues ++ b.b.obj.queues).map (·.1)).eraseDups).filter (fun q => b.ringPort q == pp && (b.getQ q).part == part)
  let m1 := qs.foldl (fun (n : Mach) q => ((n.blk.getQ q).replies.foldl (fun (k : Mach) _ => k.replyWrite q) n).indexWrite q) m
  let x := m1.blk.half (HalfId.ofPort pp)
  let vs := (x.msgs.filter (fun e => e.1 / 2 ^ 11 == pp % 2 * 64 + part)).map (fun e => e.1 % 2 ^ 11)
  { m1 with blk := vs.foldl (fun k v => k.msixSend pp part v) m1.blk }

/-- BUS_MASTER_ENABLE_CLEAR (R504): requests of the function wait; nothing is lost. -/
def Blk.bmeClear (b : Blk) (pp vf : Nat) : Blk :=
  b.upd (HalfId.ofPort pp) (fun x => x.updFn (pp % 2) vf (fun f => { f with bme := false }))

/-- BUS_MASTER_ENABLE_SET (R504): the waiting traffic is released in order. Channels that wait for the function go on with their next
burst. -/
def Mach.bmeSet (m : Mach) (pp vf : Nat) : Mach :=
  Mach.releaseFn { m with blk := m.blk.upd (HalfId.ofPort pp) (fun x => x.updFn (pp % 2) vf (fun f => { f with bme := true })) } pp vf

/-- D3HOT_ENTRY (R455): the function keeps its state; with PME_En set PM_PME is sent for causes that are held already. -/
def Blk.d3hotEntry (b : Blk) (pp vf : Nat) : Blk :=
  let h := HalfId.ofPort pp
  let b1 := b.upd h (fun x => x.updFn (pp % 2) vf (fun f => { f with d3hot := true }))
  let x := b1.half h
  if (x.fn (pp % 2) vf).pmeEn && x.msgs.any (fun e => e.1 / 2 ^ 11 == pp % 2 * 64 + vf) then b1.emit (.pme pp vf) else b1

/-- D0_RETURN (R455): held replies and index words are written and held messages sent. -/
def Mach.d0Return (m : Mach) (pp vf : Nat) : Mach :=
  Mach.releaseFn { m with blk := m.blk.upd (HalfId.ofPort pp) (fun x => x.updFn (pp % 2) vf (fun f => { f with d3hot := false })) } pp vf

/-- FUNCTION_LEVEL_RESET (Table 14-6). -/
def Mach.flr (m : Mach) (pp vf : Nat) : Mach :=
  let h := HalfId.ofPort pp
  let o : Origin := ⟨2, pp * 256 + vf⟩
  if (m.blk.half h).boot.inReset then m
  else if ¬ m.blk.primaryPort pp then m.hlHotReset pp
  else if vf = 0 then
    let b := m.blk.upd h (fun x => (x.fnReset (pp % 2) 0).updFn (pp % 2) 0 (fun f => { f with vfEnable := false }))
    (Mach.partReset { m with blk := b } h o 0).vfReset h o
  else Mach.partReset { m with blk := m.blk.upd h (fun x => x.fnReset (pp % 2) vf) } h o vf

/-- BOND_WRITE (R363): the companion bits of WQ_HST_BOND are written through the primary only. A bit that a queue's ring port needs stays
set, and REFUSED is set. -/
def Blk.bondWrite (b : Blk) (t : Clk) (via : Via) (h : HalfId) (v : Nat) : Blk :=
  let byPrimary : Bool := match via with
    | .fn port part _ => part == 0 && b.primaryPort port
    | .mctp _ => false
  let old := (b.half h).regFld 0x0600010 3 1
  let used (i : Nat) : Bool := (b.half h).obj.queues.any (fun e => e.2.st != .absent && e.2.ringPort == i + 1)
  let kept := (List.range 3).filter (fun i => bitAt old i && !bitAt v (i + 1) && used i)
  let new := (List.range 3).foldl (fun a i => if bitAt v (i + 1) || kept.contains i then a + 2 ^ i else a) 0
  let before := ((b.half h).reg 0x0600010).toNat
  let b1 := b.updPair h (fun x =>
    let y := if byPrimary then x.setFld 0x0600010 3 1 new else x
    let z := if bitAt v 8 then y.setFld 0x0600010 8 8 0 else y
    if byPrimary && !kept.isEmpty then z.setFld 0x0600010 8 8 1 else z)
  let after := ((b1.half h).reg 0x0600010).toNat
  if ¬ byPrimary ∨ old = new then b1
  else b1.upd h (fun x =>
    let y := (List.range 3).foldl (fun z i =>
      if bitAt old i != bitAt new i then z.journal (t.now h) via.origin 16 (i + 1) (b2n (bitAt old i)) (b2n (bitAt new i)) else z) x
    y.journal (t.now h) via.origin 1 0x0600010 before after)

/-! ### Link power -/

/-- HL_LP_STATE_CHANGE (R381): the state in force changes; the time in the old one is added to WQ_HST_LP_RESID_p. -/
def Blk.lpChange (b : Blk) (t : Clk) (pp st : Nat) : Blk :=
  let h := HalfId.ofPort pp
  let now := t.now h
  b.upd h (fun x =>
    let k := x.port (pp % 2)
    let us := (now - k.lpSince) / 1000
    let y := if k.lpState = 2 then x.bumpSat (0x0600098 + 8 * (pp % 2)) 63 32 us
      else if k.lpState = 1 then x.bumpSat (0x0600098 + 8 * (pp % 2)) 31 0 us else x
    y.updPort (pp % 2) (fun e => { e with lpState := st % 4, lpSince := now, lpReq := if e.lpReq = some (st % 4) then none else e.lpReq }))

/-- Ask for a link power state. -/
def Blk.lpAsk (b : Blk) (pp st : Nat) : Blk := (b.updHport pp (fun k => { k with lpReq := some st })).emit (.linkReq pp st)

/-- Link power states may be requested: the half runs, no strict partition exists (R395), the link is up and in no containment. -/
def Blk.lpMay (b : Blk) (pp en : Nat) : Bool :=
  let x := b.half (HalfId.ofPort pp)
  let k := x.port (pp % 2)
  !x.boot.inReset && bitAt (x.regFld 0x0600090 1 0) en && !x.anyStrict && k.up && !k.contained && k.lpReq.isNone

/-- LINK_L0P_REQUEST (R381): traffic has stayed low for LP_WINDOW. -/
def Blk.l0pRequest (b : Blk) (pp : Nat) : Blk :=
  if b.lpMay pp 0 ∧ (b.hport pp).lpState = 0 then b.lpAsk pp 1 else b

/-- A port is idle as far as the block's own requests go (R381): no reads, flush reads, Page Requests, ATS requests or back-invalidates
outstanding, and nothing waiting to be sent. -/
def Blk.portIdle (b : Blk) (pp : Nat) : Bool :=
  let quiet (x : Half) : Bool :=
    !x.dma.flushes.any (fun f => f.port == pp) && x.atsBusy pp == 0 && !x.xlt.pri.any (fun r => r.port == pp && !r.retired) &&
    !x.dma.chans.any (fun e => b.dataPort e.2.q == pp && e.2.reads.any (fun r => match r.src with
      | .host _ _ _ => true
      | _ => false))
  let h := HalfId.ofPort pp
  quiet b.a && quiet b.b && !(b.half h).coh.txns.any (fun t => t.bis.contains (pp % 2)) && (b.hport pp).txQueue == 0

/-- LINK_L1_REQUEST (R381): the port has been idle for L1_IDLE and the host has enabled ASPM L1. -/
def Blk.l1Request (b : Blk) (pp : Nat) : Blk :=
  if b.lpMay pp 1 ∧ (b.hport pp).lpState ≠ 2 ∧ ((b.half (HalfId.ofPort pp)).fn (pp % 2) 0).aspmL1 ∧ b.portIdle pp then b.lpAsk pp 2 else b

/-- LINK_POWER_REQUEST_TIMEOUT (R382): a request is not honoured within 100 µs. -/
def Blk.lpTimeout (b : Blk) (pp : Nat) : Blk :=
  let h := HalfId.ofPort pp
  if (b.hport pp).lpReq.isSome then
    b.upd h (fun x => (x.updPort (pp % 2) (fun k => { k with lpReq := none })).raiseErr (pp % 2) 0 0x43 0 11 0 none (pp % 2))
  else b

/-! ### Time synchronisation -/

/-- The half runs PTM (R379): half A, half B once half A is lost, or a half that is a device of its own. -/
def Blk.runsPtm (b : Blk) (h : HalfId) : Bool :=
  let x := b.half h
  !x.boot.inReset && (h == .A && x.tdm.st != .fenced && x.tdm.st != .standby && x.tdm.st != .offline ||
    x.tdm.st == .unpaired || x.tdm.st == .solo || x.tdm.st == .freewheel)

/-- Pair port a half's PTM uses: WQ_HST_PTM_CTRL.PORT on half A, its own logical port 0 otherwise. -/
def Blk.ptmPort (b : Blk) (h : HalfId) : Nat :=
  h.num * 2 + (if h = .A then (b.half h).regFld 0x0600078 32 32 else 0)

/-- PTM_EXCHANGE (R379): every PERIOD an exchange starts; one before it that was not answered counts as missed. -/
def Blk.ptmExchange (b : Blk) (h : HalfId) : Blk :=
  if ¬ b.runsPtm h then b
  else (b.upd h (fun x => { x with ptm := { x.ptm with outstanding := true, missed := if x.ptm.outstanding then x.ptm.missed + 1 else x.ptm.missed } })).emit
    (.ptmRequest (b.ptmPort h))

/-- PTM_RESPONSE (R379, R380): e is PTM master time less block time. Beyond STEP_LIMIT block time steps forward; otherwise it slews, at the
rate the last two exchanges measured and a correction of at most 200 ppm (the rate is held in parts per 10^9). -/
def Mach.ptmResponse (m : Mach) (h : HalfId) (master : Nat) : Mach :=
  let x := m.blk.half h
  if ¬ x.ptm.outstanding ∨ ¬ m.blk.runsPtm h then m
  else
    let now := m.clk.now h
    let e : Int := (master : Int) - now
    let lim : Int := x.regFld 0x0600078 31 16 * 1000
    let back := decide (e < -lim)
    let step := decide (lim < e)
    let rate : Int := match x.ptm.last with
      | some (l, lm) => if l < now then (((master : Int) - lm) - ((now : Int) - l)) * 1000000000 / ((now : Int) - l) else x.ptm.rate
      | none => x.ptm.rate
    let after := if step then master else now
    let b := m.blk.upd h (fun y => { y with
      ptm := { y.ptm with exchanges := (y.ptm.exchanges + 1) % 2 ^ 32, missed := 0, outstanding := false, offset := e, backward := back,
                          rate := rate, synced := !back, last := some (after, master) }
      tdm := { y.tdm with slew := if step then 0 else e } })
    { m with clk := if step then m.clk.stepTo h master else m.clk, blk := b }

/-- PTM_SYNC_LOST (R380): three exchanges in a row had no response. -/
def Blk.ptmLost (b : Blk) (h : HalfId) : Blk :=
  let x := b.half h
  if b.runsPtm h ∧ 3 ≤ x.ptm.missed + b2n x.ptm.outstanding then
    b.upd h (fun y => { y with ptm := { y.ptm with synced := false, outstanding := false, missed := 0 } }.raiseErr (b.ptmPort h % 2) 0 0x42 2 11 0 none (b.ptmPort h % 2))
  else b

end Sys2Proof.Machine
end

