-- ==== Sys2Proof/Machine/MemWin.lean ====
section
/-! DEFINITION. The Memory Windows of the functions: host and peer requests, regions, and what is refused (R363, R367 to R375, R408, R419). -/
namespace Sys2Proof.Machine

/-- Port, partition of the function, and Requester ID of a window access. -/
def Via.port : Via → Nat
  | .fn port _ _ => port
  | .mctp _ => 0
def Via.rid : Via → Nat
  | .fn _ _ rid => rid
  | .mctp _ => 0

/-- A Requester ID matches a VALID entry of WQ_HST_HOST_RID_n under its mask (R369); with no entry VALID every request is the host's. -/
def Half.hostRid (x : Half) (rid : Nat) : Bool :=
  let es := ((List.range 4).map (fun n => (x.reg (0x0600020 + 8 * n)).toNat)).filter (fun e => bitAt e 31)
  es.isEmpty || es.any (fun e => ((rid ^^^ bits e 15 0) &&& bits e 47 32) == 0)

/-- Count a refused request, with the kind it is reported with where it has one: a write in the low half of WQ_HST_MW_DENY, or of
WQ_HST_PEER_DROP for a peer, a read in the high half. -/
def Half.mwCount (x : Half) (p : Nat) (part : Nat) (write peer : Bool) (kind : Option Nat) (addr : Nat) : Half :=
  let off := if peer then 0x0600068 else 0x0600060
  let y := if write then x.bump off 31 0 1 else x.bump off 63 32 1
  match kind with
  | some k => y.raiseErr p 0 k 0 (if write then 2 else 1) addr (if part = 0 then none else some part) p
  | none => y

/-- A request is refused: a write is dropped, a read completes with a status (4 Completer Abort, 1 Unsupported Request). -/
def Blk.mwRefuse (b : Blk) (pp part : Nat) (write peer : Bool) (kind : Option Nat) (addr status : Nat) : Blk :=
  let b1 := b.upd (HalfId.ofPort pp) (fun x => x.mwCount (pp % 2) part write peer kind addr)
  if write then b1 else b1.emit (.completion pp status [] false)

/-- Where a Memory Window offset leads, as a physical-function view offset: none where n bytes from it do not lie in the window or on one
die (R367, R368). -/
def Blk.mwView (b : Blk) (pp part off n : Nat) : Option Nat :=
  let x := b.half (HalfId.ofPort pp)
  let size := 2 ^ min (if part = 0 then 41 else 40) (x.fn (pp % 2) part).mwLog2
  if size < off + n then none
  else if part = 0 then
    let base := x.regFld (0x0600040 + 8 * pp) 40 30 * 2 ^ 30 / size * size
    let v := base + off
    if v < 2 ^ 41 ∧ v % 2 ^ 40 + n ≤ dieBytes then some v else none
  else if off + n ≤ (x.part part).memSize then some ((x.part part).memBase + off)
  else none

/-- Local offset of a view offset (R367). -/
def viewLocal (v : Nat) : Nat := v / 2 ^ 40 % 2 * 2 ^ 45 + v % 2 ^ 40

/-- The first region that admits a peer request (R374). -/
def Half.regionFor (x : Half) (part rid view n : Nat) (pasid : Option Nat) (write zero : Bool) : Option Region :=
  (x.obj.regions.find? (fun e =>
    let r := e.2
    r.rid == rid && decide (r.off ≤ view) && decide (view + n ≤ r.off + r.size) &&
    (if zero then r.rd || r.wr else if write then r.wr else r.rd) &&
    (r.pasid.isNone || r.pasid == pasid) &&
    (match x.ctx? r.ctx with
     | some c => c.st == .active && c.part == part
     | none => false))).map (·.2)

/-- A request may use the window at all: how it is refused otherwise (kind and completion status), with whether it is a peer's. -/
def Blk.mwGate (b : Blk) (via : Via) : Option (Option Nat × Nat) × Bool :=
  let pp := via.port
  let x := b.half (HalfId.ofPort pp)
  let part := viaPart via
  let peer := !x.hostRid via.rid
  let kind : Option Nat := some (if peer then 0x41 else 0x40)
  if (x.fn (pp % 2) part).d3hot then (some (none, 1), peer)
  else if b.unbonded pp part then (some (some 0x40, 4), false)
  else if (x.part part).st = .resetting then (some (kind, 4), peer)
  else (none, peer)

/-- The record part of a SEALED region that a write meets is admitted (R419): whole aligned records whose EPOCH names a LIVE or RETIRING slot
of the context. -/
def Half.recordsOk (x : Half) (r : Region) (view : Nat) (bs : List Byte) : Bool :=
  let first := r.off + r.size / 128 * 127
  if view + bs.length ≤ first then true
  else
    view ≥ first && (view - first) % 32 == 0 && bs.length % 32 == 0 &&
    (List.range (bs.length / 32)).all (fun i =>
      let e := byteFld (bs.drop (32 * i)) 27 24
      match x.ctx? r.ctx with
      | some c => (c.slot0.st != .free && c.slot0.epoch == e) || (c.slot1.st != .free && c.slot1.epoch == e)
      | none => false)

/-- What a Memory Window access comes to before it reaches memory: the local offset, and the context and partition it carries for a peer;
or a refusal with the kinds reported, or a checker denial that loses a context. -/
inductive MwAdmit where
  | ok (off : Nat)
  | refuse (kinds : List Nat)
  | stale
  | denied (ctx part off : Nat)
  deriving DecidableEq, Repr

/-- Admission of a request that the gate lets through (R367 to R374, R408, R419). -/
def Blk.mwAdmit (b : Blk) (via : Via) (pasid : Option Nat) (off n : Nat) (write peer zero : Bool) (bs : List Byte) : MwAdmit :=
  let pp := via.port
  let x := b.half (HalfId.ofPort pp)
  let part := viaPart via
  let kind := if peer then 0x41 else 0x40
  match b.mwView pp part off (max n 1) with
  | none => .refuse [kind]
  | some v =>
    let a := viewLocal v
    let z := a + max n 1 - 1
    if ¬ x.devOk a then .refuse [kind]
    else if ¬ peer then
      if x.sealedAt a ∨ x.sealedAt z then .refuse [kind, 0x76]
      else if x.checkOk a 0 part (part == 0) ∧ x.checkOk z 0 part (part == 0) then .ok a
      else .refuse [kind]
    else match x.regionFor part via.rid v n pasid write zero with
      | none => .refuse (if x.sealedAt a ∨ x.sealedAt z then [kind, 0x76] else [kind])
      | some r =>
        if write ∧ r.sealed ∧ ¬ x.recordsOk r v bs then .stale
        else if x.checkOk a r.ctx part false ∧ x.checkOk z r.ctx part false then .ok a
        else .denied r.ctx part a

/-- A refused or denied access takes its effect. -/
def Mach.mwStop (m : Mach) (via : Via) (write peer : Bool) (at_ : Nat) (r : MwAdmit) : Mach :=
  let pp := via.port
  let h := HalfId.ofPort pp
  match r with
  | .ok _ => m
  | .stale => { m with blk := m.blk.mwRefuse pp (viaPart via) write true (some 0x72) at_ 4 }
  | .refuse ks =>
    let b := m.blk.mwRefuse pp (viaPart via) write peer ks.head? at_ 4
    { m with blk := ks.tail.foldl (fun k kind => k.upd h (fun x => x.raiseErr (pp % 2) 0 kind 0 (if write then 2 else 1) at_ (if viaPart via = 0 then none else some (viaPart via)) (pp % 2))) b }
  | .denied ctx part off =>
    let b := (m.blk.mwRefuse pp (viaPart via) write peer (some 0x41) off 4).upd h (fun x => x.raiseErr (pp % 2) 0 0x14 3 (if write then 2 else 1) off (some part) (pp % 2))
    { m with blk := { b with lossQ := b.lossQ ++ [{ ctx := ctx, cause := 1, master := 2 ^ 15 + part % 64 * 512, access := if write then 2 else 1,
                                                    addr := off, half := h }] } }

/-- Lines of an access as the home serves them: one I/O request a line. -/
def Mach.mwLines (m : Mach) (tag a : Nat) (bs : List Byte) (write : Bool) (n : Nat) : Mach :=
  (winLines a (max n 1)).foldl (fun (k : Mach) l =>
    let lo := max a (l * 64)
    let hi := min (a + n) (l * 64 + 64)
    let line := List.replicate (lo - l * 64) (0 : Byte) ++ (bs.drop (lo - a)).take (hi - lo) ++ List.replicate (l * 64 + 64 - hi) 0
    k.ioReq (homeOf (l * 64)) (.io tag) write l (if write then line else []) (if write then (2 ^ (hi - lo) - 1) * 2 ^ (lo - l * 64) else 0)) m

/-- MEMORY_WINDOW_WRITE (R65, R363, R367 to R370, R374, R408, R419, R455): a host or peer write of up to 4 KiB. A poisoned one is reported and
marks what it writes (R214). `tag` names it to a coherent window's home. -/
def Mach.mwWrite (m : Mach) (via : Via) (pasid : Option Nat) (tag off : Nat) (bs : List Byte) (poison : Bool) : Mach :=
  let pp := via.port
  let h := HalfId.ofPort pp
  let x := m.blk.half h
  if x.boot.inReset then m
  else
    let m0 : Mach := if poison then { m with blk := m.blk.upd h (fun y => y.raiseErr (pp % 2) 0 0x47 2 2 off (if viaPart via = 0 then none else some (viaPart via)) (pp % 2)) } else m
    match m0.blk.mwGate via with
    | (some (k, st), peer) => { m0 with blk := m0.blk.mwRefuse pp (viaPart via) true peer k off st }
    | (none, peer) =>
      if x.tdm.st = .fenced then
        { m0 with blk := m0.blk.upd h (fun y => { (y.mwCount (pp % 2) (viaPart via) true peer none off) with tdm := { y.tdm with dropped := y.tdm.dropped + 1 } }) }
      else match m0.blk.mwAdmit via pasid off bs.length true peer false bs with
        | .ok a =>
          if m0.blk.toHome h a bs.length then m0.mwLines tag a bs true bs.length
          else { m0 with mem := m0.mem.writeDev a bs poison }
        | r => m0.mwStop via true peer off r

/-- MEMORY_WINDOW_READ (R363, R367 to R370, R374, R408, R455): the completion carries the data, or the refusal's status. -/
def Mach.mwRead (m : Mach) (via : Via) (pasid : Option Nat) (tag off n : Nat) : Mach :=
  let pp := via.port
  let h := HalfId.ofPort pp
  if (m.blk.half h).boot.inReset then m
  else match m.blk.mwGate via with
    | (some (k, st), peer) => { m with blk := m.blk.mwRefuse pp (viaPart via) false peer k off st }
    | (none, peer) =>
      match m.blk.mwAdmit via pasid off n false peer false [] with
      | .ok a =>
        if m.blk.toHome h a n then m.mwLines tag a [] false n
        else { m with blk := m.blk.emit (.completion pp 0 (m.mem.readDev a n) (m.mem.poisoned a n)) }
      | r => m.mwStop via false peer off r

/-- PEER_ZERO_LENGTH_READ (R375): it completes behind the peer's earlier writes, which this model has performed when it comes; outside a
region of the peer it is refused. -/
def Mach.zeroRead (m : Mach) (via : Via) (pasid : Option Nat) (off : Nat) : Mach :=
  let pp := via.port
  if (m.blk.half (HalfId.ofPort pp)).boot.inReset then m
  else match m.blk.mwGate via with
    | (some (k, st), peer) => { m with blk := m.blk.mwRefuse pp (viaPart via) false peer k off st }
    | (none, peer) =>
      match m.blk.mwAdmit via pasid off 0 false peer true [] with
      | .ok _ => { m with blk := m.blk.emit (.completion pp 0 [] false) }
      | r => m.mwStop via false peer off r

end Sys2Proof.Machine
end

