-- ==== Sys2Proof/Machine/State.lean ====
section
/-! DEFINITION. The machine's state: block time, memory, the two halves of the pair, and the queue of commands that wait. Why a step stops. -/
namespace Sys2Proof.Machine

/-- Why the machine would stop with a fault. The manual gives every command of the table an effect, or says that nothing happens, so no meaning
raises one: the type has no constructor. Safe. -/
inductive Fault where
  deriving DecidableEq, Repr

/-- Why a step is refused. -/
inductive Refusal where
  /-- A command whose meaning is not written yet, by its mnemonic: an arm of the dispatcher raises it. Safe: nothing is said of what follows. -/
  | notModelled (mnemonic : String)
  deriving DecidableEq, Repr

/-- The whole state. -/
structure State where
  sys : Mach := {}
  /-- commands that wait, first in, first out -/
  pending : List Instr := []
  deriving DecidableEq, Repr

/-- The machine right after cold power-on (R52, R53): both halves hold their resets, block time has started from 0, memory lists nothing and no
command waits. RESET_RELEASE of each half goes on from here. -/
def State.reset : State := { sys := {}, pending := [] }

/-- How a command ends. -/
abbrev Out := Host.Outcome State Fault Refusal

end Sys2Proof.Machine
end

