-- ==== Sys2Proof/Machine/Sec.lean ====
section
/-! DEFINITION. Identity, SPDM sessions, key staging and debug authentication (R403 to R406, R415, R420, R421). Key exchange, AEAD of session
messages and the SPDM framing belong to the transport: a command here is an accepted request, an answer the body of its response. -/
namespace Sys2Proof.Machine

/-- Codes of the responses the block sends: the model's own numbers, 0xFF for an error response. -/
def spdmErr (b : Blk) (h : HalfId) (via : Transport) : Blk := b.emit (.spdm h via 0xFF [])

/-- The half answers SPDM: Bisque or Glaze service is offered (R463). -/
def Half.answers (x : Half) : Bool := !x.boot.inReset && decide (1 ≤ x.boot.stage)

/-- SPDM_GET_CERTIFICATE (R403): slot 0 or, once the alias key is derived, slot 1. -/
def Blk.spdmCert (b : Blk) (h : HalfId) (via : Transport) (slot : Nat) : Blk :=
  let x := b.half h
  if ¬ x.answers then b
  else if slot = 0 ∧ x.fuse.identityValid ∨ slot = 1 ∧ x.sec.alias_ then
    b.emit (.spdm h via 1 (Config.certChain h.num slot (if slot = 1 then x.boot.measured else 0)))
  else spdmErr b h via

/-- SPDM_CHALLENGE (R404): answered under the key of the slot named. -/
def Blk.spdmChallenge (b : Blk) (h : HalfId) (via : Transport) (slot : Nat) (nonce : List Byte) : Blk :=
  let x := b.half h
  if ¬ x.answers then b
  else if slot = 0 ∧ x.fuse.identityValid ∨ slot = 1 ∧ x.sec.alias_ then b.emit (.spdm h via 2 (Config.sign h.num slot nonce))
  else spdmErr b h via

/-- WQ_SEC_STATUS as read (Table 15-11). -/
def Half.secStatus (x : Half) : Nat :=
  b2n x.sec.alias_ + 2 * b2n x.fuse.identityValid + 4 * b2n x.confActive + 8 * b2n x.sec.everUnlocked + 16 * b2n x.sec.tainted +
  2 ^ 8 * (x.sec.debugLevel % 4) + 2 ^ 15 * b2n x.fuse.debugFusedOff

/-- PFLAGS of a partition (Table 14-1). -/
def Part.flags (p : Part) : Nat := b2n p.allocator + 2 * b2n p.strict + 4 * b2n p.noPool + 8 * b2n p.userPmc

/-- A measurement block (Table 15-2) as a half reports it; what it has not seen of its partner reads as zeros. -/
def Blk.measureBlock (b : Blk) (h : HalfId) (via : Transport) (i : Nat) : List Byte :=
  let x := b.half h
  let zeros (n : Nat) : List Byte := List.replicate n 0
  let other (k : HalfId) (n : Nat) (f : Half → List Byte) : List Byte := ((b.seen h k).map f).getD (zeros n)
  let rom (k : HalfId) : List Byte := other k 48 (fun y => Config.measureDigest 1 [k.num, y.fuse.romRev])
  let img (k : HalfId) : List Byte := other k 48 (fun y => bytesOf (beBytes 48 y.boot.measured))
  let five (k : HalfId) : List Byte := other k 8 (fun y => leBytes 2 (y.secStatus % 2 ^ 16) ++ leBytes 6 y.tdm.st.num)
  let fuses (k : HalfId) : List Nat := ((b.seen h k).map (fun y => [y.fuse.idKeyDigest, y.fuse.debugKey, b2n y.fuse.debugFusedOff])).getD []
  if i = 1 then rom .A else if i = 2 then rom .B
  else if i = 3 then img .A else if i = 4 then img .B
  else if i = 5 then five .A ++ five .B
  else if i = 6 then Config.measureDigest 6 (fuses .A ++ fuses .B)
  else if i = 7 then leBytes 48 x.fuse.build
  else if i = 8 then (List.range 64).flatMap (fun n =>
    let p := x.part n
    leBytes 6 p.memBase ++ leBytes 6 p.memSize ++ leBytes 1 p.flags ++ leBytes 1 (b2n p.sealed) ++ [0, 0])
  else if i = 9 then leBytes 4 (match via with
    | .doe _ vf => vf
    | .mctp _ => 0xFF)
  else []

/-- SPDM_MEASUREMENTS (R406): one block, or all nine for index 0xFF, signed by the alias key where a signature is asked for. -/
def Blk.spdmMeasure (b : Blk) (h : HalfId) (via : Transport) (index : Nat) (signed : Bool) (nonce : List Byte) : Blk :=
  let x := b.half h
  if ¬ x.answers then b
  else if signed ∧ ¬ x.sec.alias_ ∨ ¬ (1 ≤ index ∧ index ≤ 9 ∨ index = 0xFF) then spdmErr b h via
  else
    let body := if index = 0xFF then ((List.range 9).map (· + 1)).flatMap (b.measureBlock h via) else b.measureBlock h via index
    b.emit (.spdm h via 3 (if signed then body ++ Config.sign h.num 1 (nonce ++ body) else body))

/-- Rewrite the security state of a half. -/
def Blk.updSec (b : Blk) (h : HalfId) (f : SecUnit → SecUnit) : Blk := b.upd h (fun x => { x with sec := f x.sec })

/-- SPDM_KEY_EXCHANGE (R404, R405): a session opens: 16 per half, one per function and one per endpoint. -/
def Blk.spdmOpen (b : Blk) (t : Clk) (h : HalfId) (via : Transport) : Blk :=
  let x := b.half h
  if ¬ x.answers then b
  else if x.sec.sessions.any (fun s => s.2.via == via) ∨ ¬ x.fuse.identityValid then spdmErr b h via
  else match Tab.free x.sec.sessions 0 16 with
    | none => spdmErr b h via
    | some n => (b.updSec h (fun s => { s with sessions := Tab.put s.sessions n { via := via, beat := t.now h } })).emit
        (.spdm h via 4 (leBytes 1 n))

/-- A request in a session that is not open has no answer here: the transport refuses it. -/
def Blk.inSession (b : Blk) (h : HalfId) (n : Nat) (f : Session → Blk) : Blk :=
  match Tab.look (b.half h).sec.sessions n with
  | some s => f s
  | none => b

/-- SPDM_KEY_UPDATE (R404). -/
def Blk.spdmUpdate (b : Blk) (t : Clk) (h : HalfId) (n : Nat) : Blk :=
  b.inSession h n (fun s => (b.updSec h (fun u => { u with sessions := Tab.put u.sessions n { s with updates := s.updates + 1, beat := t.now h } })).emit
    (.spdm h s.via 5 []))

/-- SPDM_HEARTBEAT (R404). -/
def Blk.spdmBeat (b : Blk) (t : Clk) (h : HalfId) (n : Nat) : Blk :=
  b.inSession h n (fun s => (b.updSec h (fun u => { u with sessions := Tab.put u.sessions n { s with beat := t.now h } })).emit (.spdm h s.via 6 []))

/-- A session ends: its staged keys are zeroised in both copies (R405, R415). -/
def Blk.sessionGone (b : Blk) (h : HalfId) (n : Nat) : Blk :=
  (b.updSec h (fun u => { u with sessions := Tab.del u.sessions n })).updObj h (fun o =>
    { o with staged := o.staged.filter (fun e => !(e.2.half == h && e.2.session == n)) })

/-- SPDM_HEARTBEAT_TIMEOUT (R404, R405): no heartbeat in 30 s; kind 0x75. -/
def Blk.spdmLapse (b : Blk) (h : HalfId) (n : Nat) : Blk :=
  b.inSession h n (fun _ => (b.sessionGone h n).upd h (fun x => x.raiseErr 12 0 0x75 0))

/-- SPDM_END_SESSION (R405). -/
def Blk.spdmEnd (b : Blk) (h : HalfId) (n : Nat) : Blk := b.inSession h n (fun s => (b.sessionGone h n).emit (.spdm h s.via 7 []))

/-- A session may stage a key for a context: it came through a virtual function's DOE, and the context is of its partition (R405). -/
def Half.mayStage (x : Half) (s : Session) (ctx : Nat) : Bool :=
  match s.via, x.ctx? ctx with
  | .doe _ vf, some c => vf != 0 && c.part == vf && c.st != .destroyed
  | _, _ => false

/-- KEY_STAGE (R405, R415): in a session of a virtual function's DOE, for a context of its partition; the answer carries the handle. -/
def Blk.keyStage (b : Blk) (t : Clk) (h : HalfId) (n ctx epoch key : Nat) : Blk :=
  b.inSession h n (fun s =>
    let x := b.half h
    let b1 := b.updSec h (fun u => { u with sessions := Tab.put u.sessions n { s with beat := t.now h } })
    if ¬ x.mayStage s ctx ∨ 2 ^ 20 ≤ ctx ∨ epoch = 0 ∨ 0xFFFFFFFE < epoch then spdmErr b1 h s.via
    else match Tab.free x.obj.staged 0 256 with
      | none => spdmErr b1 h s.via
      | some k => (b1.updObj h (fun o => { o with staged := Tab.put o.staged k { ctx := ctx, epoch := epoch, key := key, half := h, session := n } })).emit
          (.spdm h s.via 8 (leBytes 1 k)))

/-! ### Debug -/

/-- The management endpoint of a debug request: debug messages travel in an MCTP session only (R405). -/
def Session.endpoint : Session → Option Nat
  | { via := .mctp e, .. } => some e
  | _ => none

/-- DEBUG_NONCE (R420): a nonce for one attempt; its value is a free value. -/
def Blk.debugNonce (b : Blk) (t : Clk) (h : HalfId) (n : Nat) : Blk :=
  b.inSession h n (fun s =>
    if s.endpoint.isNone then spdmErr b h s.via
    else
      let (b1, i) := b.draw
      let v := freeBytes i 32
      (b1.updSec h (fun u => { u with nonce := some (leNat v, t.now h) })).emit (.spdm h s.via 9 v))

/-- DEBUG_NONCE_LAPSE (R420): 60 s have passed since it was issued. -/
def Blk.nonceLapse (b : Blk) (h : HalfId) : Blk := b.updSec h (fun u => { u with nonce := none })

/-- The debug level changes (R421): journalled with origin management controller, kind 0x73; leaving level 2 taints the half. -/
def Half.debugLevelTo (x : Half) (now : Nat) (o : Origin) (level : Nat) : Half :=
  let old := x.sec.debugLevel
  if old = level then x
  else
    let y := (x.journal now o 14 0 old level).raiseErr 12 0 0x73 0
    { y with sec := { y.sec with debugLevel := level, tainted := y.sec.tainted || (old == 2 && level == 0),
                                 everUnlocked := y.sec.everUnlocked || decide (level ≠ 0) } }

/-- A debug token opens (Table 15-7): version, reserved bytes, serial, nonce, level and signature. -/
def Half.tokenOk (x : Half) (tok : List Byte) : Bool :=
  tok.length == 144 && byteFld tok 3 0 == 1 && byteFld tok 47 45 == 0 && byteFld tok 11 4 == x.fuse.serial &&
  (x.sec.nonce.map (·.1)) == some (byteFld tok 43 12) && (byteFld tok 44 44 == 1 || byteFld tok 44 44 == 2) &&
  Config.sigValid x.fuse.debugKey (tok.take 48) (tok.drop 48)

/-- DEBUG_UNLOCK (R420): the nonce is used up; a refused token sends kind 0x74. -/
def Blk.debugUnlock (b : Blk) (t : Clk) (h : HalfId) (n : Nat) (tok : List Byte) : Blk :=
  b.inSession h n (fun s =>
    match s.endpoint with
    | none => spdmErr b h s.via
    | some e =>
      let x := b.half h
      let b1 := b.nonceLapse h
      if x.fuse.debugFusedOff ∨ ¬ x.tokenOk tok ∨ b.a.confActive ∨ b.b.confActive then
        spdmErr (b1.upd h (fun y => y.raiseErr 12 0 0x74 0)) h s.via
      else (b1.upd h (fun y => y.debugLevelTo (t.now h) ⟨4, e⟩ (byteFld tok 44 44))).emit (.spdm h s.via 10 []))

/-- DEBUG_LOCK (R421). -/
def Blk.debugLock (b : Blk) (t : Clk) (h : HalfId) (n : Nat) : Blk :=
  b.inSession h n (fun s =>
    match s.endpoint with
    | none => spdmErr b h s.via
    | some e => (b.upd h (fun y => y.debugLevelTo (t.now h) ⟨4, e⟩ 0)).emit (.spdm h s.via 11 []))

/-- DEBUG_RELOCK (R421): a write of 1 to WQ_SEC_DEBUG_CTRL.RELOCK. The change is journalled with origin management controller, as every
change of level is. -/
def Blk.debugRelock (b : Blk) (t : Clk) (_ : Via) (h : HalfId) : Blk := b.upd h (fun y => y.debugLevelTo (t.now h) ⟨4, 0⟩ 0)

end Sys2Proof.Machine
end

