-- ==== Sys2Proof/Machine/RegRead.lean ====
section
/-! DEFINITION. What a register reads (R494): the stored fields, and the fields that show the state of a unit (chapters 2 to 20). -/
namespace Sys2Proof.Machine

/-- Numbers packed from bit 0 up, each of a width. -/
def packBits : List (Nat × Nat) → Nat
  | [] => 0
  | (w, v) :: t => v % 2 ^ w + 2 ^ w * packBits t

/-- An optional signed number as an unsigned field. -/
def unsignedOf (bitsWide : Nat) (v : Int) : Nat := (v % (2 ^ bitsWide : Int)).toNat

/-- Global, bring-up and Tandem registers (Tables 18-11, 02-11, 03-11). -/
def Half.readGlobal (x : Half) (off : Nat) : Option Nat :=
  let b := x.boot
  let pending : Bool := match b.pendingCopy with
    | some i => i.good
    | none => false
  if off = 0x0010000 then
    some (packBits [(1, 0), (1, b2n b.memTrained), (1, b2n b.fromReserve), (1, b2n b.service), (1, b2n pending), (3, 0), (4, b.stage), (28, 0),
      (8, b.fwErr)])
  else if off = 0x0010008 then some (b2n x.tdm.lock)
  else if off = 0x0010010 then
    some (packBits [(1, b2n x.latched.halfId), (1, b2n x.latched.bootSrc), (1, b2n x.latched.bisqueHold), (1, b2n x.latched.orient),
      (1, b2n x.fuse.orientValid), (1, b2n (x.fuse.orientValid && x.fuse.orient)), (1, b2n x.orient), (1, b2n x.orientMismatch)])
  else if off = 0x0020000 then
    some (packBits [(4, x.tdm.st.num), (4, 0), (1, b2n x.tdm.minorMismatch), (1, b2n x.tdm.actingPrimary), (1, b2n x.tdm.partnerDieDown),
      (1, x.regFld off 11 11), (4, x.tdm.refuseCause)])
  else if off = 0x0020010 then
    some (match x.tdm.partner with
      | some p => packBits [(16, p.halfId), (16, p.sirev), (16, p.fwrev)]
      | none => 0)
  else if off = 0x0020018 then some x.tdm.common
  else none

/-- Command processor, translation and DMA registers (Tables 04-9 to 04-11, 05-3, 06-8, 07-9, 08-9, 08-10). -/
def Blk.readCmd (b : Blk) (x : Half) (via : Via) (off : Nat) : Option Nat :=
  let q := b.getQ (x.selector via 0x0030028)
  let id := x.selector via 0x0030040
  let c := x.ctx? id
  let ch := Tab.dflt x.dma.chans (x.selector via 0x0200020) {}
  if off = 0x0030030 then some (packBits [(8, q.st.num), (24, q.stopCause), (32, q.cidx)])
  else if off = 0x0030048 then
    some (match c with
      | none => 4
      | some r => packBits [(8, r.st.num), (8, r.lossCause), (8, 0), (8, r.lossCount),
          (16, (x.obj.queues.filter (fun e => e.2.ctx == id && e.2.st != .absent)).length)])
  else if off = 0x0030050 then some (c.map (·.lossAddr) |>.getD 0)
  else if off = 0x0030068 then some (x.obj.ctxs.filter (fun e => e.2.st != .destroyed)).length
  else if off = 0x0100008 then
    some (packBits [(32, x.xlt.spokes), (1, b2n ((Tab.look x.xlt.spareFor 0).isSome)), (1, b2n ((Tab.look x.xlt.spareFor 1).isSome))])
  else if off = 0x0100010 then some (packBits [(32, x.xlt.holders.length), (32, x.xlt.holderMax)])
  else if off = 0x0100018 then some x.obj.pins.length
  else if off = 0x0100028 then some ((x.ctx? (x.selector via 0x0100020)).map (·.dieAllow) |>.getD 0)
  else if off = 0x0100130 then
    let on (p : Nat) : Nat := (x.xlt.pri.filter (fun r => r.port % 2 == p && !r.retired)).length
    some (packBits [(16, on 0), (16, on 1)])
  else if off = 0x0200008 then some x.dma.map
  else if off = 0x0200010 ∨ off = 0x0200018 then
    let p := x.port ((off - 0x0200010) / 8)
    some (packBits [(1, b2n p.contained), (2, x.regFld off 2 1), (13, 0), (16, p.lostCtx), (32, p.dropped)])
  else if off = 0x0200028 then
    some (packBits [(3, ch.st), (3, 0), (1, b2n (x.dma.active.any (fun e => e.2 == x.selector via 0x0200020))), (1, b2n (bitAt ch.disp.ref.flags 5)),
      (24, 0), (18, ch.disp.ref.slot), (14, ch.disp.ref.q)])
  else none

/-- Transform, Ware and coherence registers (Tables 09-16, 10-10, 11-17, 11-18, 18-11). -/
def Half.readEngines (x : Half) (via : Via) (now off : Nat) : Option Nat :=
  let e := x.selector via 0x0300020
  let pf := Tab.look x.ware.pf (x.selector via 0x0580030)
  let wn := x.selector via 0x0400010
  let w := Tab.dflt x.obj.windows wn {}
  let d := Tab.dflt x.dies (x.selector via 0x0400100) {}
  if off = 0x0300008 then some x.xfm.map
  else if off = 0x0300010 then some (packBits ((List.range 4).map (fun q => (4, if (x.quad q).sprint.isSome then 0 else (x.island (5 + q)).plan))))
  else if off = 0x0300018 then
    some (packBits ((List.range 4).map (fun q => (1, b2n (x.quad q).sprint.isSome)) ++ [(4, 0)] ++
      (List.range 4).map (fun q => (8, sprintUsed (x.quad q) now / 1000000))))
  else if off = 0x0300028 then
    some (packBits [(4, ((List.range 4).filter (fun s => (Tab.look x.xfm.slots (e * 4 + s)).isSome)).foldl (fun a s => a + 2 ^ s) 0), (28, 0),
      (6, (x.xfm.progs.filter (fun r => r.unit == e)).length)])
  else if off = 0x0300108 then some x.obj.streams.length
  else if off = 0x0580008 then some (packBits [(32, x.ware.banks), (32, x.ware.pf.length)])
  else if off = 0x0580038 then
    some (match pf with
      | some p => packBits [(44, min (2 ^ 41 - 1) (p.next - p.read)), (20, p.ctx)]
      | none => 0)
  else if off = 0x0400008 then
    some (packBits [(8, ((List.range 8).filter (fun i => (Tab.dflt x.dies i {}).st == 3)).foldl (fun a i => a + 2 ^ i) 0), (11, x.coh.txns.length),
      (5, 0), (8, (x.coh.resv.filter (fun r => r.rcid.isSome)).length)])
  else if off = 0x0400018 then
    some (packBits [(20, w.owner), (30, 0), (6, w.part), (3, 0), (1, w.port), (1, w.half), (1, b2n w.hostShare), (2, w.kind)])
  else if off = 0x0400020 then some w.base
  else if off = 0x0400028 then some w.size
  else if off = 0x0400030 then
    some (packBits [(1, b2n (w.busy && !w.disabling)), (1, b2n w.disabling), (1, b2n w.busy), (1, b2n w.enabled), (1, b2n w.done), (1, b2n w.err), (2, 0),
      (4, w.errCause)])
  else if off = 0x0400058 then some (packBits [(16, x.coh.hrd.length), (16, x.coh.hrdMax)])
  else if off = 0x0400108 then some (packBits [(8, d.st), (8, d.cause), (16, 0), (16, d.vendor)])
  else none

/-- ⌊−log10⌋ of a lane's bit error rate over its last 16 records (WQ_FAB_LANE_HEALTH): 255 where no bit failed or none was counted. -/
def berLog (rs : List (Nat × Nat × Nat × Nat)) : Nat :=
  let rx : Nat := rs.foldl (fun a r => a + r.1) 0
  let er : Nat := rs.foldl (fun a r => a + r.2.1) 0
  if er = 0 ∨ rx = 0 then 255
  else ((List.range 40).filter (fun k => decide (er * 10 ^ k ≤ rx))).foldl max 0

/-- Peloton and host-coupling registers (Tables 12-15, 12-16, 13-3, 13-9, 14-9). -/
def Blk.readFab (b : Blk) (x : Half) (via : Via) (off : Nat) : Option Nat :=
  let pp := x.selector via 0x0500018 % 16
  let ln := x.selector via 0x0500018 / 16 % 32
  let p := x.fabPort pp
  let l := Tab.dflt p.lanes ln {}
  let spare : Bool := decide (16 ≤ ln) && !p.inUse.contains ln
  if off = 0x0500008 then
    some (match x.obj.join with
      | some j => packBits [(32, b.portsUp), (16, j.domain), (12, j.pkg), (3, 0), (1, 1)]
      | none => packBits [(32, b.portsUp)])
  else if off = 0x0500020 then
    some (packBits [(3, p.st), (13, 0), (16, p.replays), (18, p.mask), (2, 0), (12, p.neighbour)])
  else if off = 0x0500028 then
    let r := l.recs.headD (0, 0, 0, 0)
    some (packBits [(16, r.2.2.2), (16, r.2.2.1), (8, berLog l.recs), (2, if spare && l.st == 0 then 3 else l.st), (6, 0), (16, l.days)])
  else if off = 0x0500040 then some (Tab.dflt x.obj.grants (x.selector via 0x0500038) 0)
  else if off = 0x0500058 then some x.obj.unreach.length
  else if off = 0x0600000 then
    some (packBits [(2, if viaPart via ≠ 0 then 2 else if b.primaryPort via.port then 0 else 1), (6, 0), (2, via.port)])
  else if off = 0x0600008 then
    some (if x.id = .A ∨ x.tdm.st = .unpaired ∨ x.tdm.st = .solo then x.fuse.serial else b.a.fuse.serial)
  else if off = 0x0600070 then some x.obj.regions.length
  else if off = 0x0600080 then
    some (packBits [(1, b2n x.ptm.synced), (1, b2n (b.runsPtm x.id)), (1, b2n x.ptm.backward), (29, 0), (32, x.ptm.exchanges)])
  else if off = 0x0600088 then some (unsignedOf 64 x.ptm.offset)
  else if off = 0x0600090 then
    let v := (x.reg off).toNat
    some (if x.anyStrict then v - v % 4 else v)
  else none

/-- A bucket as WQ_QOS_BUCKET shows it (Table 14-10). -/
def Half.readBucket (x : Half) (cls point p : Nat) : Nat :=
  let k := Tab.dflt x.qos.buckets (bucketKey cls point p) {}
  packBits [(48, k.level / 256), (14, 0), (1, b2n k.fromPool), (1, b2n k.waiting)]

/-- WQ_PART_STATE, WQ_PART_USE and WQ_PART_CFG of a partition (Table 14-9). -/
def Half.readPartState (x : Half) (p : Nat) : Nat :=
  packBits [(8, (x.part p).st.num), (24, b2n (x.part p).strict), (32, (x.part p).reclaim.length)]
def Half.readPartUse (x : Half) (p : Nat) : Nat := packBits [(16, x.queuesIn p), (16, x.ctxsIn p)]
def Half.readPartCfg (x : Half) (p : Nat) : Nat := packBits [(16, x.queueQuota p), (16, x.ctxQuota p), (4, (x.part p).flags)]

/-- Moderation of a vector as WQ_PART_VEC_MOD shows it (Table 14-11). -/
def Half.readVecMod (x : Half) (p vec : Nat) : Nat :=
  let m := x.moderation p vec
  packBits [(8, 0), (8, m.2), (16, m.1)]

/-- A key slot's state as WQ_SEC_KEY_STATE shows it. -/
def KeySt.code : KeySt → Nat
  | .free => 0
  | .live => 1
  | .retiring => 2

/-- Partition, QoS and security registers (Tables 14-9, 15-10, 15-11). -/
def Blk.readPart (b : Blk) (x : Half) (via : Via) (off : Nat) : Option Nat :=
  let p := x.selector via 0x0700000
  let qs := x.selector via 0x0700100
  let cls := qs / 16 % 8
  let pt := qs % 16
  let qp := bits qs 13 8
  let vs := x.selector via 0x0700200
  let ks := x.selector via 0x0800018
  let key := (x.ctx? (ks % 2 ^ 20)).map (fun c => if bitAt ks 20 then c.slot1 else c.slot0)
  if off = 0x0700008 then some (x.readPartCfg p)
  else if off = 0x0700010 then some (x.part p).memBase
  else if off = 0x0700018 then some (x.part p).memSize
  else if off = 0x0700020 then some (x.readPartUse p)
  else if off = 0x0700028 then some (x.readPartState p)
  else if off = 0x0700108 then some (x.readBucket cls pt qp)
  else if off = 0x0700110 then some (packBits [(8, ((x.part qp).cls cls).weight), (32, ((x.part qp).cls cls).ceiling)])
  else if off = 0x0700118 then some (Tab.dflt x.qos.refills (bucketKey cls pt qp) 0 % 2 ^ 32)
  else if off = 0x0700120 then some (Tab.dflt x.qos.pools (cls * 16 + pt) 0 / 256)
  else if off = 0x0700128 then some (packBits ((List.range 5).map (fun c => (8, x.strictSum c))))
  else if off = 0x0700208 then some (x.readVecMod (bits vs 21 16) (vs % 2 ^ 11))
  else if off = 0x0700210 then
    let pend (y : Half) : Option VecMsg :=
      ((List.range 2).filterMap (fun port => Tab.look y.msgs (vecKey port (fnOf (bits vs 21 16)) (vs % 2 ^ 11)))).head?
    some (match pend b.a, pend b.b with
      | some m, _ => packBits [(32, 1), (8, m.causes)]
      | none, some m => packBits [(32, 1), (8, m.causes)]
      | none, none => 0)
  else if off = 0x0800000 then some x.secStatus
  else if off = 0x0800010 then some (packBits [(8, x.sec.sessions.length), (32, x.obj.staged.length)])
  else if off = 0x0800020 then some (key.map (fun k => packBits [(32, k.st.code), (32, k.epoch)]) |>.getD 0)
  else if off = 0x0800028 then some (key.map (·.pages) |>.getD 0)
  else if off = 0x0800030 then some (packBits [(20, x.sec.sweepCtx), (12, b2n x.sec.sweeping), (32, x.sec.swept)])
  else if off = 0x0800048 then some x.sealedMask
  else none

/-- Error-collector registers (Tables 16-9, 16-10). -/
def Half.readErr (x : Half) (via : Via) (off : Nat) : Option Nat :=
  let e := Tab.look x.err.log (x.selector via 0x0900060)
  let m := (e.map (fun r => msgBits r.msg)).getD 0
  let s := Tab.look x.err.sources (x.selector via 0x0900200)
  let p := Tab.dflt x.err.parts (x.selector via 0x0900408) {}
  if off = 0x0900068 then some (m % 2 ^ 64)
  else if off = 0x0900070 then some (m / 2 ^ 64)
  else if off = 0x0900078 then some ((e.map (·.stamp)).getD 0)
  else if off = 0x0900080 then some x.logStatus
  else if off = 0x0900208 then
    some (match s with
      | some r => packBits [(32, r.count), (12, 0), (4, r.range), (12, r.source), (3, 0), (1, b2n r.severe)]
      | none => 0)
  else if off = 0x0900410 then
    some (packBits [(18, 0), (4, p.access), (12, p.source), (8, p.kind), (2, 0), (16, p.count), (3, p.maxSev), (1, b2n p.valid)])
  else if off = 0x0900418 then some p.addr
  else none

/-- Power domains of a half in the order of Table 01-2: how many each island has. -/
def domainCounts : List Nat := [2, 2, 3, 5, 4, 6, 6, 6, 6, 6, 6, 8, 2, 2]

/-- The island a power domain belongs to. -/
def domainIsland (d : Nat) : Nat :=
  ((List.range 14).filter (fun i => decide (((domainCounts.take (i + 1)).foldl (· + ·) 0) ≤ d))).length

/-- State of a power domain (R453, R454): 0 OFF, 1 RETENTION, 2 ON. -/
def Half.domainState (x : Half) (d : Nat) : Nat :=
  if x.pwr.domainsOff.contains d then 0
  else if x.pwr.deepIdle.isSome then
    if d = 0 ∨ d = 2 ∨ d = 62 then 2 else if d = 7 ∨ d = 8 ∨ (52 ≤ d ∧ d ≤ 59) then 0 else 1
  else if (x.island (domainIsland d)).st = .retention then 1
  else 2

/-- Power, Cone, margin and journal registers (Tables 17-7, 17-8, 18-11). -/
def Half.readPwr (x : Half) (via : Via) (off : Nat) : Option Nat :=
  let d := x.selector via 0x0A00040
  let c := x.selector via 0x0A10000
  let cone := Tab.dflt x.cones c {}
  let i := x.selector via 0x0A20008
  let is := x.island i
  let p := x.pwr
  let hot (l : List Nat) : Nat := hottest l % 256
  let quads := (List.range 4).map (fun q => (x.quad q).sensors)
  let entry := (x.jnl.chip ++ x.jnl.spill).find? (fun e => e.seq == x.selector via 0x0C00100)
  if off = 0x0A00000 then
    some (packBits [(1, 0), (1, b2n p.hold), (1, b2n p.recovering.isSome), (1, b2n p.telemetryLost),
      (1, b2n ((List.range 4).any (fun q => (x.quad q).throttled))), (7, 0), (4, x.regFld off 15 12)])
  else if off = 0x0A00010 then some (packBits [(16, p.vin), (16, p.vinMin)])
  else if off = 0x0A00018 then some (packBits [(16, p.iin), (16, p.iinMax)])
  else if off = 0x0A00048 then some (packBits [(4, x.domainState d), (4, b2n (p.domainsOff.contains d)), (4, domainIsland d)])
  else if off = 0x0A00050 then some (packBits ((List.range 14).map (fun k => (2, (x.island k).st.num))))
  else if off = 0x0A00058 then some (packBits (quads.map (fun l => (8, hot l)) ++ [(8, hot (quads.flatten ++ p.sensors))]))
  else if off = 0x0A10008 then
    if 96 ≤ c then some 3
    else
      let st := if cone.failed then 2 else if (Tab.look x.cones c).isSome ∧ cone.slack ≤ (x.island (coneIsland c)).floorMargin then 1 else 0
      some (packBits [(2, st), (6, 0), (4, coneIsland c), (20, 0), (16, cone.slack), (16, unsignedOf 16 cone.drift)])
  else if off = 0x0A20010 then some (packBits [(16, is.plan), (16, is.floorMargin), (16, is.margin), (16, is.days)])
  else if off = 0x0A20018 then some (packBits [(32, is.powered), (32, is.wear / 3600000000000)])
  else if off = 0x0A20020 then some x.boot.lastReplan
  else if off = 0x0A20028 then some (packBits [(32, p.domainsOff.length), (16, p.rowsRepaired)])
  else if off = 0x0C00000 then some x.jnl.head
  else if off = 0x0C00008 then
    some (((x.jnl.spill ++ x.jnl.chip).map (·.seq)).foldl min x.jnl.head)
  else if 0x0C00108 ≤ off ∧ off < 0x0C00148 then
    some (match entry with
      | some e => leNat ((e.bytes.drop (off - 0x0C00108)).take 8)
      | none => 0)
  else none

/-- A group's registers in the layout of a user read page (R493): offset within the page's 128 bytes. -/
def Half.userGroup (x : Half) (g o : Nat) : Nat :=
  if o = 0 then (x.reg (pmcBase g + 8)).toNat
  else if o = 8 then (x.reg (pmcBase g + 0x10)).toNat
  else if 0x40 ≤ o ∧ o < 0x80 then x.regFld (pmcBase g + 0x80 + (o - 0x40)) 47 0 + 2 ^ 48 * x.regFld (pmcBase g + 8) 15 0
  else 0

/-- A word of a partition's user read page (R489, R493): 0 where USER_PMC is clear or the group is another's. -/
def Half.userPage (x : Half) (p o : Nat) : Nat :=
  if (x.part p).userPmc ∧ o < 0x600 ∧ x.pmcOwned (o / 0x80) p then x.userGroup (o / 0x80) (o % 0x80) else 0

/-- Monitor registers and user read pages (Tables 19-4, 19-5). -/
def Half.readPmc (x : Half) (off : Nat) : Option Nat :=
  if 0x0B10000 ≤ off ∧ off < 0x0B50000 then some (x.userPage ((off - 0x0B10000) / 0x1000) ((off - 0x0B10000) % 0x1000))
  else if 0x0B00000 ≤ off ∧ off < 0x0B00C00 then
    let g := (off - 0x0B00000) / 0x100
    let o := off % 0x100
    let v := (x.reg off).toNat
    if o = 0 then some (if bitAt v 30 then putBits (putBits v 22 22 1) 21 16 (bits v 29 24) else v)
    else if 0x80 ≤ o ∧ o < 0xC0 then some (v % 2 ^ 48 + 2 ^ 48 * x.regFld (pmcBase g + 8) 15 0)
    else none
  else none

/-- A word of the MSI-X table or PBA of one function, by its place in the table (R366). -/
def Half.readMsix (x : Half) (port vf o : Nat) : Nat :=
  let e := Tab.dflt x.msix (vecKey port vf (o / 16)) {}
  if o % 16 = 0 then e.addr else packBits [(32, e.data), (1, b2n e.masked)]
def Half.readPba (x : Half) (port vf o n : Nat) : Nat :=
  ((List.range 64).filter (fun k => decide (o * 8 + k < n) && (Tab.look x.msgs (vecKey port vf (o * 8 + k))).isSome)).foldl (fun a k => a + 2 ^ k) 0

/-- A register of a half as an access reads it (R13, R494, R499). -/
def Blk.readReg (b : Blk) (t : Clk) (via : Via) (h : HalfId) (off : Nat) : Nat :=
  let x := b.half h
  let unit : Option Nat :=
    if off < 0x0010000 then some (leNat (((capTable b h).drop off).take 8))
    else if off < 0x0030000 then x.readGlobal off
    else if off < 0x0300000 then b.readCmd x via off
    else if off < 0x0500000 ∨ (0x0580000 ≤ off ∧ off < 0x0600000) then x.readEngines via (t.now h) off
    else if 0x0610000 ≤ off ∧ off < 0x0630000 then
      let o := off % 0x10000
      some (if o < 0x8000 then x.readMsix ((off - 0x0610000) / 0x10000) 0 o else if o < 0x8100 then x.readPba ((off - 0x0610000) / 0x10000) 0 (o - 0x8000) 2048 else 0)
    else if off < 0x0700000 then b.readFab x via off
    else if off < 0x0900000 then b.readPart x via off
    else if off < 0x0A00000 then x.readErr via off
    else if 0x0B00000 ≤ off ∧ off < 0x0C00000 then x.readPmc off
    else x.readPwr via off
  match unit with
  | some v => v
  | none =>
    if selectorOffs.contains off then x.selector via off
    else (Half.reg x off).toNat

end Sys2Proof.Machine
end

