-- ==== Sys2Proof/Machine/Regs.lean ====
section
/-! DEFINITION. Register writes (R12 to R14, R494 to R502): the gate of a function's accesses, the access codes, the registers whose write
acts on a unit, the partition page of a virtual function, and the MCTP register message (R438). -/
namespace Sys2Proof.Machine

/-- The bits of a register that a 64-bit or a 32-bit access reaches, and the written value laid over them (R12). -/
def laneMask (off : Nat) (wide : Bool) : Nat :=
  if wide then 2 ^ 64 - 1 else if off % 8 = 0 then 2 ^ 32 - 1 else (2 ^ 32 - 1) * 2 ^ 32
def laneVal (off v : Nat) (wide : Bool) : Nat :=
  if wide then v % 2 ^ 64 else if off % 8 = 0 then v % 2 ^ 32 else v % 2 ^ 32 * 2 ^ 32

/-- A Control Window access through a function may act (R363, R369): its half is out of reset, it is no peer's, and it does not come through
a companion whose bond bit is clear. A refused one is counted. -/
def Blk.fnGate (b : Blk) (via : Via) (off : Nat) : Blk × Bool :=
  match via with
  | .mctp _ => (b, true)
  | .fn pp part rid =>
    let x := b.half (HalfId.ofPort pp)
    if x.boot.inReset then (b, false)
    else if ¬ x.hostRid rid then (b.mwRefuse pp part true true (some 0x41) off 4, false)
    else if b.unbonded pp part then (b.mwRefuse pp part true false (some 0x40) off 4, false)
    else (b, true)

/-- What a register access does once the gate has let it pass. -/
def Mach.viaGate (m : Mach) (via : Via) (off : Nat) (f : Mach → Mach) : Mach :=
  let r := m.blk.fnGate via off
  if r.2 then f { m with blk := r.1 } else { m with blk := r.1 }

/-- An access of partition 0's function: the registers of Tables 20-1 to 20-18 are not in a virtual function's BAR 0 (R500). -/
def Via.physical : Via → Bool
  | .fn _ part _ => part == 0
  | .mctp _ => false

/-- A half can be reached from its partner's functions (R495). -/
def Blk.reach (b : Blk) (h : HalfId) : Bool :=
  let x := b.half h
  x.pins.tdmPhyUp && (b.half h.other).pins.tdmPhyUp && !x.boot.inReset && x.fuse.tandem &&
  ((x.tdm.st == .pairing && x.tdm.helloSeen) || x.tdm.st == .paired || x.tdm.st == .standby || x.tdm.st == .offline)

/-- MISALIGNED_REGISTER_ACCESS (R12): ignored on write, 0 on read, and reported. -/
def Blk.misaligned (b : Blk) (via : Via) (off : Nat) (write : Bool) : Blk :=
  let b1 := b.upd (b.viaHalf via) (fun x => x.raiseErr (via.port % 2) 0 0x46 0 8 off (if viaPart via = 0 then none else some (viaPart via)) (via.port % 2))
  if write then b1 else b1.emit (.readData 0)

/-- The fields of a register as the MCTP register message may write them (R438): selectors of its bank, RW1C and RWS status fields. -/
def mctpFlds (fs : List Fld) : List Fld :=
  fs.map (fun f => match f.acc with
    | .rw1c | .flag | .count | .record => f
    | _ => { f with acc := .ro })

/-- WQ_FAB_THRESH's own rule (Table 12-17): BER_DEGRADE stays above BER_FAIL, or both stay as they are. -/
def threshRule (off : Nat) (old new : W64) : W64 :=
  if off = 0x0500030 ∧ fld new 7 0 ≤ fld new 15 8 then putFld new 15 0 (fld old 15 0) else new

/-- A write to a register by its access codes (R13, R497, R502): to the requester's bank of a selector, to the stored register otherwise. -/
def Half.regStore (x : Half) (via : Via) (off mask v : Nat) : Half :=
  match regAt off with
  | none => x
  | some r =>
    let w := BitVec.ofNat 64 v
    match via with
    | .fn _ _ _ => x.setReg off (threshRule off (x.reg off) (regWrite r.flds x.tdm.lock mask (x.reg off) w))
    | .mctp _ =>
      if selectorOffs.contains off then
        { x with selMctp := Tab.put x.selMctp off (regWrite r.flds x.tdm.lock mask (BitVec.ofNat 64 (x.selector via off)) w) }
      else x.setReg off (regWrite (mctpFlds r.flds) x.tdm.lock mask (x.reg off) w)

/-- A field of a register that a write reaches. -/
def Fld.reached (f : Fld) (mask : Nat) : Bool := Nat.land ((2 ^ (f.hi + 1 - f.lo) - 1) * 2 ^ f.lo) mask != 0

/-- Registers whose writes are not journalled: selectors, monitors (R474). -/
def unjournalled (off : Nat) : Bool := selectorOffs.contains off || (decide (0x0B00000 ≤ off) && decide (off < 0x0C00000))

/-- Journal a changed register (R474, class 1). -/
def Half.jnlReg (x : Half) (now : Nat) (via : Via) (off old new : Nat) : Half :=
  if old = new then x else x.journal now via.origin 1 off old new

/-- A write to a register field that has no meaning of its own (R13, R474, R496, R498): the half that applies it journals a change of an RW or
RWL field, or an RWL write that WQ_LOCK made it ignore. -/
def Blk.regPlain (b : Blk) (t : Clk) (via : Via) (h : HalfId) (off mask v : Nat) : Blk :=
  match regAt off with
  | none => b
  | some r =>
    let k := if pairWide off then b.winHalf h else h
    let x := b.half k
    let b1 := if pairWide off then b.updPair k (fun y => y.regStore via off mask v) else b.upd k (fun y => y.regStore via off mask v)
    let y := b1.half k
    let moved := r.flds.any (fun f => (f.acc == .rw || f.acc == .rwl) && fld (Half.reg x off) f.hi f.lo != fld (Half.reg y off) f.hi f.lo)
    let barred := x.tdm.lock && r.flds.any (fun f => f.acc == .rwl && f.reached mask)
    if unjournalled off then b1
    else if barred then b1.upd k (fun z => z.journal (t.now k) via.origin 1 off (b.readReg t via k off) v)
    else if moved then b1.upd k (fun z => z.journal (t.now k) via.origin 1 off (b.readReg t via k off) (b1.readReg t via k off))
    else b1

/-- LOCK_SET (R498): a write of 1 to WQ_LOCK.LOCK through a function of partition 0 sets the lock on both halves. -/
def Blk.lockSet (b : Blk) (t : Clk) (via : Via) (h : HalfId) : Blk :=
  let k := b.winHalf h
  if ¬ via.physical ∨ (b.half k).tdm.lock then b
  else
    (b.updPair k (fun x => { x with tdm := { x.tdm with lock := true } })).upd k (fun x => x.journal (t.now k) via.origin 1 0x0010008 0 1)

/-- A write of WQ_XLT_DPT_ALLOW: the die ports the selected context may use (R153). -/
def Blk.dieAllow (b : Blk) (t : Clk) (via : Via) (h : HalfId) (mask v : Nat) : Blk :=
  let k := b.winHalf h
  let id := (b.half h).selector via 0x0100020
  match (b.half k).ctx? id with
  | none => b
  | some c =>
    let new := Nat.lor (Nat.land v mask) (c.dieAllow - Nat.land c.dieAllow mask) % 2 ^ 16
    (b.updCtx k id (fun e => { e with dieAllow := new })).upd k (fun x => x.jnlReg (t.now k) via 0x0100028 c.dieAllow new)

/-- Moderation of a partition's vector is set (R389): COUNT 0 is held at 1. -/
def Blk.setVecMod (b : Blk) (h : HalfId) (p vec v : Nat) : Blk :=
  b.updPart h p (fun e => { e with vecMod := Tab.put e.vecMod vec (bits v 25 16, max 1 (bits v 15 8)) })

/-- A value laid over what a register reads, for a register kept outside the register file. -/
def overlay (old mask v : Nat) : Nat := Nat.lor (Nat.land v mask) (old - Nat.land old mask)

/-- WQ_CMD_ADMIN_CTRL (R91): a write of ENABLE starts or stops the admin queue. -/
def Blk.adminCtrl (b : Blk) (t : Clk) (via : Via) (h : HalfId) (mask v : Nat) : Blk :=
  let was := (b.half h).regFld 0x0030018 0 0
  let b1 := b.regPlain t via h 0x0030018 mask v
  let is := (b1.half h).regFld 0x0030018 0 0
  if was = 0 ∧ is = 1 then b1.adminEnable h else if was = 1 ∧ is = 0 then b1.adminDisable h else b1

/-- A write of an MSI-X table entry (R366): clearing the mask lets a pending message go (R389). -/
def Blk.msixWrite (b : Blk) (pp vf o mask v : Nat) : Blk :=
  let h := HalfId.ofPort pp
  let key := vecKey (pp % 2) vf (o / 16)
  let e := Tab.dflt (b.half h).msix key {}
  if o % 16 = 0 then
    b.upd h (fun x => { x with msix := Tab.put x.msix key { e with addr := overlay e.addr mask v / 4 * 4 } })
  else
    let w := overlay (e.data + 2 ^ 32 * b2n e.masked) mask v
    b.upd h (fun x => { x with msix := Tab.put x.msix key { e with data := w % 2 ^ 32, masked := bitAt w 32 } })

/-- WQ_TDM_CTRL (R73): setting AUTO_REJOIN on a survivor whose partner stands by takes the partner back. -/
def Blk.tdmCtrl (b : Blk) (t : Clk) (via : Via) (h : HalfId) (mask v : Nat) : Blk :=
  let b1 := b.regPlain t via h 0x0020008 mask v
  if (b1.half h).regFld 0x0020008 0 0 = 1 ∧ (b1.half h).tdm.st = .freewheel ∧ (b1.half h.other).tdm.st = .standby ∧ b1.linkCarries then
    b1.sendOnline h
  else b1

/-- A write to a register of half `h` (R13, R499), by what the register is. `mask` marks the bits the access reaches. -/
def Mach.regAct (m : Mach) (via : Via) (h : HalfId) (off mask v : Nat) : Mach :=
  let t := m.clk
  let b := m.blk
  let x := b.half h
  let onBlk (c : Blk) : Mach := { m with blk := c }
  let k := b.winHalf h
  if x.boot.inReset then m
  else if off = 0x0010008 then onBlk (if bitAt (Nat.land v mask) 0 then b.lockSet t via h else b)
  else if off = 0x0010018 then onBlk (b.pairReset t via h (Nat.land v mask))
  else if off = 0x0020008 then onBlk (b.tdmCtrl t via h mask v)
  else if off = 0x0030018 then onBlk (b.adminCtrl t via h mask v)
  else if off = 0x0030020 then onBlk (if mask % 2 ^ 32 = 0 then b else b.queueResume via (bits v 13 0))
  else if off = 0x0100028 then onBlk (b.dieAllow t via h mask v)
  else if off = 0x0100118 then
    let b1 := b.regPlain t via h off mask (v - v % 2)
    onBlk (if bitAt (Nat.land v mask) 0 then b1.regInval h else b1)
  else if off = 0x0200010 ∨ off = 0x0200018 then
    let m1 := onBlk (b.regPlain t via h off mask v)
    if bitAt (Nat.land v mask) 3 then m1.containRearm (h.num * 2 + (off - 0x0200010) / 8) (bitAt v 4) else m1
  else if off = 0x0400018 ∨ off = 0x0400020 ∨ off = 0x0400028 then
    let old := b.readReg t via h off
    let b1 := b.winConfig via ((off - 0x0400018) / 8) (overlay old mask v)
    onBlk (b1.upd k (fun y => y.jnlReg (t.now k) via off old (b1.readReg t via h off)))
  else if off = 0x0400030 then
    let n := x.selector via 0x0400010 % 64
    let w := Nat.land v mask
    let m1 := onBlk (b.updObj k (fun o => { o with windows := Tab.modify o.windows n (fun e =>
      { e with done := e.done && !bitAt w 4, err := e.err && !bitAt w 5 }) }))
    if bitAt w 0 then m1.winEnable via else if bitAt w 1 then m1.winDisable via else m1
  else if off = 0x0500040 then
    let n := x.selector via 0x0500038
    onBlk (b.grantWrite k t via.origin n (overlay (Tab.dflt x.obj.grants n 0) mask v))
  else if off = 0x0580000 then
    let b1 := b.regPlain t via h off mask v
    onBlk (if x.regFld off 0 0 = 1 ∧ (b1.half h).regFld off 0 0 = 0 then b1.upd h (fun y => y.wareDisable) else b1)
  else if off = 0x0600010 then onBlk (b.bondWrite t via h (overlay (Nat.land (Half.reg x off).toNat 0xFF) mask v))
  else if 0x0610000 ≤ off ∧ off < 0x0630000 then
    if off % 0x10000 < 0x8000 then onBlk (b.msixWrite (h.num * 2 + (off - 0x0610000) / 0x10000) 0 (off % 0x10000) mask v) else m
  else if off = 0x0700208 then
    let s := x.selector via 0x0700200
    let old := b.readReg t via h off
    let b1 := b.setVecMod k (bits s 21 16) (s % 2 ^ 11) (overlay old mask v)
    onBlk (b1.upd k (fun y => y.jnlReg (t.now k) via off old (b1.readReg t via h off)))
  else if off = 0x0800008 then onBlk (if bitAt (Nat.land v mask) 0 then b.debugRelock t via h else b)
  else if off = 0x0900040 ∨ off = 0x0900048 then onBlk ((b.regPlain t via h off mask v).alertUpdate h)
  else if off = 0x0900208 then onBlk (if bitAt (Nat.land v mask) 63 then b.upd h (fun y => y.severeClear via) else b)
  else if off = 0x0900410 then
    onBlk (if bitAt (Nat.land v mask) 63 then b.upd h (fun y => y.errorRecordClear (.part (x.selector via 0x0900408))) else b)
  else if off = 0x0900500 then onBlk (if via.physical then b.upd h (fun y => y.errorInject (Nat.land v mask)) else b)
  else onBlk (b.regPlain t via h off mask v)

/-- A write to a virtual function's partition page (R402, R489, R493, R500, Table 16-10). -/
def Blk.vfWrite (b : Blk) (t : Clk) (via : Via) (off mask v : Nat) : Blk :=
  let p := viaPart via
  let h := b.viaHalf via
  let x := b.half h
  let page (o d : Nat) : Nat := ((Tab.look (x.part p).page o).getD (BitVec.ofNat 64 d)).toNat
  let put (o keep d : Nat) : Blk :=
    b.updPart h p (fun e => { e with page := Tab.put e.page o (BitVec.ofNat 64 (Nat.land (overlay (page o d) mask v) keep)) })
  let gs := page 0x10208 0
  let gh : HalfId := if bitAt gs 4 then .B else .A
  let g := gs % 16
  let base := pmcBase g
  let monitor (o keep : Nat) : Blk :=
    if g < 12 ∧ (b.half gh).pmcOwned g p then b.upd gh (fun y => y.regStore via (base + o) (Nat.land mask keep) v) else b
  if off = 0x10018 then put off 0x3F 0
  else if off = 0x10028 then put off 0x7F 0
  else if off = 0x10208 then put off 0x1F 0
  else if off = 0x10020 then
    let vec := page 0x10018 0
    let old := x.readVecMod p vec
    let b1 := b.setVecMod h p vec (overlay old mask v)
    b1.upd h (fun y => y.jnlReg (t.now h) via off old (y.readVecMod p vec))
  else if off = 0x10100 then
    let b1 := put off 0x1073F 0x200
    b1.upd h (fun y => y.jnlReg (t.now h) via off (page off 0x200) (y.part p).errCtrl.toNat)
  else if off = 0x10108 ∨ off = 0x10118 then
    if bitAt (Nat.land v mask) 63 then b.upd (if off = 0x10108 then .A else .B) (fun y => y.errorRecordClear (.part p)) else b
  else if off = 0x10210 then monitor 0 1
  else if off = 0x10218 then monitor 8 (2 ^ 64 - 1)
  else if off = 0x10220 then monitor 0x10 (2 ^ 64 - 1)
  else if 0x10240 ≤ off ∧ off < 0x102C0 then monitor (off - 0x10200) (2 ^ 64 - 1)
  else if 0x1F000 ≤ off ∧ off < 0x1F400 then b.msixWrite via.port p (off - 0x1F000) mask v
  else b

/-- REGISTER_WRITE (R11 to R14, R363, R369, R494 to R502): a write through a function's Control Window. An offset with bit 24 set reaches half
B; a half other than the function's own is reached by XREQ, or not at all. -/
def Mach.registerWrite (m : Mach) (via : Via) (off v : Nat) (wide : Bool) : Mach :=
  m.viaGate via off (fun m1 =>
    let b := m1.blk
    let own := b.viaHalf via
    let h : HalfId := if bitAt off 24 then .B else .A
    let o := off % 2 ^ 24
    let mask := laneMask off wide
    let val := laneVal off v wide
    if (if wide then off % 8 else off % 4) ≠ 0 then { m1 with blk := b.misaligned via off true }
    else if ¬ via.physical then { m1 with blk := b.vfWrite m1.clk via (off / 8 * 8) mask val }
    else if 2 ^ 25 ≤ off then m1
    else if h = own then m1.regAct via h (o / 8 * 8) mask val
    else if b.reach h then { m1 with blk := b.sendXreq own (.regWrite via.port (o / 8 * 8) val mask) }
    else { m1 with blk := b.mwRefuse via.port (viaPart via) true false (some 0x40) off 4 })

/-- Registers the MCTP register message reaches (R438): the error, power and journal regions (Table 00-5). -/
def mctpRegion (off : Nat) : Bool :=
  (decide (0x0900000 ≤ off) && decide (off < 0x0B00000)) || (decide (0x0C00000 ≤ off) && decide (off < 0x1000000))

/-- MCTP_REGISTER_MESSAGE (R438, R497): a read of a register, or a write of a status field or a selector of the message's own bank. -/
def Mach.mctpMessage (m : Mach) (h : HalfId) (ep off : Nat) (value : Option Nat) : Mach :=
  let via := Via.mctp ep
  let b := m.blk
  if (b.half h).boot.inReset ∨ ¬ mctpRegion off then m
  else if off % 8 ≠ 0 then { m with blk := (b.upd h (fun x => x.raiseErr 12 0 0x46 0 8 off)).emit (.readData 0) }
  else match value with
    | some v => m.regAct via h off (2 ^ 64 - 1) (v % 2 ^ 64)
    | none =>
      if off = 0x0900068 then { m with blk := b.logEntryRead via h false }
      else if off = 0x0900070 then { m with blk := b.logEntryRead via h true }
      else if off = 0x0900080 then { m with blk := b.logStatusRead via h }
      else { m with blk := b.emit (.readData (b.readReg m.clk via h off)) }

/-- Send the response to an XREQ. -/
def Blk.xrspSend (b : Blk) (h : HalfId) (tag data : Nat) : Blk := b.sendFrame h (.xrsp tag data)

/-- XREQ (R55): the partner's request arrives at half `h` and is carried out there; the answer goes back under its tag. -/
def Mach.xreq (m : Mach) (h : HalfId) (tag : Nat) (r : XReq) : Mach :=
  let b := m.blk
  let back (n : Mach) (v : Nat) : Mach := { n with blk := n.blk.xrspSend h tag v }
  if (b.half h).boot.inReset then m
  else match r with
    | .regRead port off => back m (b.readReg m.clk (.fn port 0 0) h off)
    | .regWrite port off value mask => back (m.regAct (.fn port 0 0) h off mask value) 0
    | .fatalNotice msg pairReset => { m with blk := b.fatalNotice m.clk h msg pairReset }
    | .fenceSignal fence value ctx err =>
      let s := m.fenceApply fence value err ctx false
      back s.1 (s.2.1 * 256 + s.2.2)
    | .fenceWait w => back (m.fenceWait w.ref w.ctx w.fence w.value w.limit w.start) 0
    | .allocCount part => back m ((b.half h).framesUsed part)
    | .errVector vec => { m with blk := b.cause m.clk (b.adminPort h) 0 vec }

/-- XRSP (R55): the answer to an XREQ of this half arrives, and the request waits no longer. -/
def Blk.xrspIn (b : Blk) (h : HalfId) (tag : Nat) : Blk :=
  b.upd h (fun x => { x with tdm := { x.tdm with xreqOut := x.tdm.xreqOut.erase tag } })

end Sys2Proof.Machine
end

