-- ==== Sys2Proof/Machine/Service.lean ====
section
/-! DEFINITION. The test access port (R47), half deep idle (R450, R454), and the link-level exchanges of an optical port (R333, R334). -/
namespace Sys2Proof.Machine

/-- The least debug level at which a test-port instruction is present (R47, R421): BYPASS (0), IDCODE (1), boundary scan (2) and the Cone readout
(3) always; read instruments (4) at level 1, write and halt instruments (5) at level 2; others are absent. -/
def tapLevel : Nat → Nat
  | 0 | 1 | 2 | 3 => 0
  | 4 => 1
  | 5 => 2
  | _ => 3

/-- TAP_INSTRUCTION (R47): the port answers for an instrument that is present at the half's debug level; every other reads as absent. -/
def Blk.tap (b : Blk) (h : HalfId) (instr : Nat) : Blk :=
  let level := (b.half h).sec.debugLevel
  b.emit (.tap h instr (decide (tapLevel instr ≤ level)))

/-- Every function of a host port is in D3hot, or its link is in L1 (R454). -/
def Blk.portAsleep (b : Blk) (h : HalfId) (p : Nat) : Bool :=
  let x := b.half h
  (x.port p).lpState == 2 ||
  ((x.fn p 0).d3hot && (!b.primaryPort (h.num * 2 + p) || !(x.fn p 0).vfEnable || (List.range 63).all (fun v => (x.fn p (v + 1)).d3hot)))

/-- A queue has a packet fetched, dispatched or waiting behind its producer index (R454). -/
def Queue.busy (r : Queue) : Bool := !r.fetched.isEmpty || !r.inflight.isEmpty || r.pidx != r.cidx

/-- The conditions of half deep idle (R454). -/
def Blk.mayDeepIdle (b : Blk) (h : HalfId) : Bool :=
  let x := b.half h
  !x.boot.inReset && x.pwr.deepIdle.isNone && x.regFld 0x0A00008 1 1 == 1 && b.portAsleep h 0 && b.portAsleep h 1 &&
  x.obj.queues.all (fun e => e.2.home != h || !e.2.busy) &&
  x.obj.streams.all (fun s => s.flight != some h) &&
  x.obj.windows.all (fun w => !w.2.enabled || w.2.half != h.num) &&
  x.obj.join.isNone && (List.range 4).all (fun q => (x.quad q).sprint.isNone) &&
  (x.tdm.st == .paired || x.tdm.st == .solo)

/-- DEEP_IDLE_ENTRY (R454): the conditions have held for 1 ms. The contents of the IOTLB, walk cache and Ware board are lost; the islands sleep. -/
def Half.deepIdleEnter (x : Half) (now : Nat) : Half :=
  let y := (List.range 12).foldl (fun z i => z.updIsland i (fun s => { s with st := if i ≤ 1 then .clockGated else .retention })) x
  let z := (y.updIsland 13 (fun s => { s with st := .clockGated })).bump 0x0A00068 31 0 1
  { z with pwr := { z.pwr with deepIdle := some now }, xlt := { z.xlt with iotlb := [], wcache := [] }, ware := { z.ware with lines := [] } }
def Blk.deepIdle (b : Blk) (t : Clk) (h : HalfId) : Blk := if b.mayDeepIdle h then b.upd h (fun x => x.deepIdleEnter (t.now h)) else b

/-- DEEP_IDLE_WAKE (R450, R454): a wake event has come: the islands run again, each quad ramps from one cycle in four, and the first group of DMA
engines returns. -/
def Half.deepIdleLeave (x : Half) (now : Nat) : Half :=
  match x.pwr.deepIdle with
  | none => x
  | some since =>
    let y := (List.range 14).foldl (fun z i => z.wakeIsland i) x
    let z := y.bumpSat 0x0A00068 63 32 ((now - since) / 1000)
    { z with pwr := { z.pwr with deepIdle := none, dmaGroups := 1 } }

/-- CREDIT (R333): the neighbour returns link credits of a class (0 request, 1 response) and virtual channel. -/
def Half.linkCredit (x : Half) (port cls vc n : Nat) : Half :=
  x.updFabPort port (fun p => { p with credits := Tab.upd p.credits (cls % 2 * 8 + vc % 8) 0 (· + n) })

/-- IDLE_FLIT (R334): a port that carries traffic and has had none for 1 µs sends an idle flit. -/
def Blk.idleFlit (b : Blk) (h : HalfId) (port : Nat) : Blk :=
  if ((b.half h).fabPort port).carries then b.emit (.idleFlit h port) else b

end Sys2Proof.Machine
end

