-- ==== Sys2Proof/Machine/Tidy.lean ====
section
/-! DEFINITION. What follows at once from what a command did: loss events reach CMD (R107), partitions due a reset start it (R439), results
that need no link are acted on (R337), and everything that waited for the change is looked at again. -/
namespace Sys2Proof.Machine

/-- Loss events raised reach CMD, oldest first (R107). A loss may raise others, which follow. -/
def Mach.losses (m : Mach) : Nat → Mach
  | 0 => m
  | n + 1 =>
    match m.blk.lossQ with
    | [] => m
    | e :: t => ((Mach.lose { m with blk := { m.blk with lossQ := t } } e).losses n)

/-- Queues that drain, with nothing left in flight, go ABSENT (R85); so does the admin queue after its disable (R91). -/
def Mach.queuesDrain (m : Mach) (h : HalfId) : Mach :=
  ((m.blk.half h).obj.queues.map (·.1)).foldl (fun (k : Mach) q =>
    let r := k.blk.getQ q
    if k.blk.queueHome q ≠ h then k
    else if r.drain.isSome then k.queueDrained h q
    else if q = 0 ∧ r.st = .draining ∧ r.inflight.isEmpty ∧ r.fetched.isEmpty ∧ r.replies.isEmpty then
      { k with blk := k.blk.updObj h (fun o => { o with queues := Tab.del o.queues 0 }) }
    else k) m

/-- Contexts that drain go as far as they can (R109). -/
def Mach.ctxsDrain (m : Mach) (h : HalfId) : Mach :=
  (((m.blk.half h).obj.ctxs.filter (fun e => e.2.st == .draining)).map (·.1)).foldl (fun k id => k.drainGo h id false 0x32 1) m

/-- A sweep whose context is lost or destroyed ends its packet (R417). -/
def Blk.sweepCheck (b : Blk) (h : HalfId) : Blk :=
  let x := b.half h
  match x.sec.sweeping, x.sec.sweepRef with
  | true, some ref =>
    match x.ctx? x.sec.sweepCtx with
    | none => (b.upd h Half.sweepStop).finish h ref 0x34 0 x.sec.swept 0 none
    | some c => if c.st = .created ∨ c.st = .active then b else (b.upd h Half.sweepStop).finish h ref (if c.st = .faulted then 0x30 else 0x34) 0 x.sec.swept 0 none
  | _, _ => b

/-- Packets that wait for streams or memory of a half are tried again (R122, R271). -/
def Mach.retryParked (m : Mach) (h : HalfId) : Mach :=
  let parked := (m.blk.half h).obj.queues.flatMap (fun e =>
    (e.2.inflight.filter (fun d => (d.pkt.op == 0x22 || d.pkt.op == 0x38) && d.half == h && d.chan.isNone)).map (fun d => (e.1, d.ref.slot)))
  parked.foldl (fun (k : Mach) e => if k.blk.queueHome e.1 = h then k.retryPkt e.1 e.2 false else k) m

/-- One half's waiting work is looked at again. -/
def Mach.pokeHalf (m : Mach) (h : HalfId) : Mach :=
  let m1 := ((m.fabDrain h 64).fabWindows h).settle h
  let m2 := (m1.routeUpdate h).retryParked h
  let m3 := (m2.queuesDrain h).ctxsDrain h
  { m3 with blk := (m3.blk.sweepCheck h).onlinePoke h }

/-- One round of what follows. -/
def Mach.tidyOnce (m : Mach) : Mach :=
  let m1 := (m.losses 64).flrRun
  let m2 := (m1.pokeHalf .A).pokeHalf .B
  let m3 := m2.winPokeAll
  { m3 with blk := m3.blk.offlinePoke }

/-- What follows from a command. A second round takes up what the first one released. -/
def Mach.tidy (m : Mach) : Mach := m.tidyOnce.tidyOnce

end Sys2Proof.Machine
end

