-- ==== Sys2Proof/Machine/Exec.lean ====
section
/-! DEFINITION. How a command reaches the state: by half, by block, by the whole machine, or through a register access. Only `onClk` moves block
time; only `onMach` and `onTidy` reach memory. -/
namespace Sys2Proof.Machine

/-- Block time of a half stands still (R51), counts again, or starts from 0 (R53). -/
def Clk.stop (c : Clk) : HalfId → Clk
  | .A => { c with a := { c.a with running := false } }
  | .B => { c with b := { c.b with running := false } }
def Clk.start (c : Clk) : HalfId → Clk
  | .A => { c with a := { c.a with running := true } }
  | .B => { c with b := { c.b with running := true } }
def Clk.zero (c : Clk) (h : HalfId) (on : Bool) : Clk :=
  match h with
  | .A => { c with a := { time := 0, running := on } }
  | .B => { c with b := { time := 0, running := on } }

/-- A command that reaches the block apart from memory and block time. -/
def State.onBlk (s : State) (f : Blk → Blk) : Out := .next { s with sys := { s.sys with blk := f s.sys.blk } }
def State.onBlkAt (s : State) (f : Clk → Blk → Blk) : Out := s.onBlk (f s.sys.clk)

/-- A command that reaches one half only. -/
def State.onHalf (s : State) (h : HalfId) (f : Half → Half) : Out := s.onBlk (fun b => b.upd h f)
def State.onHalfAt (s : State) (h : HalfId) (f : Nat → Half → Half) : Out := s.onHalf h (f (s.sys.clk.now h))

/-- A command that reaches the block and memory. -/
def State.onMach (s : State) (f : Mach → Mach) : Out := .next { s with sys := { f s.sys with clk := s.sys.clk } }

/-- A command after which everything that waited for what it did is looked at again. -/
def State.onTidy (s : State) (f : Mach → Mach) : Out := s.onMach (fun m => (f m).tidy)
def State.onBlkTidy (s : State) (f : Blk → Blk) : Out := s.onTidy (fun m => { m with blk := f m.blk })
def State.onBlkTidyAt (s : State) (f : Clk → Blk → Blk) : Out := s.onBlkTidy (f s.sys.clk)

/-- A command that moves block time: clock and supply inputs, HEARTBEAT and PTM. -/
def State.onClk (s : State) (f : Mach → Mach) : Out := .next { s with sys := f s.sys }

/-- A packet on a queue: fetched, checked and run as far as it goes. -/
def State.packet (s : State) (q op : Nat) (hdr : Hdr) (args : List Nat) : Out :=
  s.onTidy (fun m => m.submit q { op := op, hdr := hdr, args := args })

/-- A register access with an effect of its own, at half `h` (R363, R369, R495, R500): through a function of partition 0 that may act, whose half
reaches `h`; or by MCTP within its regions (R438). Nothing happens at a half in reset. -/
def Mach.viaAt (m : Mach) (via : Via) (h : HalfId) (off : Nat) (f : Mach → Mach) : Mach :=
  if (m.blk.half h).boot.inReset then m
  else match via with
    | .mctp _ => if mctpRegion off then f m else m
    | .fn port part _ =>
      if part ≠ 0 then m
      else m.viaGate via off (fun k =>
        if h ≠ HalfId.ofPort port ∧ ¬ k.blk.reach h then { k with blk := k.blk.mwRefuse port part true false (some 0x40) off 4 } else f k)

/-- A write to a doorbell page (R363, R369, R370, R408, R455): no peer's, through a function that may act, and never by MCTP (R438). -/
def Mach.doorbellAt (m : Mach) (via : Via) (q : Nat) (f : Blk → Blk) : Mach :=
  match via with
  | .mctp _ => m
  | .fn pp _ _ =>
    let g := m.blk.mwGate via
    if (m.blk.half (HalfId.ofPort pp)).boot.inReset then m
    else match g.1 with
      | some r => { m with blk := m.blk.mwRefuse pp (viaPart via) true g.2 r.1 (q * 4096) r.2 }
      | none => if g.2 then { m with blk := m.blk.mwRefuse pp (viaPart via) true true (some 0x41) (q * 4096) 4 } else { m with blk := f m.blk }

/-- ERROR_RECORD_CLEAR through a function of partition 0 or MCTP, or, for a partition's own record, through its virtual function (R432, R437,
R440). -/
def Mach.recordClear (m : Mach) (via : Via) (h : HalfId) (r : ErrRec) : Mach :=
  let clear (k : Mach) : Mach := { k with blk := k.blk.upd h (fun x => x.errorRecordClear r) }
  match via with
  | .fn _ (p + 1) _ => if r = .part (p + 1) then m.viaGate via 0x10108 clear else m
  | _ => m.viaAt via h 0x0900010 clear

/-- A register whose write lets waiting work go on: containment, invalidation and window control. -/
def heavyReg (off : Nat) : Bool := [0x0200010, 0x0200018, 0x0100118, 0x0400030].contains (off % 2 ^ 24 / 8 * 8)

/-- SPRINT_BUDGET_EXPIRY (R29): 200 ms of sprint within 2 s: the quad leaves it. -/
def Blk.sprintBudget (b : Blk) (t : Clk) (h : HalfId) (q : Nat) : Blk := b.sprintExit t h q 1

end Sys2Proof.Machine
end

