-- ==== Sys2Proof/Machine/ExecAdmin.lean ====
section
/-! DEFINITION. Meanings of the commands of admin packets (chapters 3, 5, 12, 14, 15 and 18). -/
namespace Sys2Proof.Machine

/-- CTX_CREATE (R103). -/
def execCtxCreate (queue : Nat) (hdr : Hdr) (body : CtxBody) (s : State) : Out := s.packet queue 0x60 hdr body.args

/-- CTX_DESTROY (R109). -/
def execCtxDestroy (queue : Nat) (hdr : Hdr) (body : CtxDestroyBody) (s : State) : Out := s.packet queue 0x61 hdr body.args

/-- QUEUE_CREATE (R83). -/
def execQueueCreate (queue : Nat) (hdr : Hdr) (body : QueueBody) (s : State) : Out := s.packet queue 0x62 hdr body.args

/-- QUEUE_DESTROY (R85). -/
def execQueueDestroy (queue : Nat) (hdr : Hdr) (body : QueueDestroyBody) (s : State) : Out := s.packet queue 0x63 hdr body.args

/-- PART_CONFIG (R387). -/
def execPartConfig (queue : Nat) (hdr : Hdr) (body : PartBody) (s : State) : Out := s.packet queue 0x64 hdr body.args

/-- KEY_INSTALL (R415). -/
def execKeyInstall (queue : Nat) (hdr : Hdr) (body : KeyBody) (s : State) : Out := s.packet queue 0x65 hdr body.args

/-- KEY_RETIRE (R417). -/
def execKeyRetire (queue : Nat) (hdr : Hdr) (body : KeyRetireBody) (s : State) : Out := s.packet queue 0x66 hdr (body.args false)

/-- KEY_RETIRE_SWEEP (R417). -/
def execKeyRetireSweep (queue : Nat) (hdr : Hdr) (body : KeyRetireBody) (s : State) : Out := s.packet queue 0x66 hdr (body.args true)

/-- REGION_REGISTER (R376). -/
def execRegionRegister (queue : Nat) (hdr : Hdr) (body : RegionBody) (s : State) : Out := s.packet queue 0x67 hdr body.args

/-- REGION_RELEASE (R377). -/
def execRegionRelease (queue : Nat) (hdr : Hdr) (body : RegionReleaseBody) (s : State) : Out := s.packet queue 0x68 hdr body.args

/-- FW_STAGE (R466). -/
def execFwStage (queue : Nat) (hdr : Hdr) (body : FwBody) (s : State) : Out :=
  s.packet queue 0x69 hdr (body.args [(1, false), (2, false), (3, false)])

/-- FW_STAGE_LAST (R466). -/
def execFwStageLast (queue : Nat) (hdr : Hdr) (body : FwBody) (s : State) : Out :=
  s.packet queue 0x69 hdr (body.args [(1, true), (2, false), (3, false)])

/-- FW_STAGE_ACTIVATE (R466). -/
def execFwStageActivate (queue : Nat) (hdr : Hdr) (body : FwBody) (s : State) : Out :=
  s.packet queue 0x69 hdr (body.args [(2, true), (3, false)])

/-- FW_STAGE_SERVICE (R473). -/
def execFwStageService (queue : Nat) (hdr : Hdr) (body : FwBody) (s : State) : Out := s.packet queue 0x69 hdr (body.args [(3, true)])

/-- JOURNAL_READ (R475). -/
def execJournalRead (queue : Nat) (hdr : Hdr) (body : JournalBody) (s : State) : Out := s.packet queue 0x6C hdr (body.args 0)

/-- JOURNAL_READ_SERVICE (R475). -/
def execJournalReadService (queue : Nat) (hdr : Hdr) (body : JournalBody) (s : State) : Out := s.packet queue 0x6C hdr (body.args 1)

/-- MARGIN_REPLAN (R470). -/
def execMarginReplan (queue : Nat) (hdr : Hdr) (s : State) : Out := s.packet queue 0x6D hdr []

/-- CHIPLET_ADMIT (R468). -/
def execChipletAdmit (queue : Nat) (hdr : Hdr) (body : ChipBody) (s : State) : Out := s.packet queue 0x6E hdr body.args

/-- FABRIC_JOIN (R330). -/
def execFabricJoin (queue : Nat) (hdr : Hdr) (body : JoinBody) (s : State) : Out :=
  s.packet queue 0x6F hdr (body.args [(0, false), (1, false)])

/-- FABRIC_UPDATE (R331). -/
def execFabricUpdate (queue : Nat) (hdr : Hdr) (body : JoinBody) (s : State) : Out :=
  s.packet queue 0x6F hdr (body.args [(0, true), (1, false)])

/-- FABRIC_LEAVE (R331). -/
def execFabricLeave (queue : Nat) (hdr : Hdr) (body : JoinBody) (s : State) : Out := s.packet queue 0x6F hdr (body.args [(1, true)])

/-- DIAG_READ (R422). -/
def execDiagRead (queue : Nat) (hdr : Hdr) (body : DiagBody) (s : State) : Out := s.packet queue 0xF0 hdr (1 :: body.args)

/-- DIAG_WRITE (R422). -/
def execDiagWrite (queue : Nat) (hdr : Hdr) (body : DiagBody) (s : State) : Out := s.packet queue 0xF0 hdr (2 :: body.args)

end Sys2Proof.Machine
end

