-- ==== Sys2Proof/Machine/EventOps.lean ====
section
/-! DEFINITION. Events that concern one unit and have no command packet behind them: SRAM errors (R258, R322, R428), checker reports (R39),
loads of programs and tables (R241, R244), a ROUTE's fence signals (R253), the limit of a DRAFT_CLOSE (R271), and the Peloton packets that
arrive (R339 to R346). -/
namespace Sys2Proof.Machine

/-- Island and unit of an array. -/
def SramAt.place (x : Half) : SramAt → Nat × Nat
  | .iotlb _ => (3, 0)
  | .walkCache _ => (3, 0)
  | .wareLine i => (11, (x.ware.lines.getD i {}).addr / 256 % 6)
  | .program i => let e := (x.xfm.progs.getD i {}).unit; (5 + e / 4, e % 4)
  | .table i => (5 + (x.xfm.tables.getD i {}).unit, 0)
  | .dupTags p => (9, p)
  | .directory _ => (9, 0)
  | .other i u => (i, u)

/-- A packet that uses a program or table that has been removed completes with POISONED (R258). -/
def Mach.itemLost (m : Mach) (h : HalfId) (r : Resident) (program : Bool) : Mach :=
  let uses (k : Chan) : Bool :=
    k.st != 0 && k.ctx == r.ctx && k.disp.pkt.arg 9 == r.gen &&
    (match k.work.eng with
      | some e => if program then e / 4 == r.unit else e / 16 == r.unit
      | none => false) &&
    (if program then k.disp.pkt.arg 5 == 3 && k.disp.pkt.arg 10 == r.va
     else (k.disp.pkt.arg 5 == 2 && k.disp.pkt.arg 10 == r.va) || (match k.work.prog with
      | some g => g.tabs.contains r.va
      | none => false))
  let hit := ((m.blk.half h).dma.chans.filter (fun e => uses e.2)).map (·.1)
  hit.foldl (fun k n => ((k.chanEnd h n 0x22 0 (k.chan h n).done 0).updChan h n (fun q => { q with reads := [] })).chanStop h n false) m

/-- A list without its element at a place. -/
def dropAt {α : Type} (l : List α) (i : Nat) : List α := l.take i ++ l.drop (i + 1)

/-- An uncorrectable error takes its entry out: a cache entry is dropped, a port with bad duplicate tags is fenced as a dead agent, and the line of a
bad directory entry is poisoned and back-invalidated (R258, R322, Table 16-2). -/
def Mach.sramDrop (m : Mach) (h : HalfId) (w : SramAt) : Mach :=
  let x := m.blk.half h
  let on (f : Half → Half) : Mach := { m with blk := m.blk.upd h f }
  match w with
  | .iotlb i => on (fun y => { y with xlt := { y.xlt with iotlb := dropAt y.xlt.iotlb i } })
  | .walkCache i => on (fun y => { y with xlt := { y.xlt with wcache := dropAt y.xlt.wcache i } })
  | .wareLine i => on (fun y => { y with ware := { y.ware with lines := dropAt y.ware.lines i } })
  | .program i =>
    let m1 := on (fun y => { y with xfm := { y.xfm with progs := dropAt y.xfm.progs i } })
    if i < x.xfm.progs.length then m1.itemLost h (x.xfm.progs.getD i {}) true else m1
  | .table i =>
    let m1 := on (fun y => { y with xfm := { y.xfm with tables := dropAt y.xfm.tables i } })
    if i < x.xfm.tables.length then m1.itemLost h (x.xfm.tables.getD i {}) false else m1
  | .dupTags p => m.fencePort h p 0x20
  | .directory key =>
    match Tab.look x.coh.hrd key with
    | none => m
    | some e =>
      let b := e.ports.foldl (fun b p => (b.upd h (fun y => y.bump 0x0400050 31 0 1)).emit (.biSnp (h.num * 2 + p) e.line true)) m.blk
      Mach.linePoison { m with blk := b.updCoh h (fun u => { u with hrd := Tab.del u.hrd key }) } h e.line
  | .other _ _ => m

/-- SRAM_ECC_ERROR (R428, Table 16-2): class 0 corrected, 1 uncorrectable in a cache or resident copy, 2 in state only this half holds, 3 in
pair-wide state whose partner copy is unusable. -/
def Mach.sramError (m : Mach) (h : HalfId) (w : SramAt) (cls : Nat) : Mach :=
  let x := m.blk.half h
  let (island, unit) := w.place x
  let m1 : Mach := { m with blk := m.blk.upd h (fun y => y.raiseErr island unit (sramKind cls).1 (sramKind cls).2) }
  if x.boot.inReset then m else if cls = 1 then m1.sramDrop h w else m1

/-- CHECKER_VIOLATION_REPORT (R39, R107): the checker has denied a request: kind 0x14, the descriptor on the channel that made it completes PROTECTION
0x0C, and the context is lost with cause 0x01. -/
def Mach.checkerReport (m : Mach) (h : HalfId) (chan : Option Nat) (addr va ctx part : Nat) (write : Bool) : Mach :=
  let acc := if write then 2 else 1
  match chan with
  | some c => if (m.chan h c).st = 0 then m else m.denied h c addr va acc
  | none =>
    let b := m.blk.upd h (fun x => x.raiseErr 4 0 0x14 3 acc addr (some part))
    { m with blk := { b with lossQ := b.lossQ ++ [{ ctx := ctx, cause := 1, master := 2 ^ 15 + part % 64 * 512, access := acc, addr := addr, half := h }] } }

/-- PROGRAM_LOAD_COMPLETE and TABLE_LOAD_COMPLETE (R241, R244): what a channel's packet loads is resident, and checked. -/
def Mach.loadDone (m : Mach) (h : HalfId) (c : Nat) (program : Bool) : Mach :=
  let k := m.chan h c
  let op := k.disp.pkt.arg 5
  let loads : Bool := (k.disp.pkt.op == 0x18 || k.disp.pkt.op == 0x21) && (if program then op == 3 else op == 2 || op == 3)
  if k.st = 0 ∨ k.work.begun ∨ ¬ loads then m else (m.begin h c false).1

/-- ROUTE_FENCE_SIGNAL (R253): with every write of a ROUTE acknowledged, the fence of one of its regions is signalled; after the last, the packet
completes. -/
def Mach.routeFence (m : Mach) (h : HalfId) (c e : Nat) : Mach :=
  let k := m.chan h c
  if ¬ k.work.fencesDue ∨ k.acks ≠ 0 ∨ ¬ k.work.fences.contains e then m
  else
    let m1 := m.routeSignal h c e false
    if (m1.chan h c).work.fences.isEmpty then m1.packetComplete h c else m1

/-- DRAFT_CLOSE_LIMIT_EXPIRY (R271): LIMIT has passed with a packet in flight on the stream: the close completes with TIMEOUT, the stream as it was. -/
def Mach.closeLimit (m : Mach) (q slot : Nat) : Mach :=
  match (m.blk.getQ q).inflight.find? (fun d => d.ref.slot == slot && d.pkt.op == 0x22) with
  | none => m
  | some d =>
    match (m.blk.half d.half).stream d.pkt.hdr.ctx (d.pkt.arg 0) with
    | some s => if s.flight.isSome then m.endPkt d.half d 0x32 0 0 0 false else m
    | none => m

/-- A Peloton request arrives for this package (R339 to R343): a package that has not joined answers NACK 4 (R327). -/
def Mach.inbound (m : Mach) (h : HalfId) (p : FabPkt) : Mach :=
  if (m.blk.half h).obj.join.isNone then { m with blk := m.blk.respond h p (.nack 4) }
  else
    let (m1, r) := m.serve h p
    match r with
    | some v => { m1 with blk := m1.blk.respond h p v }
    | none => { m1 with blk := m1.blk.toWindow p ((m1.blk.half h).inboundCheck p).2.1 h none }

/-- A Peloton response arrives for a request of this half (R342 to R346): a NACK may change the route, and the requester takes the result. -/
def Mach.response (m : Mach) (h : HalfId) (tag : Nat) (r : FabRes) : Mach :=
  let m1 : Mach := { m with blk := m.blk.upd h (fun x => x.gotResult tag r) }
  let m2 : Mach := match r, Tab.look (m.blk.half h).fab.reqs tag with
    | .nack k, some q => { m1 with blk := m1.blk.nackRoute h q.dst k }
    | _, _ => m1
  m2.fabDrain h 64

/-- WARE_FILL_RETURN (R279): the data of a Ware board fill arrives. -/
def Mach.fillReturn (m : Mach) (h : HalfId) (tag : Nat) (bs : List Byte) (poison : Bool) : Mach :=
  match Tab.look (m.blk.half h).fab.reqs tag with
  | some { what := .fill, .. } => m.response h tag (.data bs poison)
  | _ => m

/-- FLIT_CRC_FAIL (R334, R351): a flit fails its CRC and is sent again; `again` says that it is the flit that failed last. The eighth failure of one
flit takes the port DOWN. -/
def Blk.flitFail (b : Blk) (h : HalfId) (p : Nat) (again : Bool) : Blk :=
  let b1 := b.upd h (fun x => (x.updFabPort p (fun q => if again then q else { q with fails := 0 })).crcFail p)
  if 8 ≤ ((b1.half h).fabPort p).fails then b1.portDown h p [] else b1

end Sys2Proof.Machine
end

