-- ==== Sys2Proof/Machine/ExecBoard.lean ====
section
/-! DEFINITION. Meanings of the commands of the frame-owner checker, the test port and UCIe repair (chapter 2). -/
namespace Sys2Proof.Machine

/-- CHECKER_ACK (R38). -/
def execCheckerAck (h : HalfId) (s : State) : Out := s.onBlk (fun b => b.checkerAck h)

/-- CHECKER_ACK_TIMEOUT (R39). -/
def execCheckerAckTimeout (h : HalfId) (s : State) : Out := s.onHalf h (fun x => x.checkerAckTimeout)

/-- CHECKER_VIOLATION_REPORT (R39). -/
def execCheckerViolationReport (h : HalfId) (chan : Option Nat) (addr : Nat) (va : Nat) (ctx : Nat) (part : Nat) (write : Bool) (s : State) : Out :=
  s.onTidy (fun m => m.checkerReport h chan addr va ctx part write)

/-- TAP_INSTRUCTION (R47). -/
def execTapInstruction (h : HalfId) (instr : Nat) (s : State) : Out := s.onBlk (fun b => b.tap h instr)

/-- UCIE_LANE_REPAIR (R36). -/
def execUcieLaneRepair (h : HalfId) (port : Nat) (s : State) : Out := s.onHalf h (fun x => x.laneRepair port)

end Sys2Proof.Machine
end

