-- ==== Sys2Proof/Machine/ExecBringup.lean ====
section
/-! DEFINITION. Meanings of the commands of firmware, admission, margins and monitors (chapters 18 and 19). -/
namespace Sys2Proof.Machine

/-- FIRMWARE_AUTHENTICATE (R465). -/
def execFirmwareAuthenticate (h : HalfId) (s : State) : Out := s.onBlkAt (fun t b => b.fwAuth t h)

/-- FW_MCTP_IMAGE (R465). -/
def execFwMctpImage (h : HalfId) (off : Nat) (data : List Byte) (last : Bool) (s : State) : Out :=
  s.onHalf h (fun x => x.fwMctp off data last)

/-- IMAGE_SOURCE_TIMEOUT (R465). -/
def execImageSourceTimeout (h : HalfId) (s : State) : Out := s.onHalf h (fun x => x.fwTimeout)

/-- SERVICE_RECORD_RETURN (R473). -/
def execServiceRecordReturn (h : HalfId) (record : List Byte) (s : State) : Out := s.onHalf h (fun x => x.recordIn record)

/-- CHIPLET_LINK_TIMEOUT (R468). -/
def execChipletLinkTimeout (h : HalfId) (port : Nat) (s : State) : Out := s.onBlkTidyAt (fun t b => b.linkTimeout t h port)

/-- MARGIN_REPLAN_RUN (R470). -/
def execMarginReplanRun (h : HalfId) (readings : List ConeReading) (periodic : Bool) (s : State) : Out :=
  s.onBlkAt (fun t b => b.replan t h readings periodic)

/-- WEAR_HOUR (R471). -/
def execWearHour (h : HalfId) (island : Nat) (s : State) : Out := s.onHalf h (fun x => x.wearHour island)

/-- JOURNAL_SPILL (R475). -/
def execJournalSpill (h : HalfId) (s : State) : Out := s.onHalf h (fun x => x.journalSpill)

/-- PMC_BATCH (R486). -/
def execPmcBatch (h : HalfId) (group : Nat) (cycles : Nat) (occs : List PmcOcc) (s : State) : Out :=
  s.onHalf h (fun x => x.pmcBatch group cycles occs)

/-- UCIE_LINK_UP (R468). -/
def execUcieLinkUp (h : HalfId) (port : Nat) (cap : Nat) (desc : List Byte) (s : State) : Out :=
  s.onBlkTidyAt (fun t b => b.linkUp t h port cap desc)

end Sys2Proof.Machine
end

