-- ==== Sys2Proof/Machine/ExecCoherence.lean ====
section
/-! DEFINITION. Meanings of the commands of coherent windows (chapter 11). -/
namespace Sys2Proof.Machine

/-- WINDOW_ENABLE (R291). -/
def execWindowEnable (via : Via) (s : State) : Out :=
  s.onTidy (fun m => m.viaAt via (m.blk.viaHalf via) 0x0400030 (fun k => k.winEnable via))

/-- WINDOW_DISABLE (R292). -/
def execWindowDisable (via : Via) (s : State) : Out :=
  s.onTidy (fun m => m.viaAt via (m.blk.viaHalf via) 0x0400030 (fun k => k.winDisable via))

/-- RD_SHARED (R304). -/
def execRdShared (h : HalfId) (port : Nat) (req : CohReq) (s : State) : Out := s.onTidy (fun m => m.cohReq h port 0x40 req)

/-- RD_OWN (R304). -/
def execRdOwn (h : HalfId) (port : Nat) (req : CohReq) (s : State) : Out := s.onTidy (fun m => m.cohReq h port 0x41 req)

/-- UPGRADE (R304). -/
def execUpgrade (h : HalfId) (port : Nat) (req : CohReq) (s : State) : Out := s.onTidy (fun m => m.cohReq h port 0x42 req)

/-- RD_ONCE (R304). -/
def execRdOnce (h : HalfId) (port : Nat) (req : CohReq) (s : State) : Out := s.onTidy (fun m => m.cohReq h port 0x43 req)

/-- WR_ONCE (R304). -/
def execWrOnce (h : HalfId) (port : Nat) (req : CohReq) (s : State) : Out := s.onTidy (fun m => m.cohReq h port 0x44 req)

/-- DAT_WR (R304). -/
def execDatWr (h : HalfId) (port : Nat) (tid : Nat) (mask : Nat) (data : List Byte) (poison : Bool) (s : State) : Out :=
  s.onTidy (fun m => m.datWr h port tid mask data poison)

/-- RSP_I (R305). -/
def execRspI (h : HalfId) (port : Nat) (tid : Nat) (s : State) : Out := s.onTidy (fun m => m.snoopRsp h port tid 0)

/-- RSP_S (R305). -/
def execRspS (h : HalfId) (port : Nat) (tid : Nat) (s : State) : Out := s.onTidy (fun m => m.snoopRsp h port tid 1)

/-- RSP_I_EVICTING (R306). -/
def execRspIEvicting (h : HalfId) (port : Nat) (tid : Nat) (s : State) : Out := s.onTidy (fun m => m.rspEvicting h port tid)

/-- DAT_SNP (R305). -/
def execDatSnp (h : HalfId) (port : Nat) (tid : Nat) (after : Nat) (dirty : Bool) (poison : Bool) (data : List Byte) (s : State) : Out :=
  s.onTidy (fun m => m.datSnp h port tid after dirty poison data)

/-- EVC (R306). -/
def execEvc (h : HalfId) (port : Nat) (tid : Nat) (line : Nat) (s : State) : Out :=
  s.onTidy (fun m => m.evictLine h port tid line none false)

/-- EVD (R306). -/
def execEvd (h : HalfId) (port : Nat) (tid : Nat) (line : Nat) (poison : Bool) (data : List Byte) (s : State) : Out :=
  s.onTidy (fun m => m.evictLine h port tid line (some data) poison)

/-- CRD (R300). -/
def execCrd (h : HalfId) (port : Nat) (snp : Nat) (rsp : Nat) (dat : Nat) (s : State) : Out := s.onBlk (fun b => b.crd h port snp rsp dat)

/-- COH_TRANSACTION_CLOSE (R303). -/
def execCohTransactionClose (h : HalfId) (txn : Nat) (s : State) : Out := s.onTidy (fun m => m.cohClose h txn)

/-- RESERVATION_GRANT (R308). -/
def execReservationGrant (h : HalfId) (s : State) : Out := s.onBlk (fun b => b.resvGrant h)

/-- RESERVATION_EXPIRY (R308). -/
def execReservationExpiry (h : HalfId) (rcid : Nat) (s : State) : Out := s.onHalf h (fun x => x.resvExpiry rcid)

/-- SNOOP_TIMEOUT (R310). -/
def execSnoopTimeout (h : HalfId) (port : Nat) (tid : Nat) (s : State) : Out := s.onTidy (fun m => m.snoopTimeout h port tid)

/-- IO_REQUEST (R313). -/
def execIoRequest (h : HalfId) (tag : Nat) (write : Bool) (line : Nat) (data : List Byte) (mask : Nat) (s : State) : Out :=
  s.onTidy (fun m => m.ioReq h (.io tag) write line data mask)

/-- HOST_MEM_REQUEST (R315). -/
def execHostMemRequest (h : HalfId) (port : Nat) (kind : Nat) (line : Nat) (data : List Byte) (s : State) : Out :=
  s.onTidy (fun m => m.hostMem h port kind line data)

/-- BIRSP (R315). -/
def execBirsp (h : HalfId) (port : Nat) (line : Nat) (data : Option (List Byte)) (s : State) : Out :=
  s.onTidy (fun m => m.birsp h port line data)

/-- BI_TIMEOUT (R317). -/
def execBiTimeout (h : HalfId) (port : Nat) (line : Nat) (s : State) : Out := s.onTidy (fun m => m.biTimeout h port line)

/-- HOST_SNOOP (R319). -/
def execHostSnoop (h : HalfId) (port : Nat) (kind : Nat) (line : Nat) (s : State) : Out :=
  s.onTidy (fun m => m.hostSnoop h port kind line)

/-- CXL_CACHE_GO (R318). -/
def execCxlCacheGo (h : HalfId) (line : Nat) (state : Nat) (data : Option (List Byte)) (s : State) : Out :=
  s.onTidy (fun m => m.cacheGo h line state data)

end Sys2Proof.Machine
end

