-- ==== Sys2Proof/Machine/ExecContext.lean ====
section
/-! DEFINITION. Meanings of the commands of contexts, fences and objects (chapter 5). -/
namespace Sys2Proof.Machine

/-- CTX_DRAIN_COMPLETE (R109). -/
def execCtxDrainComplete (h : HalfId) (ctx : Nat) (s : State) : Out := s.onTidy (fun m => m.drainComplete h ctx)

/-- DRAIN_BOUND_EXPIRY (R109). -/
def execDrainBoundExpiry (h : HalfId) (queue : Bool) (id : Nat) (s : State) : Out :=
  s.onTidy (fun m => if queue then m.queueExpiry h id else m.drainExpiry h id)

/-- SWEEP_CHUNK_UNLOCK (R418). -/
def execSweepChunkUnlock (h : HalfId) (s : State) : Out := s.onTidy (fun m => m.sweepChunk h)

/-- CONTEXT_LOSS (R107). -/
def execContextLoss (event : LossEv) (s : State) : Out := s.onTidy (fun m => m.lose event)

/-- FENCE_SIGNAL_APPLY (R113). -/
def execFenceSignalApply (queue : Nat) (slot : Nat) (s : State) : Out := s.onTidy (fun m => m.signalApply queue slot)

/-- FENCE_WAIT_POLL (R116). -/
def execFenceWaitPoll (h : HalfId) (queue : Nat) (slot : Nat) (s : State) : Out := s.onTidy (fun m => m.fencePoll h queue slot)

/-- FENCE_WAIT_TIMEOUT (R115). -/
def execFenceWaitTimeout (h : HalfId) (queue : Nat) (slot : Nat) (s : State) : Out := s.onTidy (fun m => m.fenceTimeout h queue slot)

/-- OBJECT_RECLAIM (R121). -/
def execObjectReclaim (h : HalfId) (s : State) : Out := s.onTidy (fun m => m.reclaim h)

/-- DRAFT_CLOSE_LIMIT_EXPIRY (R271). -/
def execDraftCloseLimitExpiry (queue : Nat) (slot : Nat) (s : State) : Out := s.onTidy (fun m => m.closeLimit queue slot)

end Sys2Proof.Machine
end

