-- ==== Sys2Proof/Machine/ExecDma.lean ====
section
/-! DEFINITION. Meanings of the commands of DMA channels, engines, streams and the Ware board (chapters 8 to 10). -/
namespace Sys2Proof.Machine

/-- ROUTE_FENCE_SIGNAL (R253). -/
def execRouteFenceSignal (h : HalfId) (chan : Nat) (entry : Nat) (s : State) : Out := s.onTidy (fun m => m.routeFence h chan entry)

/-- DMA_BURST_ISSUE (R193). -/
def execDmaBurstIssue (h : HalfId) (engine : Nat) (s : State) : Out := s.onTidy (fun m => m.burstIssue h engine)

/-- READ_COMPLETION (R202). -/
def execReadCompletion (h : HalfId) (chan : Nat) (result : Nat) (s : State) : Out := s.onTidy (fun m => m.readCompletion h chan result)

/-- WRITE_ACK (R203). -/
def execWriteAck (h : HalfId) (queue : Nat) (slot : Nat) (s : State) : Out := s.onTidy (fun m => m.writeAck h queue slot)

/-- FLUSH_READ_COMPLETE (R203). -/
def execFlushReadComplete (h : HalfId) (port : Nat) (s : State) : Out := s.onTidy (fun m => m.flushComplete h port)

/-- FLUSH_READ_REFUSED (R204). -/
def execFlushReadRefused (h : HalfId) (port : Nat) (s : State) : Out := s.onTidy (fun m => m.flushRefused h port)

/-- IDLE_FLUSH (R205). -/
def execIdleFlush (h : HalfId) (port : Nat) (s : State) : Out := s.onHalf h (fun x => x.idleFlush port)

/-- MESH_WRITE_ERROR (R505). -/
def execMeshWriteError (h : HalfId) (chan : Nat) (s : State) : Out := s.onTidy (fun m => m.meshWriteError h chan)

/-- CHANNEL_PARITY_ERROR (R215). -/
def execChannelParityError (h : HalfId) (chan : Nat) (s : State) : Out := s.onTidy (fun m => m.channelParity h chan)

/-- ENGINE_ISSUE (R219). -/
def execEngineIssue (h : HalfId) (engine : Nat) (s : State) : Out := s.onTidy (fun m => m.engineIssue h engine)

/-- PROGRAM_LOAD_COMPLETE (R244). -/
def execProgramLoadComplete (h : HalfId) (chan : Nat) (s : State) : Out := s.onTidy (fun m => m.loadDone h chan true)

/-- TABLE_LOAD_COMPLETE (R241). -/
def execTableLoadComplete (h : HalfId) (chan : Nat) (s : State) : Out := s.onTidy (fun m => m.loadDone h chan false)

/-- ENGINE_PARITY_ERROR (R258). -/
def execEngineParityError (h : HalfId) (engine : Nat) (s : State) : Out := s.onTidy (fun m => m.engineParity h engine)

/-- DRAFT_SLOT_COMMIT (R267). -/
def execDraftSlotCommit (h : HalfId) (chan : Nat) (s : State) : Out := s.onTidy (fun m => m.commitSlot h chan)

/-- DRAFT_CREDIT_RESUME (R269). -/
def execDraftCreditResume (h : HalfId) (chan : Nat) (s : State) : Out := s.onTidy (fun m => m.creditResume h chan)

/-- DRAFT_CREDIT_TIMEOUT (R269). -/
def execDraftCreditTimeout (h : HalfId) (chan : Nat) (s : State) : Out := s.onTidy (fun m => m.creditTimeout h chan)

/-- DRAFT_RESYNC (R275). -/
def execDraftResync (h : HalfId) (s : State) : Out := s.onTidy (fun m => m.resync h)

/-- WARE_LOOKUP (R279). -/
def execWareLookup (h : HalfId) (chan : Nat) (ctx : Nat) (part : Nat) (addr : Nat) (len : Nat) (s : State) : Out :=
  s.onTidy (fun m => m.lookup h chan ctx part (addr, len))

/-- WARE_FILL_RETURN (R279). -/
def execWareFillReturn (h : HalfId) (tag : Nat) (data : List Byte) (poison : Bool) (s : State) : Out :=
  s.onTidy (fun m => m.fillReturn h tag data poison)

/-- WARE_SCRUB (R281). -/
def execWareScrub (h : HalfId) (s : State) : Out := s.onHalf h (fun x => x.scrub)

/-- WARE_DISABLE (R287). -/
def execWareDisable (h : HalfId) (s : State) : Out := s.onHalf h (fun x => x.wareDisable)

/-- PREFETCH_FILL (R283). -/
def execPrefetchFill (h : HalfId) (stream : Nat) (s : State) : Out := s.onTidy (fun m => m.pfFill h stream)

/-- PREFETCH_IDLE_END (R283). -/
def execPrefetchIdleEnd (h : HalfId) (stream : Nat) (s : State) : Out := s.onHalf h (fun x => x.pfIdle stream)

end Sys2Proof.Machine
end

