-- ==== Sys2Proof/Machine/ExecErrors.lean ====
section
/-! DEFINITION. Meanings of the commands of the error collector (chapter 16). -/
namespace Sys2Proof.Machine

/-- ERROR_QUEUE_ENTRY_FREED (R26). -/
def execErrorQueueEntryFreed (h : HalfId) (island : Nat) (s : State) : Out := s.onHalf h (fun x => x.errorEntryFreed island)

/-- ERROR_MESSAGE_ACCEPT (R429). -/
def execErrorMessageAccept (h : HalfId) (s : State) : Out := s.onBlkTidyAt (fun t b => b.errorAccept t h)

/-- FATAL_HALF_RESET (R440). -/
def execFatalHalfReset (h : HalfId) (s : State) : Out := s.onBlk (fun b => b.fatalHalfReset h)

/-- FATAL_NOTICE_RECEIVE (R441). -/
def execFatalNoticeReceive (h : HalfId) (msg : ErrMsg) (pairReset : Bool) (s : State) : Out :=
  s.onBlkAt (fun t b => b.fatalNotice t h msg pairReset)

/-- ERROR_RECORD_CLEAR (R432). -/
def execErrorRecordClear (via : Via) (h : HalfId) (rec : ErrRec) (s : State) : Out := s.onMach (fun m => m.recordClear via h rec)

/-- ERROR_LOG_STATUS_READ (R436). -/
def execErrorLogStatusRead (via : Via) (h : HalfId) (s : State) : Out :=
  s.onMach (fun m => m.viaAt via h 0x0900080 (fun k => { k with blk := k.blk.logStatusRead via h }))

/-- ERROR_LOG_ENTRY_READ (R430). -/
def execErrorLogEntryRead (via : Via) (h : HalfId) (high : Bool) (s : State) : Out :=
  s.onMach (fun m => m.viaAt via h 0x0900068 (fun k => { k with blk := k.blk.logEntryRead via h high }))

/-- ERROR_INJECT (R444). -/
def execErrorInject (via : Via) (h : HalfId) (value : Nat) (s : State) : Out :=
  s.onMach (fun m => m.viaAt via h 0x0900500 (fun k => k.regAct via h 0x0900500 (2 ^ 64 - 1) value))

/-- SEVERE_SOURCE_CLEAR (R434). -/
def execSevereSourceClear (via : Via) (h : HalfId) (s : State) : Out :=
  s.onMach (fun m => m.viaAt via h 0x0900208 (fun k => { k with blk := k.blk.upd h (fun x => x.severeClear via) }))

/-- KILN_WATCHDOG_EXPIRY (R428). -/
def execKilnWatchdogExpiry (h : HalfId) (core : Nat) (s : State) : Out := s.onHalf h (fun x => x.kilnWatchdog core)

/-- SRAM_ECC_ERROR (R428). -/
def execSramEccError (h : HalfId) (where_ : SramAt) (cls : Nat) (s : State) : Out := s.onTidy (fun m => m.sramError h where_ cls)

end Sys2Proof.Machine
end

