-- ==== Sys2Proof/Machine/ExecFabric.lean ====
section
/-! DEFINITION. Meanings of the commands of the Peloton fabric (chapter 12). -/
namespace Sys2Proof.Machine

/-- LINK_HELLO_SEND (R330). -/
def execLinkHelloSend (h : HalfId) (port : Nat) (s : State) : Out := s.onBlk (fun b => b.linkHelloSend h port)

/-- LINK_HELLO (R351). -/
def execLinkHello (h : HalfId) (port : Nat) (pkg : Nat) (domain : Nat) (leaving : Bool) (s : State) : Out :=
  s.onTidy (fun m => m.linkHello h port pkg domain leaving)

/-- FABRIC_JOIN_LIMIT_EXPIRY (R330). -/
def execFabricJoinLimitExpiry (h : HalfId) (s : State) : Out := s.onTidy (fun m => m.joinLimit h)

/-- RD_REQ (R339). -/
def execRdReq (h : HalfId) (pkt : FabPkt) (s : State) : Out := s.onTidy (fun m => m.inbound h { pkt with ty := 1 })

/-- WR_REQ (R342). -/
def execWrReq (h : HalfId) (pkt : FabPkt) (s : State) : Out := s.onTidy (fun m => m.inbound h { pkt with ty := 2 })

/-- AT_FETCH_ADD (R343). -/
def execAtFetchAdd (h : HalfId) (pkt : FabPkt) (s : State) : Out := s.onTidy (fun m => m.inbound h { pkt with ty := 3, code := 1 })

/-- AT_COMPARE_SWAP (R343). -/
def execAtCompareSwap (h : HalfId) (pkt : FabPkt) (s : State) : Out := s.onTidy (fun m => m.inbound h { pkt with ty := 3, code := 2 })

/-- AT_FENCE_SIGNAL (R343). -/
def execAtFenceSignal (h : HalfId) (pkt : FabPkt) (s : State) : Out := s.onTidy (fun m => m.inbound h { pkt with ty := 3, code := 3 })

/-- PING (R332). -/
def execPing (h : HalfId) (pkt : FabPkt) (s : State) : Out := s.onTidy (fun m => m.inbound h { pkt with ty := 4 })

/-- PACKET_FORWARD (R335). -/
def execPacketForward (h : HalfId) (port : Nat) (pkt : FabPkt) (s : State) : Out := s.onBlk (fun b => b.forward h port pkt)

/-- RD_DATA (R342). -/
def execRdData (h : HalfId) (tag : Nat) (data : List Byte) (poison : Bool) (s : State) : Out :=
  s.onTidy (fun m => m.response h tag (.data data poison))

/-- WR_ACK (R342). -/
def execWrAck (h : HalfId) (tag : Nat) (s : State) : Out := s.onTidy (fun m => m.response h tag .ack)

/-- AT_RSP (R343). -/
def execAtRsp (h : HalfId) (tag : Nat) (old : Nat) (code : Nat) (poison : Bool) (s : State) : Out :=
  s.onTidy (fun m => m.response h tag (.atomic old code poison))

/-- PONG (R352). -/
def execPong (h : HalfId) (tag : Nat) (s : State) : Out := s.onTidy (fun m => m.response h tag .pong)

/-- NACK (R346). -/
def execNack (h : HalfId) (tag : Nat) (reason : Nat) (s : State) : Out := s.onTidy (fun m => m.response h tag (.nack reason))

/-- CREDIT (R333). -/
def execCredit (h : HalfId) (port : Nat) (cls : Nat) (vc : Nat) (count : Nat) (s : State) : Out :=
  s.onHalf h (fun x => x.linkCredit port cls vc count)

/-- FLIT_CRC_FAIL (R334). -/
def execFlitCrcFail (h : HalfId) (port : Nat) (again : Bool) (s : State) : Out := s.onBlkTidy (fun b => b.flitFail h port again)

/-- IDLE_FLIT (R334). -/
def execIdleFlit (h : HalfId) (port : Nat) (s : State) : Out := s.onBlk (fun b => b.idleFlit h port)

/-- FABRIC_REQ_TIMEOUT (R345). -/
def execFabricReqTimeout (h : HalfId) (tag : Nat) (s : State) : Out := s.onBlkTidyAt (fun t b => b.fabTimeout t h tag)

/-- PORT_DOWN (R351). -/
def execPortDown (h : HalfId) (port : Nat) (tags : List Nat) (s : State) : Out := s.onBlkTidy (fun b => b.portDown h port tags)

/-- UNREACH_PING (R352). -/
def execUnreachPing (h : HalfId) (pkg : Nat) (s : State) : Out := s.onTidy (fun m => m.unreachPing h pkg)

/-- PATH_DRAIN_END (R336). -/
def execPathDrainEnd (h : HalfId) (pkg : Nat) (s : State) : Out := s.onTidy (fun m => m.drainEnd h pkg)

/-- FAB_GRANT_WRITE (R338). -/
def execFabGrantWrite (via : Via) (h : HalfId) (value : Nat) (s : State) : Out :=
  s.onMach (fun m => m.viaAt via h 0x0500040 (fun k => k.regAct via h 0x0500040 (2 ^ 64 - 1) value))

end Sys2Proof.Machine
end

