-- ==== Sys2Proof/Machine/ExecHost.lean ====
section
/-! DEFINITION. Meanings of the commands of host links, functions, the Memory Window and time (chapters 13 and 14). -/
namespace Sys2Proof.Machine

/-- HL_UP (R34). -/
def execHlUp (port : Nat) (s : State) : Out := s.onBlkAt (fun t b => b.hlUp t port)

/-- HL_RETRAIN (R210). -/
def execHlRetrain (port : Nat) (active : Bool) (s : State) : Out := s.onBlk (fun b => b.hlRetrain port active)

/-- HL_DOWN (R211). -/
def execHlDown (port : Nat) (s : State) : Out := s.onTidy (fun m => m.hlDown port)

/-- HL_HOT_RESET (R211). -/
def execHlHotReset (port : Nat) (s : State) : Out := s.onTidy (fun m => m.hlHotReset port)

/-- CONTAIN_REARM (R213). -/
def execContainRearm (via : Via) (port : Nat) (discard : Bool) (s : State) : Out :=
  s.onTidy (fun m => m.viaAt via (HalfId.ofPort port) (0x0200010 + 8 * (port % 2)) (fun k => k.containRearm port discard))

/-- HL_LP_STATE_CHANGE (R381). -/
def execHlLpStateChange (port : Nat) (state : Nat) (s : State) : Out := s.onBlkAt (fun t b => b.lpChange t port state)

/-- LINK_L0P_REQUEST (R381). -/
def execLinkL0pRequest (port : Nat) (s : State) : Out := s.onBlk (fun b => b.l0pRequest port)

/-- LINK_L1_REQUEST (R381). -/
def execLinkL1Request (port : Nat) (s : State) : Out := s.onBlk (fun b => b.l1Request port)

/-- LINK_POWER_REQUEST_TIMEOUT (R382). -/
def execLinkPowerRequestTimeout (port : Nat) (s : State) : Out := s.onBlk (fun b => b.lpTimeout port)

/-- BUS_MASTER_ENABLE_CLEAR (R504). -/
def execBusMasterEnableClear (port : Nat) (vf : Nat) (s : State) : Out := s.onBlk (fun b => b.bmeClear port vf)

/-- BUS_MASTER_ENABLE_SET (R504). -/
def execBusMasterEnableSet (port : Nat) (vf : Nat) (s : State) : Out := s.onTidy (fun m => m.bmeSet port vf)

/-- BOND_WRITE (R363). -/
def execBondWrite (via : Via) (h : HalfId) (value : Nat) (s : State) : Out :=
  s.onMach (fun m => m.viaAt via h 0x0600010 (fun k => { k with blk := k.blk.bondWrite k.clk via h value }))

/-- MEMORY_WINDOW_WRITE (R367). -/
def execMemoryWindowWrite (via : Via) (pasid : Option Nat) (tag : Nat) (off : Nat) (data : List Byte) (poison : Bool) (s : State) : Out :=
  s.onTidy (fun m => m.mwWrite via pasid tag off data poison)

/-- MEMORY_WINDOW_READ (R367). -/
def execMemoryWindowRead (via : Via) (pasid : Option Nat) (tag : Nat) (off : Nat) (len : Nat) (s : State) : Out :=
  s.onTidy (fun m => m.mwRead via pasid tag off len)

/-- PEER_ZERO_LENGTH_READ (R375). -/
def execPeerZeroLengthRead (via : Via) (pasid : Option Nat) (off : Nat) (s : State) : Out := s.onMach (fun m => m.zeroRead via pasid off)

/-- PTM_EXCHANGE (R379). -/
def execPtmExchange (h : HalfId) (s : State) : Out := s.onBlk (fun b => b.ptmExchange h)

/-- PTM_RESPONSE (R379). -/
def execPtmResponse (h : HalfId) (master : Nat) (s : State) : Out := s.onClk (fun m => m.ptmResponse h master)

/-- PTM_SYNC_LOST (R380). -/
def execPtmSyncLost (h : HalfId) (s : State) : Out := s.onBlk (fun b => b.ptmLost h)

/-- D3HOT_ENTRY (R455). -/
def execD3hotEntry (port : Nat) (vf : Nat) (s : State) : Out := s.onBlk (fun b => b.d3hotEntry port vf)

/-- D0_RETURN (R455). -/
def execD0Return (port : Nat) (vf : Nat) (s : State) : Out := s.onTidy (fun m => m.d0Return port vf)

/-- FUNCTION_LEVEL_RESET (R398). -/
def execFunctionLevelReset (port : Nat) (vf : Nat) (s : State) : Out := s.onTidy (fun m => m.flr port vf)

/-- VF_ENABLE_CLEAR (R397). -/
def execVfEnableClear (port : Nat) (s : State) : Out := s.onTidy (fun m => m.vfEnableClear port)

/-- PARTITION_RESET_COMPLETE (R398). -/
def execPartitionResetComplete (h : HalfId) (part : Nat) (s : State) : Out := s.onTidy (fun m => m.resetComplete h part)

/-- FRAME_RECLAIM_DONE (R398). -/
def execFrameReclaimDone (h : HalfId) (part : Nat) (s : State) : Out := s.onTidy (fun m => m.reclaimDone h part)

end Sys2Proof.Machine
end

