-- ==== Sys2Proof/Machine/ExecIsland.lean ====
section
/-! DEFINITION. Meanings of the commands of islands, crossings, plans and QoS ticks. -/
namespace Sys2Proof.Machine

/-- CROSSING_ENTRY_DELIVERY (R20). -/
def execCrossingEntryDelivery (h : HalfId) (island : Nat) (s : State) : Out := s.onBlk (fun b => b.crossing h island)

/-- ISLAND_CLOCK_GATE (R452). -/
def execIslandClockGate (h : HalfId) (island : Nat) (s : State) : Out := s.onHalf h (fun x => x.clockGate island)

/-- ISLAND_RETENTION_ENTRY (R452). -/
def execIslandRetentionEntry (h : HalfId) (island : Nat) (s : State) : Out := s.onHalf h (fun x => x.retain island)

/-- QOS_LEASE_GRANT (R394). -/
def execQosLeaseGrant (h : HalfId) (cls : Nat) (point : Nat) (part : Nat) (s : State) : Out :=
  s.onHalf h (fun x => x.leaseGrant cls point part)

/-- QOS_REFILL_TICK (R392). -/
def execQosRefillTick (h : HalfId) (s : State) : Out := s.onHalf h (fun x => x.refillTick)

/-- PLAN_MOVE_CLOCK_SWITCH (R28). -/
def execPlanMoveClockSwitch (h : HalfId) (island : Nat) (s : State) : Out := s.onBlk (fun b => b.planSwitch h island)

/-- PLAN_MOVE_VOLTAGE_STEP (R28). -/
def execPlanMoveVoltageStep (h : HalfId) (island : Nat) (s : State) : Out := s.onHalfAt h (fun now x => x.planVoltage now island)

end Sys2Proof.Machine
end

