-- ==== Sys2Proof/Machine/ExecOptical.lean ====
section
/-! DEFINITION. Meanings of the commands of optical lanes (chapters 2 and 12). -/
namespace Sys2Proof.Machine

/-- LANE_HEALTH_RECORD (R41). -/
def execLaneHealthRecord (h : HalfId) (port : Nat) (lane : Nat) (rec : Nat) (s : State) : Out :=
  s.onHalfAt h (fun now x => x.laneRecord now port lane rec)

/-- LANE_HEALTH_EVAL (R347). -/
def execLaneHealthEval (h : HalfId) (s : State) : Out := s.onBlkAt (fun t b => b.laneEval t h)

/-- LANE_MAP_CONFIRM (R40). -/
def execLaneMapConfirm (h : HalfId) (port : Nat) (s : State) : Out := s.onBlkAt (fun t b => b.laneConfirm t h port)

/-- LSWAP (R348). -/
def execLswap (h : HalfId) (port : Nat) (lane : Nat) (spare : Nat) (s : State) : Out := s.onBlk (fun b => b.lswap h port lane spare)

/-- LSWAP_ACK (R348). -/
def execLswapAck (h : HalfId) (port : Nat) (s : State) : Out := s.onBlk (fun b => b.lswapAck h port)

end Sys2Proof.Machine
end

