-- ==== Sys2Proof/Machine/ExecPacket.lean ====
section
/-! DEFINITION. Meanings of the commands of user packets (chapters 4 to 10). -/
namespace Sys2Proof.Machine

/-- NOP (R82). -/
def execNop (queue : Nat) (hdr : Hdr) (s : State) : Out := s.packet queue 0x00 hdr []

/-- COPY (R197). -/
def execCopy (queue : Nat) (hdr : Hdr) (body : CopyBody) (s : State) : Out := s.packet queue 0x01 hdr body.args

/-- FILL (R197). -/
def execFill (queue : Nat) (hdr : Hdr) (body : FillBody) (s : State) : Out := s.packet queue 0x02 hdr body.args

/-- WRITE_INLINE (R197). -/
def execWriteInline (queue : Nat) (hdr : Hdr) (body : InlineBody) (s : State) : Out := s.packet queue 0x03 hdr body.args

/-- COPY_TILED (R198). -/
def execCopyTiled (queue : Nat) (hdr : Hdr) (body : TiledBody) (s : State) : Out := s.packet queue 0x04 hdr body.args

/-- GATHER (R199). -/
def execGather (queue : Nat) (hdr : Hdr) (body : IndexedBody) (s : State) : Out := s.packet queue 0x05 hdr body.args

/-- SCATTER (R199). -/
def execScatter (queue : Nat) (hdr : Hdr) (body : IndexedBody) (s : State) : Out := s.packet queue 0x06 hdr body.args

/-- FENCE_SIGNAL (R113). -/
def execFenceSignal (queue : Nat) (hdr : Hdr) (body : SignalBody) (s : State) : Out := s.packet queue 0x10 hdr body.args

/-- FENCE_WAIT (R115). -/
def execFenceWait (queue : Nat) (hdr : Hdr) (body : WaitBody) (s : State) : Out := s.packet queue 0x11 hdr body.args

/-- EVENT_RAISE (R119). -/
def execEventRaise (queue : Nat) (hdr : Hdr) (body : EventBody) (s : State) : Out := s.packet queue 0x12 hdr body.args

/-- TRANSFORM (R235). -/
def execTransform (queue : Nat) (hdr : Hdr) (body : TransformBody) (s : State) : Out := s.packet queue 0x18 hdr body.args

/-- REDUCE (R245). -/
def execReduce (queue : Nat) (hdr : Hdr) (body : ReduceBody) (s : State) : Out := s.packet queue 0x19 hdr body.args

/-- ROUTE_DISPATCH (R250). -/
def execRouteDispatch (queue : Nat) (hdr : Hdr) (body : RouteBody) (s : State) : Out := s.packet queue 0x1A hdr (0 :: body.args)

/-- ROUTE_RETURN (R251). -/
def execRouteReturn (queue : Nat) (hdr : Hdr) (body : RouteBody) (s : State) : Out := s.packet queue 0x1A hdr (1 :: body.args)

/-- ROUTE_COMBINE (R252). -/
def execRouteCombine (queue : Nat) (hdr : Hdr) (body : RouteBody) (s : State) : Out := s.packet queue 0x1A hdr (2 :: body.args)

/-- DRAFT_OPEN (R263). -/
def execDraftOpen (queue : Nat) (hdr : Hdr) (body : OpenBody) (s : State) : Out := s.packet queue 0x20 hdr body.args

/-- DRAFT_SEND (R267). -/
def execDraftSend (queue : Nat) (hdr : Hdr) (body : SendBody) (s : State) : Out := s.packet queue 0x21 hdr body.args

/-- DRAFT_CLOSE (R271). -/
def execDraftClose (queue : Nat) (hdr : Hdr) (body : CloseBody) (s : State) : Out := s.packet queue 0x22 hdr body.args

/-- MAP (R157). -/
def execMap (queue : Nat) (hdr : Hdr) (body : MapBody) (s : State) : Out := s.packet queue 0x30 hdr body.args

/-- UNMAP (R180). -/
def execUnmap (queue : Nat) (hdr : Hdr) (body : RangeBody) (s : State) : Out := s.packet queue 0x31 hdr body.args

/-- INVALIDATE_RANGE (R180). -/
def execInvalidateRange (queue : Nat) (hdr : Hdr) (body : RangeBody) (s : State) : Out := s.packet queue 0x32 hdr body.args

/-- PIN (R158). -/
def execPin (queue : Nat) (hdr : Hdr) (body : RangeBody) (s : State) : Out := s.packet queue 0x33 hdr body.args

/-- UNPIN (R160). -/
def execUnpin (queue : Nat) (hdr : Hdr) (body : RangeBody) (s : State) : Out := s.packet queue 0x34 hdr body.args

/-- ALLOC (R122). -/
def execAlloc (queue : Nat) (hdr : Hdr) (body : AllocBody) (s : State) : Out := s.packet queue 0x38 hdr body.args

/-- FREE (R121). -/
def execFree (queue : Nat) (hdr : Hdr) (body : FreeBody) (s : State) : Out := s.packet queue 0x39 hdr body.args

/-- PREFETCH_STREAM (R282). -/
def execPrefetchStream (queue : Nat) (hdr : Hdr) (body : PrefetchBody) (s : State) : Out := s.packet queue 0x40 hdr (body.args false)

/-- PREFETCH_STREAM_STOP (R282). -/
def execPrefetchStreamStop (queue : Nat) (hdr : Hdr) (body : PrefetchBody) (s : State) : Out := s.packet queue 0x40 hdr (body.args true)

/-- QUERY_CAPABILITY (R126). -/
def execQueryCapability (queue : Nat) (hdr : Hdr) (body : QueryBody) (s : State) : Out := s.packet queue 0x50 hdr (0 :: body.args)

/-- QUERY_CONTEXT (R126). -/
def execQueryContext (queue : Nat) (hdr : Hdr) (body : QueryBody) (s : State) : Out := s.packet queue 0x50 hdr (1 :: body.args)

/-- QUERY_ALLOCATOR (R126). -/
def execQueryAllocator (queue : Nat) (hdr : Hdr) (body : QueryBody) (s : State) : Out := s.packet queue 0x50 hdr (2 :: body.args)

end Sys2Proof.Machine
end

