-- ==== Sys2Proof/Machine/ExecPower.lean ====
section
/-! DEFINITION. Meanings of the commands of supplies, sprint, telemetry and deep idle (chapters 1 and 17). -/
namespace Sys2Proof.Machine

/-- SPRINT_REQUEST (R29). -/
def execSprintRequest (h : HalfId) (quad : Nat) (s : State) : Out := s.onBlkAt (fun t b => b.sprintRequest t h quad)

/-- LOAD_STEP_ACK (R29). -/
def execLoadStepAck (h : HalfId) (frame : Nat) (s : State) : Out := s.onHalfAt h (fun now x => x.loadStepAck now frame)

/-- SPRINT_ENTRY (R29). -/
def execSprintEntry (h : HalfId) (quad : Nat) (s : State) : Out := s.onHalfAt h (fun now x => x.sprintEntry now quad)

/-- SPRINT_ACK_TIMEOUT (R29). -/
def execSprintAckTimeout (h : HalfId) (quad : Nat) (s : State) : Out := s.onHalfAt h (fun now x => x.sprintAckTimeout now quad)

/-- SPRINT_BUDGET_EXPIRY (R29). -/
def execSprintBudgetExpiry (h : HalfId) (quad : Nat) (s : State) : Out := s.onBlkAt (fun t b => b.sprintBudget t h quad)

/-- SPRINT_DWELL_EXPIRY (R222). -/
def execSprintDwellExpiry (h : HalfId) (quad : Nat) (s : State) : Out := s.onBlkAt (fun t b => b.sprintRequest t h quad)

/-- BROWNOUT_HOLD_ENTRY (R446). -/
def execBrownoutHoldEntry (h : HalfId) (s : State) : Out := s.onBlkAt (fun t b => b.holdEntry t h)

/-- BROWNOUT_HOLD_RELEASE (R447). -/
def execBrownoutHoldRelease (h : HalfId) (s : State) : Out := s.onHalfAt h (fun now x => x.holdRelease now)

/-- PWR_FAIL (R449). -/
def execPwrFail (h : HalfId) (s : State) : Out := s.onHalfAt h (fun now x => x.pwrFail now)

/-- TELEMETRY_VOLTAGE (R44). -/
def execTelemetryVoltage (h : HalfId) (frame : Nat) (s : State) : Out := s.onHalfAt h (fun now x => x.telemetryVoltage now frame)

/-- TELEMETRY_CURRENT (R44). -/
def execTelemetryCurrent (h : HalfId) (frame : Nat) (s : State) : Out := s.onHalf h (fun x => x.telemetryCurrent frame)

/-- SUPERVISOR_FRAME_DISCARD (R44). -/
def execSupervisorFrameDiscard (h : HalfId) (frame : Nat) (stopOk : Bool) (s : State) : Out :=
  s.onHalf h (fun x => x.supDiscard frame stopOk)

/-- STAGE_CURRENT_LIMIT (R450). -/
def execStageCurrentLimit (h : HalfId) (frame : Nat) (s : State) : Out := s.onBlkAt (fun t b => b.stageLimit t h frame)

/-- TELEMETRY_LOSS (R45). -/
def execTelemetryLoss (h : HalfId) (s : State) : Out := s.onBlkAt (fun t b => b.telemetryLoss t h)

/-- ISSUE_RAMP_STEP (R450). -/
def execIssueRampStep (h : HalfId) (group : Nat) (s : State) : Out := s.onHalf h (fun x => x.rampStep group)

/-- THERMAL_SAMPLE (R451). -/
def execThermalSample (h : HalfId) (temps : List Nat) (s : State) : Out := s.onBlkAt (fun t b => b.thermalSample t h temps)

/-- DEEP_IDLE_ENTRY (R454). -/
def execDeepIdleEntry (h : HalfId) (s : State) : Out := s.onBlkAt (fun t b => b.deepIdle t h)

/-- DEEP_IDLE_WAKE (R454). -/
def execDeepIdleWake (h : HalfId) (s : State) : Out := s.onHalfAt h (fun now x => x.deepIdleLeave now)

/-- PWR_WARN_FALL (R448). -/
def execPwrWarnFall (h : HalfId) (failLine : Bool) (s : State) : Out := s.onHalfAt h (fun now x => x.pwrWarnFall now failLine)

end Sys2Proof.Machine
end

