-- ==== Sys2Proof/Machine/ExecQueue.lean ====
section
/-! DEFINITION. Meanings of the commands of queues, packets, replies and messages (chapters 4 and 14). -/
namespace Sys2Proof.Machine

/-- DOORBELL (R90). -/
def execDoorbell (via : Via) (queue : Nat) (value : Nat) (s : State) : Out :=
  s.onMach (fun m => m.doorbellAt via queue (fun b => b.doorbell via queue value))

/-- CQ_HEAD_WRITE (R98). -/
def execCqHeadWrite (via : Via) (queue : Nat) (value : Nat) (s : State) : Out :=
  s.onMach (fun m => m.doorbellAt via queue (fun b => b.cqHead via queue value))

/-- PACKET_FETCH (R101). -/
def execPacketFetch (queue : Nat) (s : State) : Out := s.onBlk (fun b => b.packetFetch queue)

/-- PACKET_FETCH_COMPLETE (R94). -/
def execPacketFetchComplete (queue : Nat) (s : State) : Out := s.onMach (fun m => m.fetchComplete queue)

/-- FETCH_ERROR (R93). -/
def execFetchError (queue : Nat) (what : Nat) (s : State) : Out := s.onBlk (fun b => b.fetchError queue what)

/-- PACKET_DISPATCH (R97). -/
def execPacketDispatch (h : HalfId) (s : State) : Out := s.onTidy (fun m => m.packetDispatch h)

/-- PACKET_COMPLETE (R202). -/
def execPacketComplete (queue : Nat) (slot : Nat) (s : State) : Out := s.onTidy (fun m => m.packetDone queue slot)

/-- SIGNAL_TRAILER (R79). -/
def execSignalTrailer (queue : Nat) (slot : Nat) (s : State) : Out := s.onTidy (fun m => m.signalTrailer queue slot false)

/-- REPLY_WRITE (R80). -/
def execReplyWrite (queue : Nat) (s : State) : Out := s.onMach (fun m => m.replyWrite queue)

/-- INDEX_WORD_WRITE (R99). -/
def execIndexWordWrite (queue : Nat) (s : State) : Out := s.onMach (fun m => m.indexWrite queue)

/-- MSIX_SEND (R389). -/
def execMsixSend (port : Nat) (part : Nat) (vec : Nat) (s : State) : Out := s.onBlk (fun b => b.msixSend port part vec)

/-- MSIX_HOLDOFF_EXPIRY (R389). -/
def execMsixHoldoffExpiry (port : Nat) (part : Nat) (vec : Nat) (s : State) : Out := s.onBlk (fun b => b.holdoff port part vec)

/-- MSIX_UNMASK (R389). -/
def execMsixUnmask (port : Nat) (part : Nat) (vec : Nat) (s : State) : Out := s.onBlk (fun b => b.msixUnmask port part vec)

/-- ADMIN_QUEUE_ENABLE (R91). -/
def execAdminQueueEnable (via : Via) (h : HalfId) (s : State) : Out :=
  s.onMach (fun m => m.viaAt via h 0x0030018 (fun k => { k with blk := k.blk.adminCtrl k.clk via h 1 1 }))

/-- ADMIN_QUEUE_DISABLE (R91). -/
def execAdminQueueDisable (via : Via) (h : HalfId) (s : State) : Out :=
  s.onTidy (fun m => m.viaAt via h 0x0030018 (fun k => { k with blk := k.blk.adminCtrl k.clk via h 1 0 }))

/-- QUEUE_RESUME (R93). -/
def execQueueResume (via : Via) (queue : Nat) (s : State) : Out :=
  s.onMach (fun m => m.viaAt via (m.blk.viaHalf via) 0x0030020 (fun k => { k with blk := k.blk.queueResume via queue }))

end Sys2Proof.Machine
end

