-- ==== Sys2Proof/Machine/ExecReg.lean ====
section
/-! DEFINITION. Meanings of the commands of register accesses (chapters 1 and 20). -/
namespace Sys2Proof.Machine

/-- REGISTER_WRITE (R13). -/
def execRegisterWrite (via : Via) (off : Nat) (value : Nat) (wide : Bool) (s : State) : Out :=
  s.onMach (fun m => if heavyReg off then (m.registerWrite via off value wide).tidy else m.registerWrite via off value wide)

/-- MISALIGNED_REGISTER_ACCESS (R12). -/
def execMisalignedRegisterAccess (via : Via) (off : Nat) (write : Bool) (s : State) : Out :=
  s.onMach (fun m => m.viaGate via off (fun k => { k with blk := k.blk.misaligned via off write }))

/-- LOCK_SET (R498). -/
def execLockSet (via : Via) (h : HalfId) (s : State) : Out :=
  s.onMach (fun m => m.viaAt via h 0x0010008 (fun k => { k with blk := k.blk.lockSet k.clk via h }))

/-- MCTP_REGISTER_MESSAGE (R438). -/
def execMctpRegisterMessage (h : HalfId) (endpoint : Nat) (off : Nat) (value : Option Nat) (s : State) : Out :=
  s.onMach (fun m => m.mctpMessage h endpoint off value)

end Sys2Proof.Machine
end

