-- ==== Sys2Proof/Machine/ExecReset.lean ====
section
/-! DEFINITION. Meanings of the commands of clocks, resets and bring-up (chapters 2 and 18). -/
namespace Sys2Proof.Machine

/-- BLK_REFCLK_LOSS (R51). -/
def execBlkRefclkLoss (h : HalfId) (s : State) : Out := s.onClk (fun m => { m with clk := m.clk.stop h, blk := m.blk.refclkLoss h })

/-- BLK_REFCLK_RETURN (R51). -/
def execBlkRefclkReturn (h : HalfId) (s : State) : Out :=
  s.onClk (fun m => { m with clk := m.clk.start h, blk := m.blk.upd h Half.refclkReturn })

/-- LOGIC_PWRGOOD_FALL (R52). -/
def execLogicPwrgoodFall (h : HalfId) (s : State) : Out := s.onClk (fun m => { m with clk := m.clk.stop h, blk := m.blk.pwrgoodFall h })

/-- LOGIC_PWRGOOD_RISE (R53). -/
def execLogicPwrgoodRise (h : HalfId) (s : State) : Out :=
  s.onClk (fun m => { m with clk := m.clk.zero h (m.blk.half h).pins.refclk, blk := m.blk.upd h Half.pwrgoodRise })

/-- PKG_RST_N_ASSERT (R52). -/
def execPkgRstNAssert (s : State) : Out := s.onBlk (fun b => b.pkgReset)

/-- HALF_RST_N_ASSERT (R52). -/
def execHalfRstNAssert (h : HalfId) (s : State) : Out := s.onBlk (fun b => b.halfRst h)

/-- RESET_RELEASE (R53). -/
def execResetRelease (h : HalfId) (s : State) : Out := s.onBlkAt (fun t b => b.resetRelease t h)

/-- BISQUE_SERVICE_READY (R462). -/
def execBisqueServiceReady (h : HalfId) (s : State) : Out := s.onBlk (fun b => b.bisqueReady h)

/-- MEMORY_TRAINING_COMPLETE (R462). -/
def execMemoryTrainingComplete (h : HalfId) (trained : Nat) (s : State) : Out := s.onHalf h (fun x => x.memTrained trained)

/-- GLAZE_SERVICE_ENTRY (R462). -/
def execGlazeServiceEntry (h : HalfId) (readings : List ConeReading) (s : State) : Out := s.onBlkAt (fun t b => b.glazeEntry t h readings)

end Sys2Proof.Machine
end

