-- ==== Sys2Proof/Machine/ExecSecurity.lean ====
section
/-! DEFINITION. Meanings of the commands of security (chapter 15). -/
namespace Sys2Proof.Machine

/-- SPDM_GET_CERTIFICATE (R403). -/
def execSpdmGetCertificate (h : HalfId) (transport : Transport) (slot : Nat) (s : State) : Out :=
  s.onBlk (fun b => b.spdmCert h transport slot)

/-- SPDM_CHALLENGE (R404). -/
def execSpdmChallenge (h : HalfId) (transport : Transport) (slot : Nat) (nonce : List Byte) (s : State) : Out :=
  s.onBlk (fun b => b.spdmChallenge h transport slot nonce)

/-- SPDM_MEASUREMENTS (R406). -/
def execSpdmMeasurements (h : HalfId) (transport : Transport) (index : Nat) (signed : Bool) (nonce : List Byte) (s : State) : Out :=
  s.onBlk (fun b => b.spdmMeasure h transport index signed nonce)

/-- SPDM_KEY_EXCHANGE (R405). -/
def execSpdmKeyExchange (h : HalfId) (transport : Transport) (s : State) : Out := s.onBlkAt (fun t b => b.spdmOpen t h transport)

/-- SPDM_KEY_UPDATE (R404). -/
def execSpdmKeyUpdate (h : HalfId) (session : Nat) (s : State) : Out := s.onBlkAt (fun t b => b.spdmUpdate t h session)

/-- SPDM_HEARTBEAT (R404). -/
def execSpdmHeartbeat (h : HalfId) (session : Nat) (s : State) : Out := s.onBlkAt (fun t b => b.spdmBeat t h session)

/-- SPDM_HEARTBEAT_TIMEOUT (R405). -/
def execSpdmHeartbeatTimeout (h : HalfId) (session : Nat) (s : State) : Out := s.onBlk (fun b => b.spdmLapse h session)

/-- SPDM_END_SESSION (R405). -/
def execSpdmEndSession (h : HalfId) (session : Nat) (s : State) : Out := s.onBlk (fun b => b.spdmEnd h session)

/-- KEY_STAGE (R415). -/
def execKeyStage (h : HalfId) (session : Nat) (ctx : Nat) (epoch : Nat) (key : Nat) (s : State) : Out :=
  s.onBlkAt (fun t b => b.keyStage t h session ctx epoch key)

/-- DEBUG_NONCE (R420). -/
def execDebugNonce (h : HalfId) (session : Nat) (s : State) : Out := s.onBlkAt (fun t b => b.debugNonce t h session)

/-- DEBUG_NONCE_LAPSE (R420). -/
def execDebugNonceLapse (h : HalfId) (s : State) : Out := s.onBlk (fun b => b.nonceLapse h)

/-- DEBUG_UNLOCK (R420). -/
def execDebugUnlock (h : HalfId) (session : Nat) (token : List Byte) (s : State) : Out :=
  s.onBlkAt (fun t b => b.debugUnlock t h session token)

/-- DEBUG_LOCK (R421). -/
def execDebugLock (h : HalfId) (session : Nat) (s : State) : Out := s.onBlkAt (fun t b => b.debugLock t h session)

/-- DEBUG_RELOCK (R421). -/
def execDebugRelock (via : Via) (h : HalfId) (s : State) : Out :=
  s.onMach (fun m => m.viaAt via h 0x0800008 (fun k => { k with blk := k.blk.debugRelock k.clk via h }))

end Sys2Proof.Machine
end

