-- ==== Sys2Proof/Machine/ExecTandem.lean ====
section
/-! DEFINITION. Meanings of the commands of the Tandem pair (chapter 3). -/
namespace Sys2Proof.Machine

/-- HELLO_SEND (R56). -/
def execHelloSend (h : HalfId) (s : State) : Out := s.onBlk (fun b => b.helloSend h)

/-- HELLO (R56). -/
def execHello (h : HalfId) (frame : HelloFrame) (s : State) : Out := s.onBlkTidy (fun b => b.helloIn h frame)

/-- HELLO_ACK (R57). -/
def execHelloAck (h : HalfId) (frame : HelloFrame) (s : State) : Out := s.onBlkTidy (fun b => b.helloAckIn h frame)

/-- PAIRING_WINDOW_CLOSE (R56). -/
def execPairingWindowClose (h : HalfId) (s : State) : Out := s.onTidy (fun m => m.windowClose h)

/-- HEARTBEAT_SEND (R63). -/
def execHeartbeatSend (h : HalfId) (s : State) : Out := s.onBlkAt (fun t b => b.heartbeatSend t h)

/-- HEARTBEAT (R501). -/
def execHeartbeat (h : HalfId) (time : Nat) (_state : Nat) (s : State) : Out := s.onClk (fun m => m.heartbeat h time)

/-- PARTNER_SILENT (R63). -/
def execPartnerSilent (h : HalfId) (s : State) : Out := s.onBlkAt (fun t b => b.silent t h)

/-- TDM_PHY_DOWN (R42). -/
def execTdmPhyDown (h : HalfId) (s : State) : Out := s.onBlkAt (fun t b => b.phyDown t h)

/-- LIVENESS_WRITE (R64). -/
def execLivenessWrite (h : HalfId) (s : State) : Out := s.onMach (fun m => m.livenessWrite h)

/-- LIVENESS_PROBE_RESULT (R64). -/
def execLivenessProbeResult (h : HalfId) (probe1 : Option Nat) (probe2 : Option Nat) (s : State) : Out :=
  s.onBlkTidy (fun b => b.probeResult h probe1 probe2)

/-- FREEWHEEL_ENTRY (R66). -/
def execFreewheelEntry (h : HalfId) (s : State) : Out := s.onTidy (fun m => m.freewheelEntry h)

/-- MIRROR (R61). -/
def execMirror (h : HalfId) (seq : Nat) (rec : MirrorRec) (s : State) : Out := s.onBlk (fun b => b.mirrorIn h seq rec)

/-- MIRROR_ACK (R62). -/
def execMirrorAck (h : HalfId) (seq : Nat) (s : State) : Out := s.onBlk (fun b => b.mirrorAckIn h seq)

/-- DOORBELL_FWD (R60). -/
def execDoorbellFwd (h : HalfId) (queue : Nat) (pidx : Nat) (s : State) : Out := s.onBlk (fun b => b.doorbellFwd h queue pidx)

/-- XREQ (R55). -/
def execXreq (h : HalfId) (tag : Nat) (req : XReq) (s : State) : Out := s.onTidy (fun m => m.xreq h tag req)

/-- XRSP (R55). -/
def execXrsp (h : HalfId) (tag : Nat) (_data : Nat) (s : State) : Out := s.onBlk (fun b => b.xrspIn h tag)

/-- INVAL (R185). -/
def execInval (h : HalfId) (seq : Nat) (flags : Nat) (ctx : Nat) (va : Nat) (pages : Nat) (s : State) : Out :=
  s.onBlkTidy (fun b => b.inval h seq flags ctx va pages)

/-- INVAL_ACK (R185). -/
def execInvalAck (h : HalfId) (seq : Nat) (phase : Nat) (result : Nat) (port : Nat) (s : State) : Out :=
  s.onBlkTidy (fun b => b.invalAck h seq phase result port)

/-- OFFLINE (R72). -/
def execOffline (h : HalfId) (s : State) : Out := s.onTidy (fun m => m.offlineIn h)

/-- ONLINE (R73). -/
def execOnline (h : HalfId) (s : State) : Out := s.onBlkTidy (fun b => b.onlineIn h)

/-- HALF_OFFLINE (R72). -/
def execHalfOffline (queue : Nat) (hdr : Hdr) (body : HalfBody) (s : State) : Out := s.packet queue 0x6A hdr body.args

/-- HALF_OFFLINE_DRAIN_EXPIRY (R72). -/
def execHalfOfflineDrainExpiry (h : HalfId) (s : State) : Out := s.onBlkTidy (fun b => b.offlineExpiry h)

/-- HALF_ONLINE (R73). -/
def execHalfOnline (queue : Nat) (hdr : Hdr) (s : State) : Out := s.packet queue 0x6B hdr []

/-- QUEUE_REHOME (R73). -/
def execQueueRehome (queue : Nat) (s : State) : Out := s.onBlk (fun b => b.rehome queue)

/-- PAIR_RESET (R75). -/
def execPairReset (via : Via) (h : HalfId) (value : Nat) (s : State) : Out :=
  s.onMach (fun m => m.viaAt via h 0x0010018 (fun k => { k with blk := k.blk.pairReset k.clk via h value }))

end Sys2Proof.Machine
end

