-- ==== Sys2Proof/Machine/ExecWalk.lean ====
section
/-! DEFINITION. Meanings of the commands of translation, faults and invalidation (chapters 6 and 7). -/
namespace Sys2Proof.Machine

/-- WALK_START (R144). -/
def execWalkStart (h : HalfId) (s : State) : Out := s.onHalf h (fun x => x.walkStart)

/-- WALK_GROUP_READ (R140). -/
def execWalkGroupRead (h : HalfId) (spoke : Nat) (ok : Bool) (s : State) : Out := s.onTidy (fun m => m.walkGroup h spoke ok)

/-- AD_UPDATE_CAS (R139). -/
def execAdUpdateCas (h : HalfId) (spoke : Nat) (ok : Bool) (s : State) : Out := s.onTidy (fun m => m.walkCas h spoke ok)

/-- SPOKE_FAIL (R143). -/
def execSpokeFail (h : HalfId) (spoke : Nat) (s : State) : Out := s.onHalf h (fun x => x.spokeFail spoke)

/-- HOLDER_SPAN_RELEASE (R146). -/
def execHolderSpanRelease (h : HalfId) (holder : Nat) (s : State) : Out := s.onHalf h (fun x => x.spanRelease holder)

/-- ATS_COMPLETION (R148). -/
def execAtsCompletion (h : HalfId) (holder : Nat) (addr : Nat) (pages : Nat) (rd : Bool) (wr : Bool) (s : State) : Out :=
  s.onHalf h (fun x => x.atsCompletion holder addr pages rd wr)

/-- XT_REQ (R154). -/
def execXtReq (h : HalfId) (port : Nat) (acc : Nat) (tid : Nat) (ctx : Nat) (va : Nat) (s : State) : Out :=
  s.onTidy (fun m => m.xtReq h port acc tid ctx va)

/-- CHIPLET_UNTRANSLATED_ACCESS (R154). -/
def execChipletUntranslatedAccess (h : HalfId) (port : Nat) (ctx : Nat) (write : Bool) (va : Nat) (len : Nat) (data : List Byte) (s : State) : Out :=
  s.onTidy (fun m => m.chipUntranslated h port ctx write va len data)

/-- CHIPLET_TRANSLATED_ACCESS (R156). -/
def execChipletTranslatedAccess (h : HalfId) (port : Nat) (ctx : Nat) (fabric : Bool) (write : Bool) (addr : Nat) (len : Nat) (data : List Byte) (s : State) : Out :=
  s.onTidy (fun m => m.chipTranslated h port ctx fabric write addr len data)

/-- PAGE_REQUEST_ISSUE (R169). -/
def execPageRequestIssue (port : Nat) (vf : Nat) (s : State) : Out := s.onMach (fun m => m.pageRequest port vf)

/-- PRG_RESPONSE (R170). -/
def execPrgResponse (port : Nat) (vf : Nat) (prg : Nat) (code : PrgCode) (s : State) : Out :=
  s.onTidy (fun m => m.prgResponse port vf prg code)

/-- PRI_TIMEOUT (R170). -/
def execPriTimeout (h : HalfId) (chan : Nat) (s : State) : Out := s.onTidy (fun m => m.priTimeout h chan)

/-- ALLOCATOR_FAULT_ANSWER (R171). -/
def execAllocatorFaultAnswer (h : HalfId) (chan : Nat) (s : State) : Out := s.onTidy (fun m => m.allocatorAnswer h chan)

/-- HOLDER_RECALL_ACK (R182). -/
def execHolderRecallAck (h : HalfId) (holder : Nat) (s : State) : Out := s.onBlkTidy (fun b => b.recallAck h holder)

/-- XT_INV_ACK (R184). -/
def execXtInvAck (h : HalfId) (port : Nat) (itag : Nat) (fence : Bool) (s : State) : Out :=
  s.onBlkTidy (fun b => b.xtInvAck h port itag fence)

/-- CHIPLET_ACK_TIMEOUT (R187). -/
def execChipletAckTimeout (h : HalfId) (port : Nat) (itag : Nat) (s : State) : Out := s.onTidy (fun m => m.chipAckTimeout h port itag)

/-- INVALIDATION_COMPLETE (R186). -/
def execInvalidationComplete (h : HalfId) (s : State) : Out := s.onBlkTidy (fun b => b.invComplete h)

/-- REGISTER_INVALIDATE (R188). -/
def execRegisterInvalidate (via : Via) (h : HalfId) (s : State) : Out :=
  s.onTidy (fun m => m.viaAt via h 0x0100118 (fun k => { k with blk := k.blk.regInval h }))

/-- ATS_INVALIDATE_REQUEST (R189). -/
def execAtsInvalidateRequest (port : Nat) (tag : Nat) (pasid : Option Nat) (addr : Nat) (pages : Nat) (whole : Bool) (s : State) : Out :=
  s.onBlkTidy (fun b => b.atsInval port tag pasid addr pages whole)

/-- PRI_ENABLE_CHANGE (R170). -/
def execPriEnableChange (port : Nat) (vf : Nat) (s : State) : Out := s.onBlk (fun b => b.priEnable port vf)

end Sys2Proof.Machine
end

