-- ==== Sys2Proof/Machine/Dispatch.lean ====
section
/-! DEFINITION. The dispatcher: one arm per constructor of Instr, each a direct call of its meaning. -/
namespace Sys2Proof.Machine

/-- What a command does to everything but the queue of waiting commands. -/
def exec (i : Instr) (s : State) : Host.Outcome State Fault Refusal :=
  match i with
  | .registerWrite via off value wide => Sys2Proof.Machine.execRegisterWrite via off value wide s
  | .misalignedRegisterAccess via off write => Sys2Proof.Machine.execMisalignedRegisterAccess via off write s
  | .lockSet via h => Sys2Proof.Machine.execLockSet via h s
  | .mctpRegisterMessage h endpoint off value => Sys2Proof.Machine.execMctpRegisterMessage h endpoint off value s
  | .crossingEntryDelivery h island => Sys2Proof.Machine.execCrossingEntryDelivery h island s
  | .islandClockGate h island => Sys2Proof.Machine.execIslandClockGate h island s
  | .islandRetentionEntry h island => Sys2Proof.Machine.execIslandRetentionEntry h island s
  | .qosLeaseGrant h cls point part => Sys2Proof.Machine.execQosLeaseGrant h cls point part s
  | .qosRefillTick h => Sys2Proof.Machine.execQosRefillTick h s
  | .errorQueueEntryFreed h island => Sys2Proof.Machine.execErrorQueueEntryFreed h island s
  | .errorMessageAccept h => Sys2Proof.Machine.execErrorMessageAccept h s
  | .fatalHalfReset h => Sys2Proof.Machine.execFatalHalfReset h s
  | .fatalNoticeReceive h msg pairReset => Sys2Proof.Machine.execFatalNoticeReceive h msg pairReset s
  | .errorRecordClear via h rec => Sys2Proof.Machine.execErrorRecordClear via h rec s
  | .errorLogStatusRead via h => Sys2Proof.Machine.execErrorLogStatusRead via h s
  | .errorLogEntryRead via h high => Sys2Proof.Machine.execErrorLogEntryRead via h high s
  | .errorInject via h value => Sys2Proof.Machine.execErrorInject via h value s
  | .severeSourceClear via h => Sys2Proof.Machine.execSevereSourceClear via h s
  | .kilnWatchdogExpiry h core => Sys2Proof.Machine.execKilnWatchdogExpiry h core s
  | .sramEccError h where_ cls => Sys2Proof.Machine.execSramEccError h where_ cls s
  | .planMoveClockSwitch h island => Sys2Proof.Machine.execPlanMoveClockSwitch h island s
  | .planMoveVoltageStep h island => Sys2Proof.Machine.execPlanMoveVoltageStep h island s
  | .sprintRequest h quad => Sys2Proof.Machine.execSprintRequest h quad s
  | .loadStepAck h frame => Sys2Proof.Machine.execLoadStepAck h frame s
  | .sprintEntry h quad => Sys2Proof.Machine.execSprintEntry h quad s
  | .sprintAckTimeout h quad => Sys2Proof.Machine.execSprintAckTimeout h quad s
  | .sprintBudgetExpiry h quad => Sys2Proof.Machine.execSprintBudgetExpiry h quad s
  | .sprintDwellExpiry h quad => Sys2Proof.Machine.execSprintDwellExpiry h quad s
  | .hlUp port => Sys2Proof.Machine.execHlUp port s
  | .hlRetrain port active => Sys2Proof.Machine.execHlRetrain port active s
  | .hlDown port => Sys2Proof.Machine.execHlDown port s
  | .hlHotReset port => Sys2Proof.Machine.execHlHotReset port s
  | .containRearm via port discard => Sys2Proof.Machine.execContainRearm via port discard s
  | .hlLpStateChange port state => Sys2Proof.Machine.execHlLpStateChange port state s
  | .linkL0pRequest port => Sys2Proof.Machine.execLinkL0pRequest port s
  | .linkL1Request port => Sys2Proof.Machine.execLinkL1Request port s
  | .linkPowerRequestTimeout port => Sys2Proof.Machine.execLinkPowerRequestTimeout port s
  | .checkerAck h => Sys2Proof.Machine.execCheckerAck h s
  | .checkerAckTimeout h => Sys2Proof.Machine.execCheckerAckTimeout h s
  | .checkerViolationReport h chan addr va ctx part write => Sys2Proof.Machine.execCheckerViolationReport h chan addr va ctx part write s
  | .laneHealthRecord h port lane rec => Sys2Proof.Machine.execLaneHealthRecord h port lane rec s
  | .laneHealthEval h => Sys2Proof.Machine.execLaneHealthEval h s
  | .laneMapConfirm h port => Sys2Proof.Machine.execLaneMapConfirm h port s
  | .lswap h port lane spare => Sys2Proof.Machine.execLswap h port lane spare s
  | .lswapAck h port => Sys2Proof.Machine.execLswapAck h port s
  | .brownoutHoldEntry h => Sys2Proof.Machine.execBrownoutHoldEntry h s
  | .brownoutHoldRelease h => Sys2Proof.Machine.execBrownoutHoldRelease h s
  | .pwrFail h => Sys2Proof.Machine.execPwrFail h s
  | .telemetryVoltage h frame => Sys2Proof.Machine.execTelemetryVoltage h frame s
  | .telemetryCurrent h frame => Sys2Proof.Machine.execTelemetryCurrent h frame s
  | .supervisorFrameDiscard h frame stopOk => Sys2Proof.Machine.execSupervisorFrameDiscard h frame stopOk s
  | .stageCurrentLimit h frame => Sys2Proof.Machine.execStageCurrentLimit h frame s
  | .telemetryLoss h => Sys2Proof.Machine.execTelemetryLoss h s
  | .issueRampStep h group => Sys2Proof.Machine.execIssueRampStep h group s
  | .thermalSample h temps => Sys2Proof.Machine.execThermalSample h temps s
  | .tapInstruction h instr => Sys2Proof.Machine.execTapInstruction h instr s
  | .ucieLaneRepair h port => Sys2Proof.Machine.execUcieLaneRepair h port s
  | .blkRefclkLoss h => Sys2Proof.Machine.execBlkRefclkLoss h s
  | .blkRefclkReturn h => Sys2Proof.Machine.execBlkRefclkReturn h s
  | .logicPwrgoodFall h => Sys2Proof.Machine.execLogicPwrgoodFall h s
  | .logicPwrgoodRise h => Sys2Proof.Machine.execLogicPwrgoodRise h s
  | .pkgRstNAssert => Sys2Proof.Machine.execPkgRstNAssert s
  | .halfRstNAssert h => Sys2Proof.Machine.execHalfRstNAssert h s
  | .resetRelease h => Sys2Proof.Machine.execResetRelease h s
  | .bisqueServiceReady h => Sys2Proof.Machine.execBisqueServiceReady h s
  | .memoryTrainingComplete h trained => Sys2Proof.Machine.execMemoryTrainingComplete h trained s
  | .glazeServiceEntry h readings => Sys2Proof.Machine.execGlazeServiceEntry h readings s
  | .helloSend h => Sys2Proof.Machine.execHelloSend h s
  | .hello h frame => Sys2Proof.Machine.execHello h frame s
  | .helloAck h frame => Sys2Proof.Machine.execHelloAck h frame s
  | .pairingWindowClose h => Sys2Proof.Machine.execPairingWindowClose h s
  | .heartbeatSend h => Sys2Proof.Machine.execHeartbeatSend h s
  | .heartbeat h time state => Sys2Proof.Machine.execHeartbeat h time state s
  | .partnerSilent h => Sys2Proof.Machine.execPartnerSilent h s
  | .tdmPhyDown h => Sys2Proof.Machine.execTdmPhyDown h s
  | .livenessWrite h => Sys2Proof.Machine.execLivenessWrite h s
  | .livenessProbeResult h probe1 probe2 => Sys2Proof.Machine.execLivenessProbeResult h probe1 probe2 s
  | .freewheelEntry h => Sys2Proof.Machine.execFreewheelEntry h s
  | .mirror h seq rec => Sys2Proof.Machine.execMirror h seq rec s
  | .mirrorAck h seq => Sys2Proof.Machine.execMirrorAck h seq s
  | .doorbellFwd h queue pidx => Sys2Proof.Machine.execDoorbellFwd h queue pidx s
  | .xreq h tag req => Sys2Proof.Machine.execXreq h tag req s
  | .xrsp h tag data => Sys2Proof.Machine.execXrsp h tag data s
  | .inval h seq flags ctx va pages => Sys2Proof.Machine.execInval h seq flags ctx va pages s
  | .invalAck h seq phase result port => Sys2Proof.Machine.execInvalAck h seq phase result port s
  | .offline h => Sys2Proof.Machine.execOffline h s
  | .online h => Sys2Proof.Machine.execOnline h s
  | .halfOffline queue hdr body => Sys2Proof.Machine.execHalfOffline queue hdr body s
  | .halfOfflineDrainExpiry h => Sys2Proof.Machine.execHalfOfflineDrainExpiry h s
  | .halfOnline queue hdr => Sys2Proof.Machine.execHalfOnline queue hdr s
  | .queueRehome queue => Sys2Proof.Machine.execQueueRehome queue s
  | .pairReset via h value => Sys2Proof.Machine.execPairReset via h value s
  | .doorbell via queue value => Sys2Proof.Machine.execDoorbell via queue value s
  | .cqHeadWrite via queue value => Sys2Proof.Machine.execCqHeadWrite via queue value s
  | .packetFetch queue => Sys2Proof.Machine.execPacketFetch queue s
  | .packetFetchComplete queue => Sys2Proof.Machine.execPacketFetchComplete queue s
  | .fetchError queue what => Sys2Proof.Machine.execFetchError queue what s
  | .packetDispatch h => Sys2Proof.Machine.execPacketDispatch h s
  | .packetComplete queue slot => Sys2Proof.Machine.execPacketComplete queue slot s
  | .signalTrailer queue slot => Sys2Proof.Machine.execSignalTrailer queue slot s
  | .replyWrite queue => Sys2Proof.Machine.execReplyWrite queue s
  | .indexWordWrite queue => Sys2Proof.Machine.execIndexWordWrite queue s
  | .msixSend port part vec => Sys2Proof.Machine.execMsixSend port part vec s
  | .msixHoldoffExpiry port part vec => Sys2Proof.Machine.execMsixHoldoffExpiry port part vec s
  | .msixUnmask port part vec => Sys2Proof.Machine.execMsixUnmask port part vec s
  | .adminQueueEnable via h => Sys2Proof.Machine.execAdminQueueEnable via h s
  | .adminQueueDisable via h => Sys2Proof.Machine.execAdminQueueDisable via h s
  | .queueResume via queue => Sys2Proof.Machine.execQueueResume via queue s
  | .nop queue hdr => Sys2Proof.Machine.execNop queue hdr s
  | .copy queue hdr body => Sys2Proof.Machine.execCopy queue hdr body s
  | .fill queue hdr body => Sys2Proof.Machine.execFill queue hdr body s
  | .writeInline queue hdr body => Sys2Proof.Machine.execWriteInline queue hdr body s
  | .copyTiled queue hdr body => Sys2Proof.Machine.execCopyTiled queue hdr body s
  | .gather queue hdr body => Sys2Proof.Machine.execGather queue hdr body s
  | .scatter queue hdr body => Sys2Proof.Machine.execScatter queue hdr body s
  | .fenceSignal queue hdr body => Sys2Proof.Machine.execFenceSignal queue hdr body s
  | .fenceWait queue hdr body => Sys2Proof.Machine.execFenceWait queue hdr body s
  | .eventRaise queue hdr body => Sys2Proof.Machine.execEventRaise queue hdr body s
  | .transform queue hdr body => Sys2Proof.Machine.execTransform queue hdr body s
  | .reduce queue hdr body => Sys2Proof.Machine.execReduce queue hdr body s
  | .routeDispatch queue hdr body => Sys2Proof.Machine.execRouteDispatch queue hdr body s
  | .routeReturn queue hdr body => Sys2Proof.Machine.execRouteReturn queue hdr body s
  | .routeCombine queue hdr body => Sys2Proof.Machine.execRouteCombine queue hdr body s
  | .routeFenceSignal h chan entry => Sys2Proof.Machine.execRouteFenceSignal h chan entry s
  | .draftOpen queue hdr body => Sys2Proof.Machine.execDraftOpen queue hdr body s
  | .draftSend queue hdr body => Sys2Proof.Machine.execDraftSend queue hdr body s
  | .draftClose queue hdr body => Sys2Proof.Machine.execDraftClose queue hdr body s
  | .map queue hdr body => Sys2Proof.Machine.execMap queue hdr body s
  | .unmap queue hdr body => Sys2Proof.Machine.execUnmap queue hdr body s
  | .invalidateRange queue hdr body => Sys2Proof.Machine.execInvalidateRange queue hdr body s
  | .pin queue hdr body => Sys2Proof.Machine.execPin queue hdr body s
  | .unpin queue hdr body => Sys2Proof.Machine.execUnpin queue hdr body s
  | .alloc queue hdr body => Sys2Proof.Machine.execAlloc queue hdr body s
  | .free queue hdr body => Sys2Proof.Machine.execFree queue hdr body s
  | .prefetchStream queue hdr body => Sys2Proof.Machine.execPrefetchStream queue hdr body s
  | .prefetchStreamStop queue hdr body => Sys2Proof.Machine.execPrefetchStreamStop queue hdr body s
  | .queryCapability queue hdr body => Sys2Proof.Machine.execQueryCapability queue hdr body s
  | .queryContext queue hdr body => Sys2Proof.Machine.execQueryContext queue hdr body s
  | .queryAllocator queue hdr body => Sys2Proof.Machine.execQueryAllocator queue hdr body s
  | .ctxCreate queue hdr body => Sys2Proof.Machine.execCtxCreate queue hdr body s
  | .ctxDestroy queue hdr body => Sys2Proof.Machine.execCtxDestroy queue hdr body s
  | .ctxDrainComplete h ctx => Sys2Proof.Machine.execCtxDrainComplete h ctx s
  | .drainBoundExpiry h queue id => Sys2Proof.Machine.execDrainBoundExpiry h queue id s
  | .queueCreate queue hdr body => Sys2Proof.Machine.execQueueCreate queue hdr body s
  | .queueDestroy queue hdr body => Sys2Proof.Machine.execQueueDestroy queue hdr body s
  | .partConfig queue hdr body => Sys2Proof.Machine.execPartConfig queue hdr body s
  | .keyInstall queue hdr body => Sys2Proof.Machine.execKeyInstall queue hdr body s
  | .keyRetire queue hdr body => Sys2Proof.Machine.execKeyRetire queue hdr body s
  | .keyRetireSweep queue hdr body => Sys2Proof.Machine.execKeyRetireSweep queue hdr body s
  | .sweepChunkUnlock h => Sys2Proof.Machine.execSweepChunkUnlock h s
  | .regionRegister queue hdr body => Sys2Proof.Machine.execRegionRegister queue hdr body s
  | .regionRelease queue hdr body => Sys2Proof.Machine.execRegionRelease queue hdr body s
  | .fwStage queue hdr body => Sys2Proof.Machine.execFwStage queue hdr body s
  | .fwStageLast queue hdr body => Sys2Proof.Machine.execFwStageLast queue hdr body s
  | .fwStageActivate queue hdr body => Sys2Proof.Machine.execFwStageActivate queue hdr body s
  | .fwStageService queue hdr body => Sys2Proof.Machine.execFwStageService queue hdr body s
  | .journalRead queue hdr body => Sys2Proof.Machine.execJournalRead queue hdr body s
  | .journalReadService queue hdr body => Sys2Proof.Machine.execJournalReadService queue hdr body s
  | .marginReplan queue hdr => Sys2Proof.Machine.execMarginReplan queue hdr s
  | .chipletAdmit queue hdr body => Sys2Proof.Machine.execChipletAdmit queue hdr body s
  | .fabricJoin queue hdr body => Sys2Proof.Machine.execFabricJoin queue hdr body s
  | .fabricUpdate queue hdr body => Sys2Proof.Machine.execFabricUpdate queue hdr body s
  | .fabricLeave queue hdr body => Sys2Proof.Machine.execFabricLeave queue hdr body s
  | .diagRead queue hdr body => Sys2Proof.Machine.execDiagRead queue hdr body s
  | .diagWrite queue hdr body => Sys2Proof.Machine.execDiagWrite queue hdr body s
  | .contextLoss event => Sys2Proof.Machine.execContextLoss event s
  | .fenceSignalApply queue slot => Sys2Proof.Machine.execFenceSignalApply queue slot s
  | .fenceWaitPoll h queue slot => Sys2Proof.Machine.execFenceWaitPoll h queue slot s
  | .fenceWaitTimeout h queue slot => Sys2Proof.Machine.execFenceWaitTimeout h queue slot s
  | .objectReclaim h => Sys2Proof.Machine.execObjectReclaim h s
  | .walkStart h => Sys2Proof.Machine.execWalkStart h s
  | .walkGroupRead h spoke ok => Sys2Proof.Machine.execWalkGroupRead h spoke ok s
  | .adUpdateCas h spoke ok => Sys2Proof.Machine.execAdUpdateCas h spoke ok s
  | .spokeFail h spoke => Sys2Proof.Machine.execSpokeFail h spoke s
  | .holderSpanRelease h holder => Sys2Proof.Machine.execHolderSpanRelease h holder s
  | .atsCompletion h holder addr pages rd wr => Sys2Proof.Machine.execAtsCompletion h holder addr pages rd wr s
  | .xtReq h port acc tid ctx va => Sys2Proof.Machine.execXtReq h port acc tid ctx va s
  | .chipletUntranslatedAccess h port ctx write va len data => Sys2Proof.Machine.execChipletUntranslatedAccess h port ctx write va len data s
  | .chipletTranslatedAccess h port ctx fabric write addr len data => Sys2Proof.Machine.execChipletTranslatedAccess h port ctx fabric write addr len data s
  | .pageRequestIssue port vf => Sys2Proof.Machine.execPageRequestIssue port vf s
  | .prgResponse port vf prg code => Sys2Proof.Machine.execPrgResponse port vf prg code s
  | .priTimeout h chan => Sys2Proof.Machine.execPriTimeout h chan s
  | .allocatorFaultAnswer h chan => Sys2Proof.Machine.execAllocatorFaultAnswer h chan s
  | .holderRecallAck h holder => Sys2Proof.Machine.execHolderRecallAck h holder s
  | .xtInvAck h port itag fence => Sys2Proof.Machine.execXtInvAck h port itag fence s
  | .chipletAckTimeout h port itag => Sys2Proof.Machine.execChipletAckTimeout h port itag s
  | .invalidationComplete h => Sys2Proof.Machine.execInvalidationComplete h s
  | .registerInvalidate via h => Sys2Proof.Machine.execRegisterInvalidate via h s
  | .atsInvalidateRequest port tag pasid addr pages whole => Sys2Proof.Machine.execAtsInvalidateRequest port tag pasid addr pages whole s
  | .dmaBurstIssue h engine => Sys2Proof.Machine.execDmaBurstIssue h engine s
  | .readCompletion h chan result => Sys2Proof.Machine.execReadCompletion h chan result s
  | .writeAck h queue slot => Sys2Proof.Machine.execWriteAck h queue slot s
  | .flushReadComplete h port => Sys2Proof.Machine.execFlushReadComplete h port s
  | .flushReadRefused h port => Sys2Proof.Machine.execFlushReadRefused h port s
  | .idleFlush h port => Sys2Proof.Machine.execIdleFlush h port s
  | .meshWriteError h chan => Sys2Proof.Machine.execMeshWriteError h chan s
  | .channelParityError h chan => Sys2Proof.Machine.execChannelParityError h chan s
  | .busMasterEnableClear port vf => Sys2Proof.Machine.execBusMasterEnableClear port vf s
  | .busMasterEnableSet port vf => Sys2Proof.Machine.execBusMasterEnableSet port vf s
  | .engineIssue h engine => Sys2Proof.Machine.execEngineIssue h engine s
  | .programLoadComplete h chan => Sys2Proof.Machine.execProgramLoadComplete h chan s
  | .tableLoadComplete h chan => Sys2Proof.Machine.execTableLoadComplete h chan s
  | .engineParityError h engine => Sys2Proof.Machine.execEngineParityError h engine s
  | .draftSlotCommit h chan => Sys2Proof.Machine.execDraftSlotCommit h chan s
  | .draftCreditResume h chan => Sys2Proof.Machine.execDraftCreditResume h chan s
  | .draftCreditTimeout h chan => Sys2Proof.Machine.execDraftCreditTimeout h chan s
  | .draftResync h => Sys2Proof.Machine.execDraftResync h s
  | .wareLookup h chan ctx part addr len => Sys2Proof.Machine.execWareLookup h chan ctx part addr len s
  | .wareFillReturn h tag data poison => Sys2Proof.Machine.execWareFillReturn h tag data poison s
  | .wareScrub h => Sys2Proof.Machine.execWareScrub h s
  | .wareDisable h => Sys2Proof.Machine.execWareDisable h s
  | .prefetchFill h stream => Sys2Proof.Machine.execPrefetchFill h stream s
  | .prefetchIdleEnd h stream => Sys2Proof.Machine.execPrefetchIdleEnd h stream s
  | .windowEnable via => Sys2Proof.Machine.execWindowEnable via s
  | .windowDisable via => Sys2Proof.Machine.execWindowDisable via s
  | .rdShared h port req => Sys2Proof.Machine.execRdShared h port req s
  | .rdOwn h port req => Sys2Proof.Machine.execRdOwn h port req s
  | .upgrade h port req => Sys2Proof.Machine.execUpgrade h port req s
  | .rdOnce h port req => Sys2Proof.Machine.execRdOnce h port req s
  | .wrOnce h port req => Sys2Proof.Machine.execWrOnce h port req s
  | .datWr h port tid mask data poison => Sys2Proof.Machine.execDatWr h port tid mask data poison s
  | .rspI h port tid => Sys2Proof.Machine.execRspI h port tid s
  | .rspS h port tid => Sys2Proof.Machine.execRspS h port tid s
  | .rspIEvicting h port tid => Sys2Proof.Machine.execRspIEvicting h port tid s
  | .datSnp h port tid after dirty poison data => Sys2Proof.Machine.execDatSnp h port tid after dirty poison data s
  | .evc h port tid line => Sys2Proof.Machine.execEvc h port tid line s
  | .evd h port tid line poison data => Sys2Proof.Machine.execEvd h port tid line poison data s
  | .crd h port snp rsp dat => Sys2Proof.Machine.execCrd h port snp rsp dat s
  | .cohTransactionClose h txn => Sys2Proof.Machine.execCohTransactionClose h txn s
  | .reservationGrant h => Sys2Proof.Machine.execReservationGrant h s
  | .reservationExpiry h rcid => Sys2Proof.Machine.execReservationExpiry h rcid s
  | .snoopTimeout h port tid => Sys2Proof.Machine.execSnoopTimeout h port tid s
  | .ioRequest h tag write line data mask => Sys2Proof.Machine.execIoRequest h tag write line data mask s
  | .hostMemRequest h port kind line data => Sys2Proof.Machine.execHostMemRequest h port kind line data s
  | .birsp h port line data => Sys2Proof.Machine.execBirsp h port line data s
  | .biTimeout h port line => Sys2Proof.Machine.execBiTimeout h port line s
  | .hostSnoop h port kind line => Sys2Proof.Machine.execHostSnoop h port kind line s
  | .cxlCacheGo h line state data => Sys2Proof.Machine.execCxlCacheGo h line state data s
  | .linkHelloSend h port => Sys2Proof.Machine.execLinkHelloSend h port s
  | .linkHello h port pkg domain leaving => Sys2Proof.Machine.execLinkHello h port pkg domain leaving s
  | .fabricJoinLimitExpiry h => Sys2Proof.Machine.execFabricJoinLimitExpiry h s
  | .rdReq h pkt => Sys2Proof.Machine.execRdReq h pkt s
  | .wrReq h pkt => Sys2Proof.Machine.execWrReq h pkt s
  | .atFetchAdd h pkt => Sys2Proof.Machine.execAtFetchAdd h pkt s
  | .atCompareSwap h pkt => Sys2Proof.Machine.execAtCompareSwap h pkt s
  | .atFenceSignal h pkt => Sys2Proof.Machine.execAtFenceSignal h pkt s
  | .ping h pkt => Sys2Proof.Machine.execPing h pkt s
  | .packetForward h port pkt => Sys2Proof.Machine.execPacketForward h port pkt s
  | .rdData h tag data poison => Sys2Proof.Machine.execRdData h tag data poison s
  | .wrAck h tag => Sys2Proof.Machine.execWrAck h tag s
  | .atRsp h tag old code poison => Sys2Proof.Machine.execAtRsp h tag old code poison s
  | .pong h tag => Sys2Proof.Machine.execPong h tag s
  | .nack h tag reason => Sys2Proof.Machine.execNack h tag reason s
  | .credit h port cls vc count => Sys2Proof.Machine.execCredit h port cls vc count s
  | .flitCrcFail h port again => Sys2Proof.Machine.execFlitCrcFail h port again s
  | .idleFlit h port => Sys2Proof.Machine.execIdleFlit h port s
  | .fabricReqTimeout h tag => Sys2Proof.Machine.execFabricReqTimeout h tag s
  | .portDown h port tags => Sys2Proof.Machine.execPortDown h port tags s
  | .unreachPing h pkg => Sys2Proof.Machine.execUnreachPing h pkg s
  | .pathDrainEnd h pkg => Sys2Proof.Machine.execPathDrainEnd h pkg s
  | .fabGrantWrite via h value => Sys2Proof.Machine.execFabGrantWrite via h value s
  | .bondWrite via h value => Sys2Proof.Machine.execBondWrite via h value s
  | .memoryWindowWrite via pasid tag off data poison => Sys2Proof.Machine.execMemoryWindowWrite via pasid tag off data poison s
  | .memoryWindowRead via pasid tag off len => Sys2Proof.Machine.execMemoryWindowRead via pasid tag off len s
  | .peerZeroLengthRead via pasid off => Sys2Proof.Machine.execPeerZeroLengthRead via pasid off s
  | .ptmExchange h => Sys2Proof.Machine.execPtmExchange h s
  | .ptmResponse h master => Sys2Proof.Machine.execPtmResponse h master s
  | .ptmSyncLost h => Sys2Proof.Machine.execPtmSyncLost h s
  | .d3hotEntry port vf => Sys2Proof.Machine.execD3hotEntry port vf s
  | .d0Return port vf => Sys2Proof.Machine.execD0Return port vf s
  | .functionLevelReset port vf => Sys2Proof.Machine.execFunctionLevelReset port vf s
  | .vfEnableClear port => Sys2Proof.Machine.execVfEnableClear port s
  | .partitionResetComplete h part => Sys2Proof.Machine.execPartitionResetComplete h part s
  | .frameReclaimDone h part => Sys2Proof.Machine.execFrameReclaimDone h part s
  | .spdmGetCertificate h transport slot => Sys2Proof.Machine.execSpdmGetCertificate h transport slot s
  | .spdmChallenge h transport slot nonce => Sys2Proof.Machine.execSpdmChallenge h transport slot nonce s
  | .spdmMeasurements h transport index signed nonce => Sys2Proof.Machine.execSpdmMeasurements h transport index signed nonce s
  | .spdmKeyExchange h transport => Sys2Proof.Machine.execSpdmKeyExchange h transport s
  | .spdmKeyUpdate h session => Sys2Proof.Machine.execSpdmKeyUpdate h session s
  | .spdmHeartbeat h session => Sys2Proof.Machine.execSpdmHeartbeat h session s
  | .spdmHeartbeatTimeout h session => Sys2Proof.Machine.execSpdmHeartbeatTimeout h session s
  | .spdmEndSession h session => Sys2Proof.Machine.execSpdmEndSession h session s
  | .keyStage h session ctx epoch key => Sys2Proof.Machine.execKeyStage h session ctx epoch key s
  | .debugNonce h session => Sys2Proof.Machine.execDebugNonce h session s
  | .debugNonceLapse h => Sys2Proof.Machine.execDebugNonceLapse h s
  | .debugUnlock h session token => Sys2Proof.Machine.execDebugUnlock h session token s
  | .debugLock h session => Sys2Proof.Machine.execDebugLock h session s
  | .debugRelock via h => Sys2Proof.Machine.execDebugRelock via h s
  | .deepIdleEntry h => Sys2Proof.Machine.execDeepIdleEntry h s
  | .deepIdleWake h => Sys2Proof.Machine.execDeepIdleWake h s
  | .firmwareAuthenticate h => Sys2Proof.Machine.execFirmwareAuthenticate h s
  | .fwMctpImage h off data last => Sys2Proof.Machine.execFwMctpImage h off data last s
  | .imageSourceTimeout h => Sys2Proof.Machine.execImageSourceTimeout h s
  | .serviceRecordReturn h record => Sys2Proof.Machine.execServiceRecordReturn h record s
  | .chipletLinkTimeout h port => Sys2Proof.Machine.execChipletLinkTimeout h port s
  | .marginReplanRun h readings periodic => Sys2Proof.Machine.execMarginReplanRun h readings periodic s
  | .wearHour h island => Sys2Proof.Machine.execWearHour h island s
  | .journalSpill h => Sys2Proof.Machine.execJournalSpill h s
  | .pmcBatch h group cycles occs => Sys2Proof.Machine.execPmcBatch h group cycles occs s
  | .pwrWarnFall h failLine => Sys2Proof.Machine.execPwrWarnFall h failLine s
  | .priEnableChange port vf => Sys2Proof.Machine.execPriEnableChange port vf s
  | .ucieLinkUp h port cap desc => Sys2Proof.Machine.execUcieLinkUp h port cap desc s
  | .draftCloseLimitExpiry queue slot => Sys2Proof.Machine.execDraftCloseLimitExpiry queue slot s

end Sys2Proof.Machine
end

