-- ==== Sys2Proof/Machine/Step.lean ====
section
/-! DEFINITION. One step: the command at the front of the queue, or the passing of one nanosecond. -/
namespace Sys2Proof.Machine

/-- One nanosecond passes on a half whose clock runs (R10). -/
def HalfClk.tick (c : HalfClk) : HalfClk := if c.running then { c with time := c.time + 1 } else c
def Clk.tick (c : Clk) : Clk := { a := c.a.tick, b := c.b.tick }

/-- With a command waiting, the block takes the front one; with none, one nanosecond of block time passes. -/
def step (s : State) : Host.Outcome State Fault Refusal :=
  match s.pending with
  | [] => .next { s with sys := { s.sys with clk := s.sys.clk.tick } }
  | c :: rest => exec c { s with pending := rest }

/-- The command a word spells, put at the front of the queue. -/
def State.withFetchWord (s : State) (nbits w : Nat) : State :=
  match decodeTableWord nbits w with
  | none => s
  | some c => { s with pending := c :: s.pending }

end Sys2Proof.Machine
end

