-- ==== Sys2Proof/Safety.lean ====
section
/-! DEFINITION. What claims about the block are stated with: what it is for a command to complete, and what a command leaves as it was. -/
namespace Sys2Proof.Machine

/-- A command completes: it answers a next state with the same commands waiting, and its machine is as `P` says. -/
def Completes (c : Instr) (s : State) (P : Mach → Prop) : Prop :=
  ∃ m, exec c s = .next { s with sys := m } ∧ P m

/-- A command completes and what waited for it goes on: `P` says what the command itself makes of the machine; the next state is that machine
after `Mach.tidy` has looked again at everything that waited, with block time and the waiting commands as they were. -/
def Settles (c : Instr) (s : State) (P : Mach → Prop) : Prop :=
  ∃ m, exec c s = .next { s with sys := { m.tidy with clk := s.sys.clk } } ∧ P m

/-- A half of the machine. -/
def Mach.half (m : Mach) (h : HalfId) : Half := m.blk.half h

/-- Memory and block time are as they were. -/
def Mach.Quiet (m m' : Mach) : Prop := m'.mem = m.mem ∧ m'.clk = m.clk

/-- Memory, block time and every register are as they were. -/
def Mach.Still (m m' : Mach) : Prop := m.Quiet m' ∧ ∀ g, (m'.half g).regs = (m.half g).regs

/-- Memory, block time and the other half are as they were. -/
def Mach.OnlyHalf (m m' : Mach) (h : HalfId) : Prop := m.Quiet m' ∧ m'.half h.other = m.half h.other

/-- No memory and no block time changes, the other half is as it was, and nothing is sent. -/
def Mach.Inside (m m' : Mach) (h : HalfId) : Prop := m' = { m with blk := m.blk.upd h (fun _ => m'.half h) }

/-- A register access is let through to half `h`: the half is out of reset, and the access comes by MCTP within its regions, or through a function of
partition 0 that may act (R363, R369, R438), on its own half or a partner that can be reached (R495). -/
def Mach.Admits (m : Mach) (via : Via) (h : HalfId) (off : Nat) : Prop :=
  (m.half h).boot.inReset = false ∧
  match via with
  | .mctp _ => mctpRegion off = true
  | .fn port part _ => part = 0 ∧ m.blk.fnGate via off = (m.blk, true) ∧ (h = HalfId.ofPort port ∨ m.blk.reach h = true)

/-- A half's error queue of an island takes a further message as it is (R26). -/
def Half.hasRoom (x : Half) (island : Nat) : Prop :=
  (Tab.dflt x.err.queues island []).length < 6 ∧ Tab.dflt x.err.stalled island [] = []

/-- A message of an island has entered its error queue. -/
def Half.Reported (x y : Half) (island : Nat) (m : ErrMsg) : Prop :=
  Tab.dflt y.err.queues island [] = Tab.dflt x.err.queues island [] ++ [m]

/-- The queue and the packet of a command that is a packet. -/
def packetOf : Instr → Option (Nat × Pkt)
  | .nop q hdr => some (q, { op := 0x00, hdr := hdr, args := [] })
  | .copy q hdr body => some (q, { op := 0x01, hdr := hdr, args := body.args })
  | .fill q hdr body => some (q, { op := 0x02, hdr := hdr, args := body.args })
  | .writeInline q hdr body => some (q, { op := 0x03, hdr := hdr, args := body.args })
  | .copyTiled q hdr body => some (q, { op := 0x04, hdr := hdr, args := body.args })
  | .gather q hdr body => some (q, { op := 0x05, hdr := hdr, args := body.args })
  | .scatter q hdr body => some (q, { op := 0x06, hdr := hdr, args := body.args })
  | .fenceSignal q hdr body => some (q, { op := 0x10, hdr := hdr, args := body.args })
  | .fenceWait q hdr body => some (q, { op := 0x11, hdr := hdr, args := body.args })
  | .eventRaise q hdr body => some (q, { op := 0x12, hdr := hdr, args := body.args })
  | .transform q hdr body => some (q, { op := 0x18, hdr := hdr, args := body.args })
  | .reduce q hdr body => some (q, { op := 0x19, hdr := hdr, args := body.args })
  | .routeDispatch q hdr body => some (q, { op := 0x1A, hdr := hdr, args := (0 :: body.args) })
  | .routeReturn q hdr body => some (q, { op := 0x1A, hdr := hdr, args := (1 :: body.args) })
  | .routeCombine q hdr body => some (q, { op := 0x1A, hdr := hdr, args := (2 :: body.args) })
  | .draftOpen q hdr body => some (q, { op := 0x20, hdr := hdr, args := body.args })
  | .draftSend q hdr body => some (q, { op := 0x21, hdr := hdr, args := body.args })
  | .draftClose q hdr body => some (q, { op := 0x22, hdr := hdr, args := body.args })
  | .map q hdr body => some (q, { op := 0x30, hdr := hdr, args := body.args })
  | .unmap q hdr body => some (q, { op := 0x31, hdr := hdr, args := body.args })
  | .invalidateRange q hdr body => some (q, { op := 0x32, hdr := hdr, args := body.args })
  | .pin q hdr body => some (q, { op := 0x33, hdr := hdr, args := body.args })
  | .unpin q hdr body => some (q, { op := 0x34, hdr := hdr, args := body.args })
  | .alloc q hdr body => some (q, { op := 0x38, hdr := hdr, args := body.args })
  | .free q hdr body => some (q, { op := 0x39, hdr := hdr, args := body.args })
  | .prefetchStream q hdr body => some (q, { op := 0x40, hdr := hdr, args := (body.args false) })
  | .prefetchStreamStop q hdr body => some (q, { op := 0x40, hdr := hdr, args := (body.args true) })
  | .queryCapability q hdr body => some (q, { op := 0x50, hdr := hdr, args := (0 :: body.args) })
  | .queryContext q hdr body => some (q, { op := 0x50, hdr := hdr, args := (1 :: body.args) })
  | .queryAllocator q hdr body => some (q, { op := 0x50, hdr := hdr, args := (2 :: body.args) })
  | .ctxCreate q hdr body => some (q, { op := 0x60, hdr := hdr, args := body.args })
  | .ctxDestroy q hdr body => some (q, { op := 0x61, hdr := hdr, args := body.args })
  | .queueCreate q hdr body => some (q, { op := 0x62, hdr := hdr, args := body.args })
  | .queueDestroy q hdr body => some (q, { op := 0x63, hdr := hdr, args := body.args })
  | .partConfig q hdr body => some (q, { op := 0x64, hdr := hdr, args := body.args })
  | .keyInstall q hdr body => some (q, { op := 0x65, hdr := hdr, args := body.args })
  | .keyRetire q hdr body => some (q, { op := 0x66, hdr := hdr, args := (body.args false) })
  | .keyRetireSweep q hdr body => some (q, { op := 0x66, hdr := hdr, args := (body.args true) })
  | .regionRegister q hdr body => some (q, { op := 0x67, hdr := hdr, args := body.args })
  | .regionRelease q hdr body => some (q, { op := 0x68, hdr := hdr, args := body.args })
  | .fwStage q hdr body => some (q, { op := 0x69, hdr := hdr, args := (body.args [(1, false), (2, false), (3, false)]) })
  | .fwStageLast q hdr body => some (q, { op := 0x69, hdr := hdr, args := (body.args [(1, true), (2, false), (3, false)]) })
  | .fwStageActivate q hdr body => some (q, { op := 0x69, hdr := hdr, args := (body.args [(2, true), (3, false)]) })
  | .fwStageService q hdr body => some (q, { op := 0x69, hdr := hdr, args := (body.args [(3, true)]) })
  | .journalRead q hdr body => some (q, { op := 0x6C, hdr := hdr, args := (body.args 0) })
  | .journalReadService q hdr body => some (q, { op := 0x6C, hdr := hdr, args := (body.args 1) })
  | .marginReplan q hdr => some (q, { op := 0x6D, hdr := hdr, args := [] })
  | .chipletAdmit q hdr body => some (q, { op := 0x6E, hdr := hdr, args := body.args })
  | .fabricJoin q hdr body => some (q, { op := 0x6F, hdr := hdr, args := (body.args [(0, false), (1, false)]) })
  | .fabricUpdate q hdr body => some (q, { op := 0x6F, hdr := hdr, args := (body.args [(0, true), (1, false)]) })
  | .fabricLeave q hdr body => some (q, { op := 0x6F, hdr := hdr, args := (body.args [(1, true)]) })
  | .diagRead q hdr body => some (q, { op := 0xF0, hdr := hdr, args := (1 :: body.args) })
  | .diagWrite q hdr body => some (q, { op := 0xF0, hdr := hdr, args := (2 :: body.args) })
  | .halfOffline q hdr body => some (q, { op := 0x6A, hdr := hdr, args := body.args })
  | .halfOnline q hdr => some (q, { op := 0x6B, hdr := hdr, args := [] })
  | _ => none

/-- A withdrawal at half `h` needs no one else: the half is not PAIRED, holds no translation and has no withdrawal under way, and no chiplet holds
the range (R181, R186). -/
def Mach.WithdrawsAlone (m : Mach) (h : HalfId) (ctx lo hi : Nat) : Prop :=
  (m.half h).tdm.st ≠ .paired ∧ (m.half h).xlt.holders = [] ∧ (m.half h).xlt.invs = [] ∧ (m.half h).chipsMeet ctx false lo hi = []

/-- A half's translation cache keeps no span of a context that meets a range, and only spans it had (R181). -/
def Half.Forgot (x y : Half) (ctx lo hi : Nat) : Prop :=
  ∀ p ∈ y.xlt.iotlb, p ∈ x.xlt.iotlb ∧ ¬ (p.ctx = ctx ∧ p.va < hi ∧ lo < p.va + p.bytes)

/-- How the block names a packet that queue `q` takes next (R86). -/
def Mach.refOf (m : Mach) (q : Nat) (p : Pkt) : PktRef :=
  { q := q, slot := (m.blk.getQ q).fetchIdx, nslots := p.hdr.slots, tag := p.hdr.tag, flags := p.hdr.flags }

/-- Queue `q` takes packet `p` at once (R92, R94, R96, R98): it is RUNNING with nothing fetched and nothing in flight, its home half serves and is
neither leaving, held nor waiting for its partner, its completion ring has room, and the packet, which carries no signal trailer, passes
every check. -/
def Mach.Takes (m : Mach) (q : Nat) (p : Pkt) : Prop :=
  let r := m.blk.getQ q
  let x := m.half (m.blk.queueHome q)
  r.st = .running ∧ r.fetching = none ∧ r.fetched = [] ∧ r.inflight = [] ∧
  x.serves ∧ x.tdm.silentAt = none ∧ x.tdm.offlineCmd = none ∧ x.pwr.hold = false ∧ sub32 r.cqCount r.cqHead + r.replies.length < 2 ^ r.cqLog2 ∧
  4 ≤ p.hdr.len ∧ p.hdr.len ≤ 32 ∧ p.hdr.trailer = none ∧ x.checkPkt q r p (if q = 0 then adminErrs x p else []) = none ∧
  (q = 0 → x.meetsSealed p = false) ∧ (p.isSend → x.streamBusy p = false)

/-- The machine once queue `q` has fetched packet `p` and found it good (R87, R94), and the packet as fetched. -/
def Mach.fetchedAt (m : Mach) (q : Nat) (p : Pkt) : Mach × Fetched :=
  let next := ((m.blk.getQ q).fetchIdx + p.hdr.slots) % 2 ^ 32
  let f : Fetched := { ref := m.refOf q p, pkt := p }
  ({ m with blk := m.blk.modQ q (fun e =>
      { e with pidx := if later next e.pidx then next else e.pidx, fetchIdx := next, fetched := e.fetched ++ [f] }) }, f)

/-- The machine once queue `q` has dispatched packet `p` on its home half, and the packet in flight (R61, R96). -/
def Mach.taken (m : Mach) (q : Nat) (p : Pkt) : Mach × Disp :=
  let (n, f) := m.fetchedAt q p
  let r := n.blk.startPkt n.clk (m.blk.queueHome q) f true
  ({ n with blk := r.1 }, r.2)

/-- Packet `p` of queue `q` has completed with a reply and nothing else of the queue has changed but its indices (R80, R87). -/
def Mach.Replied (m m' : Mach) (q : Nat) (p : Pkt) (st det res fa : Nat) : Prop :=
  let r := m.blk.getQ q
  let next := (r.fetchIdx + p.hdr.slots) % 2 ^ 32
  m'.blk.getQ q = { r with
    pidx := if later next r.pidx then next else r.pidx, fetchIdx := next,
    replies := r.replies ++ [{ ref := m.refOf q p, status := st, detail := det, half := m.blk.queueHome q, result := res % 2 ^ 64,
                               faultAddr := fa % 2 ^ 64 }] }

/-- Packet `p` of queue `q` is in flight and waits: its queue is as its dispatch left it. -/
def Mach.Waits (m m' : Mach) (q : Nat) (p : Pkt) : Prop := m'.blk.getQ q = (m.taken q p).1.blk.getQ q

/-- For context `ctx` of partition `part` on half `h`, `n` bytes at virtual address `va` are device memory at `off`: one page, translated by a cached
span with the right to the access, reachable, let through by the checker, and in no held window line (R136, R143, R145, R291). -/
def Mach.Maps (m : Mach) (h : HalfId) (ctx part va n off : Nat) (write : Bool) : Prop :=
  (∃ s, (m.half h).tlbHit ctx va write = some s ∧ s.target = 0 ∧ s.sealed = false ∧ s.phys va = off ∧ va + n ≤ s.va + s.bytes) ∧
  0 < n ∧ va % 4096 + n ≤ 4096 ∧ off % 4096 + n ≤ 4096 ∧ (m.half h).devAccess off ctx part false = .ok ∧ m.blk.toHome h off n = false

/-- A half has no holder entry in use and no fabric result to act on. -/
def Half.idleDma (x : Half) : Prop := x.xlt.holders = [] ∧ x.fab.instant = [] ∧ x.dma.chans = []

/-- Half `h` can send a fabric request to another package at once: it has joined, a tag is free, and a port carries a route (R327, R335, R336, R345,
R352). -/
def Mach.CanAsk (m : Mach) (h : HalfId) (d : Nat) : Prop :=
  (∃ j, (m.half h).obj.join = some j ∧ j.pkg ≠ d) ∧ ((m.half h).freeTag (m.clk.now h)).isSome ∧ d ∉ (m.half h).obj.unreach ∧
  d ∉ (m.half h).fab.drains ∧ ∀ a, ((m.half h).requestPort m.blk d a).isSome

/-- Half `h` has one fabric request more, and its packet has gone out (R335, R345). -/
def Mach.Asks (m m' : Mach) (h : HalfId) (r : FabReq) : Prop :=
  ∃ tag port j, (m.half h).obj.join = some j ∧ Tab.look (m.half h).fab.reqs tag = none ∧
    (m'.half h).fab.reqs = Tab.put (m.half h).fab.reqs tag { r with start := m.clk.now h, port := port } ∧
    m'.blk.out = .fabric port (r.pkt tag j.pkg h.num) :: m.blk.out

/-- Channel `c` of half `h` runs a packet that is no ROUTE and no DRAFT_SEND and carries no trailer, on a queue of a half that is not PAIRED. -/
def Mach.RunsPlain (m : Mach) (h : HalfId) (c : Nat) : Prop :=
  let k := m.chan h c
  k.st ≠ 0 ∧ k.ends = none ∧ k.disp.pkt.isRoute = false ∧ k.disp.pkt.isSend = false ∧ k.disp.pkt.hdr.trailer = none ∧
  (m.blk.getQ k.q).st ≠ .absent ∧ (m.half h).tdm.st ≠ .paired

/-- Channel `c` of half `h` has given up its packet, which completes with a reply (R80, R202). -/
def Mach.ChanEnds (m m' : Mach) (h : HalfId) (c st det res fa : Nat) : Prop :=
  let k := m.chan h c
  let r := m.blk.getQ k.q
  Tab.look (m'.half h).dma.chans c = none ∧ m'.blk.getQ k.q = { r with
    inflight := r.inflight.filter (fun e => e.ref.slot != k.slot), fetched := r.fetched.filter (fun e => e.ref.slot != k.slot),
    replies := r.replies ++ [{ ref := k.disp.ref, status := st, detail := det, half := h, result := res % 2 ^ 64, faultAddr := fa % 2 ^ 64 }] }

/-- Only queue `q`, mirrors of it and what they are numbered with differ: memory, block time, registers, and every half's objects but queue `q`
are as they were. -/
def Mach.OnlyQueue (m m' : Mach) (q : Nat) : Prop :=
  m.Quiet m' ∧ ∀ h, let x := m.half h; let y := m'.half h
    y = { x with obj := { x.obj with queues := y.obj.queues }, tdm := { x.tdm with mirSeq := y.tdm.mirSeq, mirUnacked := y.tdm.mirUnacked }, xlt := y.xlt } ∧
    ∀ k, k ≠ q → y.queue k = x.queue k

/-- A chiplet's REQ passes the checks of R294 and breaks no rule the home detects (R312): its context is ACTIVE and granted to the port, the port is not
fenced, and the line lies in an enabled window of its partition that is neither disabling nor behind a contained host port. -/
def Mach.PassesReq (m : Mach) (h : HalfId) (p op : Nat) (r : CohReq) : Prop :=
  let x := m.half h
  (∃ c, x.ctx? r.ctx = some c ∧ c.st = .active ∧ bitAt c.dieAllow (h.num * 8 + p) ∧ ∃ w, x.lineWindow (some c.part) r.line = some w ∧
    w.2.disabling = false ∧ (w.2.kind = 2 → (x.port w.2.port).contained = false)) ∧
  x.fenced p = false ∧ x.breaches p op r = false

/-- A transaction of the tracker is open and waits for nothing (R303). -/
def CohTxn.Ready (t : CohTxn) : Prop :=
  t.opened ∧ t.closing = false ∧ t.snoops = [] ∧ t.evict = [] ∧ t.bis = [] ∧ t.needData = false ∧ t.go = false ∧ t.way = none

/-- A command changes a half's coherence state alone, and sends messages, the first sent last in the list (R299). -/
def Mach.CohOnly (m m' : Mach) (h : HalfId) (u : CohUnit) (sent : List Output) : Prop :=
  m' = { m with blk := { m.blk.upd h (fun x => { x with coh := u }) with out := sent ++ m.blk.out } }

end Sys2Proof.Machine
end

