-- ==== Sys2Proof/Certificates/Slice0/Obligations.lean ====
section
/-! DEFINITION. The statements for the provers. Commands that let waiting work go on are stated with `Settles`, the others with `Completes`. -/
open Sys2Proof Sys2Proof.Machine

/-- A step runs the front command: with `c` at the front of the queue, it is `exec c` on the state whose queue is the rest. With no command waiting, one
nanosecond of block time passes on each half whose BLK_REFCLK runs, and nothing else changes (R10, R51; that such a step is one nanosecond is the
model's choice, log entry 25). -/
def Obligations.StepRunsFrontCommand : Prop :=
  (∀ (c : Instr) (s : State) (rest : List Instr), step { s with pending := c :: rest } = exec c { s with pending := rest })
  ∧ (∀ (s : State), s.pending = [] → ∃ t, step s = .next t ∧ t.pending = [] ∧ t.sys.mem = s.sys.mem ∧ t.sys.blk = s.sys.blk ∧
    t.sys.clk.a = { s.sys.clk.a with time := s.sys.clk.a.time + if s.sys.clk.a.running then 1 else 0 } ∧
    t.sys.clk.b = { s.sys.clk.b with time := s.sys.clk.b.time + if s.sys.clk.b.running then 1 else 0 })

/-- Block time never goes back (R501, R53): that a half's block time has reached a value is kept by every step, whatever command stands in front and
whatever waits, unless the command is LOGIC_PWRGOOD_RISE of that half, which starts it from 0. -/
def Obligations.BlockTimeNeverGoesBack : Prop :=
  ∀ (h : HalfId) (bound : Nat) (s t : State), s.pending.head? ≠ some (.logicPwrgoodRise h) → step s = .next t → bound ≤ s.sys.clk.now h →
    bound ≤ t.sys.clk.now h

/-- After cold power-on (R52, R53, R494): both halves stand in cold reset with READY_N high and no debug level, every register of the map reads its
reset value, no object, log entry or journal entry exists, and the queue of commands is empty.
It rests on the model's choices of log entry 3. -/
def Obligations.ResetIsColdPowerOn : Prop :=
  State.reset.pending = [] ∧ ∀ h, let x := State.reset.sys.half h
    x.boot.inReset ∧ x.boot.kind = .cold ∧ x.boot.readyLow = false ∧ x.boot.stage = 0 ∧ x.sec.debugLevel = 0 ∧ x.err.log = [] ∧ x.jnl.head = 0 ∧
    x.obj.ctxs = [] ∧ x.obj.queues = [] ∧ x.tdm.lock = false ∧ State.reset.sys.clk.now h = 0 ∧
    ∀ off r, regAt off = some r → x.reg off = BitVec.ofNat 64 r.reset

/-- What a register write does to each field, by its access code (R13, R498): RO, WO and record fields keep their value; an RWL field keeps it while
WQ_LOCK is 1; an RW field takes the value written, a limited one the value held at its limits; a flag cleared by writing one clears on 1 only. -/
def Obligations.AccessCodesDecideAWrite : Prop :=
  ∀ (off : Nat) (r : Reg) (f : Fld) (lock : Bool) (mask : Nat) (old w : W64), regAt off = some r → f ∈ r.flds →
    let new := regWrite r.flds lock mask old w
    ((f.acc = .ro ∨ f.acc = .wo ∨ f.acc = .record) → fld new f.hi f.lo = fld old f.hi f.lo) ∧
    (f.acc = .rwl → lock → fld new f.hi f.lo = fld old f.hi f.lo) ∧
    (mask = 2 ^ 64 - 1 → (f.acc = .rw ∨ (f.acc = .rwl ∧ lock = false)) → f.resv = [] →
      fld new f.hi f.lo = match f.lim with
        | none => fld w f.hi f.lo
        | some (a, b) => clampTo a b (fld w f.hi f.lo)) ∧
    (mask = 2 ^ 64 - 1 → f.acc = .flag ∨ f.acc = .rw1c → fld new f.hi f.lo = if fld w f.hi f.lo % 2 = 1 then 0 else fld old f.hi f.lo) ∧
    (f.reached mask = false → fld new f.hi f.lo = fld old f.hi f.lo)

/-- Reset inputs and fatal half reset (R50, R52, R456, Table 17-4): the half stands in reset of the stated kind, its outputs are released, its
pair-wide tables and debug state are gone; warm and half reset keep the error log, EVER_UNLOCKED and block time, cold reset does not; the
partner loses nothing but staged keys that came through the half. -/
def Obligations.ResetInputsHoldTheHalf : Prop :=
  (∀ (s : State) (h : HalfId), Completes (.logicPwrgoodFall h) s (fun m =>
    let x := s.sys.half h; let y := m.half h
    y.boot.inReset ∧ y.boot.kind = .cold ∧ y.boot.readyLow = false ∧ y.regs = [] ∧ y.err = {} ∧ y.jnl = {} ∧ y.sec = {} ∧ y.obj = {} ∧
    y.tdm = {} ∧ y.fuse = x.fuse ∧ y.strap = x.strap ∧ y.pins = { x.pins with logicPwrgood := false } ∧
    m.blk.out.take 2 = [.ready h false, .alert h false] ∧ m.mem = s.sys.mem ∧
    (∀ p, (m.half h.other).boot = (s.sys.half h.other).boot ∧ (m.half h.other).reg p = (s.sys.half h.other).reg p)))
  ∧ (∀ (s : State), Completes .pkgRstNAssert s (fun m => s.sys.Quiet m ∧ ∀ h,
    let x := s.sys.half h; let y := m.half h
    y.boot.inReset ∧ y.boot.kind = .warm ∧ 2 ∈ y.boot.causes ∧ y.pins.pkgRstN = false ∧ y.err.log = x.err.log ∧ y.jnl.chip = [] ∧
    y.jnl.spill = x.jnl.spill ∧ y.obj = {} ∧ y.xlt = {} ∧ y.coh = {} ∧ y.ware = {} ∧ y.qos = {} ∧ y.tdm.lock = false ∧
    y.sec.debugLevel = 0 ∧ y.sec.tainted = false ∧ y.sec.everUnlocked = x.sec.everUnlocked ∧ y.latched = x.latched))
  ∧ (∀ (s : State) (h : HalfId), Completes (.halfRstNAssert h) s (fun m => s.sys.Quiet m ∧
    let x := s.sys.half h; let y := m.half h
    y.boot.inReset ∧ y.boot.kind = .half ∧ 3 ∈ y.boot.causes ∧ y.pins.halfRstN = false ∧ y.err.log = x.err.log ∧ y.jnl.chip = x.jnl.chip ∧
    y.obj = {} ∧ y.xlt = {} ∧ y.coh = {} ∧ y.ware = {} ∧ y.tdm.lock = false ∧ y.sec.debugLevel = 0 ∧
    y.sec.everUnlocked = x.sec.everUnlocked ∧ m.blk.out.take 2 = [.ready h false, .alert h false] ∧
    (m.half h.other).boot = (s.sys.half h.other).boot ∧ (m.half h.other).regs = (s.sys.half h.other).regs))
  ∧ (∀ (s : State) (h : HalfId) (bit : Nat), (s.sys.half h).boot.fatalDue = some bit → Completes (.fatalHalfReset h) s (fun m => s.sys.Quiet m ∧
    let y := m.half h
    y.boot.inReset ∧ y.boot.kind = .half ∧ bit ∈ y.boot.causes ∧ y.boot.fatalDue = none ∧ y.err.log = (s.sys.half h).err.log ∧ y.obj = {}))

/-- Coming out of reset (R48, R51, R53, R456, R462): RESET_RELEASE latches the straps, shows the causes and starts pairing; BISQUE_SERVICE_READY drives
READY_N low; supply and clock inputs act on block time as R51 and R53 say. -/
def Obligations.ReleaseStartsTheHalf : Prop :=
  (∀ (s : State) (h : HalfId), (s.sys.half h).boot.inReset → (s.sys.half h).mayRelease → Completes (.resetRelease h) s (fun m => s.sys.Inside m h ∧
    let x := s.sys.half h; let y := m.half h
    y.boot.inReset = false ∧ y.boot.released = s.sys.clk.now h ∧ y.boot.stage = 0 ∧ y.boot.causes = [] ∧ y.latched = x.strap ∧
    y.pins.pkgRstN ∧ y.pins.halfRstN ∧ y.tdm.st = (if x.fuse.tandem then .pairing else .solo) ∧ y.pwr.failHold = false ∧
    ∀ i ∈ x.boot.causes, i < 64 → (y.reg 0x0A00038).toNat.testBit i))
  ∧ (∀ (s : State) (h : HalfId), (s.sys.half h).boot.inReset = false → (s.sys.half h).boot.stage = 0 →
    Completes (.bisqueServiceReady h) s (fun m => s.sys.OnlyHalf m h ∧
      m.half h = { s.sys.half h with boot := { (s.sys.half h).boot with stage := 1, readyLow := true } } ∧
      m.blk.out = .ready h true :: s.sys.blk.out))
  ∧ (∀ (s : State) (h : HalfId), Completes (.blkRefclkReturn h) s (fun m => m.mem = s.sys.mem ∧ m.clk = s.sys.clk.start h ∧
      m.half h = { s.sys.half h with pins := { (s.sys.half h).pins with refclk := true } } ∧ m.half h.other = s.sys.half h.other))
  ∧ (∀ (s : State) (h : HalfId), Completes (.blkRefclkLoss h) s (fun m => m.mem = s.sys.mem ∧ m.clk = s.sys.clk.stop h ∧
      m.clk.now h = s.sys.clk.now h ∧
      let y := m.half h
      y.pins.refclk = false ∧ y.boot.inReset ∧ y.boot.kind = .half ∧ 7 ∈ y.boot.causes ∧ y.boot.refclkLost ∧ y.mayRelease = false))
  ∧ (∀ (s : State) (h : HalfId), Completes (.logicPwrgoodRise h) s (fun m => m.mem = s.sys.mem ∧ m.clk.now h = 0 ∧
      m.clk.now h.other = s.sys.clk.now h.other ∧ m.half h.other = s.sys.half h.other ∧
      m.half h = { s.sys.half h with pins := { (s.sys.half h).pins with logicPwrgood := true } }))

/-- Bring-up (R462, R465, R473): training, image delivery, authentication of the first good image, the source timeout, an authentic service
record, and entry into Glaze service, journalled as class 11.
It rests on the model's choices of log entries 14, 16, 17, 74. -/
def Obligations.BringUpReachesGlaze : Prop :=
  (∀ (s : State) (h : HalfId) (n : Nat), Completes (.memoryTrainingComplete h n) s (fun m => s.sys.Inside m h ∧
    m.half h = { s.sys.half h with boot := { (s.sys.half h).boot with memTrained := true, trainedStacks := n % 16 } }))
  ∧ (∀ (s : State) (h : HalfId) (rs : List ConeReading), (s.sys.half h).boot.inReset = false → (s.sys.half h).boot.stage = 3 →
    (s.sys.half h).boot.memTrained → Completes (.glazeServiceEntry h rs) s (fun m => s.sys.Quiet m ∧
      (m.half h).boot.stage = 4 ∧ (m.half h).boot.lastReplan = s.sys.clk.now h ∧
      ∃ n, (m.half h).jnl.chip.head? = some ⟨n, s.sys.clk.now h, 5, 11, 0, h.num, 3, 4⟩))
  ∧ (∀ (s : State) (h : HalfId) (i : FwImage) (r : Bool) (more : List (FwImage × Bool)),
    (s.sys.half h).boot.inReset = false → (s.sys.half h).latched.bisqueHold = false → (s.sys.half h).boot.stage = 1 →
    (s.sys.half h).fwSources = (i, r) :: more → (s.sys.half h).fwCheck (s.sys.blk.partnerMajor h) i.bytes = 0 →
    Completes (.firmwareAuthenticate h) s (fun m => s.sys.Inside m h ∧
      let y := m.half h
      y.boot.running = some i.passed ∧ y.boot.activeCopy = some i.passed ∧ y.boot.stage = 3 ∧ y.boot.fwErr = 0 ∧ y.boot.fromReserve = r ∧
      y.sec.alias_ ∧ y.regs = (s.sys.half h).regs ∧ y.jnl.head = (s.sys.half h).jnl.head + 1))
  ∧ (∀ (s : State) (h : HalfId) (off : Nat) (bs : List Byte) (last : Bool),
    (s.sys.half h).boot.inReset = false → (s.sys.half h).latched.bootSrc → (s.sys.half h).boot.stage = 1 → off + bs.length ≤ pendingArea →
    (s.sys.half h).boot.mctpImage = false → Completes (.fwMctpImage h off bs last) s (fun m => s.sys.Inside m h ∧
      m.half h = { s.sys.half h with boot :=
        { (s.sys.half h).boot with stage := 2, mctpImage := !last, mctpIn := some { bytes := List.replicate off 0 ++ bs, last := last } } }))
  ∧ (∀ (s : State) (h : HalfId), (s.sys.half h).boot.inReset = false → (s.sys.half h).latched.bisqueHold = false →
    (s.sys.half h).boot.stage = 1 → (s.sys.half h).fwSources = [] → Completes (.imageSourceTimeout h) s (fun m => s.sys.Inside m h ∧
      m.half h = { s.sys.half h with boot := { (s.sys.half h).boot with stage := 5, fwErr := 7, mctpImage := false } }))
  ∧ (∀ (s : State) (h : HalfId) (r : List Byte), (s.sys.half h).boot.inReset = false → r.length = 4096 →
    Config.recordAuthentic (s.sys.half h).fuse.serial r → (s.sys.half h).boot.stage ≠ 4 → Completes (.serviceRecordReturn h r) s (fun m =>
      s.sys.Inside m h ∧ m.half h = { s.sys.half h with boot := { (s.sys.half h).boot with service := true, recordIn := r } }))

/-- Sprint (R29, R222): a granted request sends the load-step notice and counts; a request not allowed changes nothing; the acknowledged quad enters
sprint; without acknowledgement it is abandoned and counted; at the end of its budget it leaves sprint, journalled with its duration.
It rests on the model's choices of log entry 39. -/
def Obligations.SprintFollowsItsNotice : Prop :=
  (∀ (s : State) (h : HalfId) (q : Nat) (c : Instr), c = .sprintRequest h q ∨ c = .sprintDwellExpiry h q →
    ((s.sys.half h).sprintAllowed (s.sys.clk.now h) q → Completes c s (fun m => s.sys.OnlyHalf m h ∧
      let x := s.sys.half h; let y := m.half h
      y.quad q = { x.quad q with notice := some (x.pwr.txSeq % 16, s.sys.clk.now h), acked := none } ∧ (∀ k, k ≠ q → y.quad k = x.quad k) ∧
      y.regFld 0x0A00028 31 0 = (x.regFld 0x0A00028 31 0 + 1) % 2 ^ 32 ∧ y.isl = x.isl ∧ y.pwr.txSeq = (x.pwr.txSeq % 16 + 1) % 16 ∧
      ∃ crc, m.blk.out = .supervisor h 8 (x.pwr.txSeq % 16) (12 * 256 + q) crc :: s.sys.blk.out)) ∧
    (¬ (s.sys.half h).sprintAllowed (s.sys.clk.now h) q → Completes c s (fun m => m = s.sys)))
  ∧ (∀ (s : State) (h : HalfId) (f t : Nat), supValid f → supType f = 3 →
    ((s.sys.half h).quad (bits (supValue f) 1 0)).notice = some (bits (supValue f) 11 8, t) → Completes (.loadStepAck h f) s (fun m =>
      s.sys.Inside m h ∧ (m.half h).regs = (s.sys.half h).regs ∧
      (m.half h).quad (bits (supValue f) 1 0) = { (s.sys.half h).quad (bits (supValue f) 1 0) with acked := some (s.sys.clk.now h) }))
  ∧ (∀ (s : State) (h : HalfId) (q : Nat), q < 4 → ((s.sys.half h).quad q).acked.isSome → ((s.sys.half h).quad q).notice.isSome →
    (s.sys.half h).pwr.hold = false → Completes (.sprintEntry h q) s (fun m => s.sys.Inside m h ∧
      let x := s.sys.half h; let y := m.half h
      y.quad q = { x.quad q with notice := none, acked := none, sprint := some (s.sys.clk.now h) } ∧
      y.island (5 + q) = { x.island (5 + q) with plan := 0 } ∧ y.regs = x.regs))
  ∧ (∀ (s : State) (h : HalfId) (q : Nat), ((s.sys.half h).quad q).acked = none → ((s.sys.half h).quad q).notice.isSome →
    Completes (.sprintAckTimeout h q) s (fun m => s.sys.Inside m h ∧
      let x := s.sys.half h; let y := m.half h
      y.quad q = { x.quad q with notice := none, acked := none } ∧ y.isl = x.isl ∧
      y.regFld 0x0A00028 63 32 = (x.regFld 0x0A00028 63 32 + 1) % 2 ^ 32))
  ∧ (∀ (s : State) (h : HalfId) (q t : Nat), ((s.sys.half h).quad q).sprint = some t → Completes (.sprintBudgetExpiry h q) s (fun m =>
      s.sys.OnlyHalf m h ∧
      let x := s.sys.half h; let y := m.half h; let now := s.sys.clk.now h
      y.quad q = { x.quad q with sprint := none, past := (t, now) :: (x.quad q).past, sprintNs := (x.quad q).sprintNs + (now - t) } ∧
      y.island (5 + q) = { x.island (5 + q) with plan := 1 } ∧ y.regs = x.regs ∧
      y.jnl.chip.head? = some ⟨x.jnl.head, now, 5, 7, 0, 5 + q, now - t, 1⟩))

/-- Brownout, supply failure and telemetry (R44, R45, R446 to R450): what each supply input leaves in the half, its registers and its quads; the
partner, memory and block time are untouched. -/
def Obligations.SupplyInputsActOnTheHalf : Prop :=
  (∀ (s : State) (h : HalfId), (s.sys.half h).pwr.hold = false → Completes (.brownoutHoldEntry h) s (fun m => s.sys.OnlyHalf m h ∧
    let y := m.half h
    y.pwr.hold ∧ y.pwr.holdStart = s.sys.clk.now h ∧ y.pins.pwrWarn ∧ y.pwr.recovering = none ∧ (∀ q, q < 4 → (y.quad q).issue ≤ 4) ∧
    (y.reg 0x0A00000).toNat.testBit 12 ∧ (y.reg 0x0900040).toNat.testBit 2))
  ∧ (∀ (s : State) (h : HalfId), (s.sys.half h).pwr.hold → (s.sys.half h).pwr.recovering.isSome → (s.sys.half h).recoveryCond →
    Completes (.brownoutHoldRelease h) s (fun m => s.sys.Inside m h ∧
      let x := s.sys.half h; let y := m.half h; let now := s.sys.clk.now h
      y.pwr = { x.pwr with hold := false, recovering := none } ∧ y.jnl.chip.head? = some ⟨x.jnl.head, now, 5, 13, 0, 0, 1, (now - x.pwr.holdStart) / 1000⟩ ∧
      ∀ q, q < 4 → y.quad q = { x.quad q with ramping := decide ((x.quad q).issue < 16) }))
  ∧ (∀ (s : State) (h : HalfId) (failLine : Bool), Completes (.pwrWarnFall h failLine) s (fun m => s.sys.Inside m h ∧
      let x := s.sys.half h; let y := m.half h
      y.pins = (if failLine then { x.pins with pwrFail := false } else { x.pins with pwrWarn := false }) ∧ y.regs = x.regs ∧
      y.pwr.recovering = if (x.pwr.hold ∨ x.pwr.failHold) ∧ y.recoveryCond then some (x.pwr.recovering.getD (s.sys.clk.now h)) else none))
  ∧ (∀ (s : State) (h : HalfId), Completes (.pwrFail h) s (fun m => s.sys.Inside m h ∧
      let y := m.half h
      y.pins.pwrFail ∧ y.pwr.failHold ∧ y.pwr.recovering = none ∧ 6 ∈ y.boot.causes ∧ (y.reg 0x0A00000).toNat.testBit 14 ∧ y.mayRelease = false))
  ∧ (∀ (s : State) (h : HalfId) (f : Nat), supValid f → supType f = 1 → Completes (.telemetryVoltage h f) s (fun m => s.sys.Inside m h ∧
      let x := s.sys.half h; let y := m.half h
      y.pwr.vin = supValue f ∧ y.pwr.telemetryLost = false ∧ y.pwr.hold = x.pwr.hold ∧ y.regs = x.regs ∧ y.quads = x.quads))
  ∧ (∀ (s : State) (h : HalfId) (f : Nat), supValid f → supType f = 2 → Completes (.telemetryCurrent h f) s (fun m => s.sys.Inside m h ∧
      m.half h = { s.sys.half h with pwr := { (s.sys.half h).pwr with iin := supValue f, runMax := max (s.sys.half h).pwr.runMax (supValue f) } }))
  ∧ (∀ (s : State) (h : HalfId) (f : Nat) (stopOk : Bool), ¬ (supValid f ∧ stopOk) → Completes (.supervisorFrameDiscard h f stopOk) s (fun m =>
      s.sys.Inside m h ∧ m.half h = { s.sys.half h with regs := (m.half h).regs } ∧
      (m.half h).regFld 0x0A00020 31 0 = ((s.sys.half h).regFld 0x0A00020 31 0 + 1) % 2 ^ 32 ∧
      ∀ o, o ≠ 0x0A00020 → (m.half h).reg o = (s.sys.half h).reg o))

/-- Stage limit, telemetry loss, heat and issue limits (R45, R450, R451): the named quads leave sprint and are barred; at telemetry loss every quad
leaves sprint; a sample's readings are kept and its limits act; a ramping quad's limit rises by one sixteenth.
It rests on the model's choices of log entry 42. -/
def Obligations.LimitsSlowTheQuads : Prop :=
  (∀ (s : State) (h : HalfId) (f : Nat), supValid f → supType f = 4 → Completes (.stageCurrentLimit h f) s (fun m => s.sys.OnlyHalf m h ∧
    (∀ q ∈ limitQuads (supValue f), ((m.half h).quad q).sprint = none ∧ ((m.half h).quad q).barUntil = s.sys.clk.now h + 2000000000) ∧
    ((m.half h).reg 0x0A00000).toNat.testBit 13))
  ∧ (∀ (s : State) (h : HalfId), (s.sys.half h).pwr.telemetryLost = false → Completes (.telemetryLoss h) s (fun m => s.sys.OnlyHalf m h ∧
    (m.half h).pwr.telemetryLost ∧ (∀ q, q < 4 → ((m.half h).quad q).sprint = none) ∧
    (m.half h).regFld 0x0A00020 63 32 = ((s.sys.half h).regFld 0x0A00020 63 32 + 1) % 2 ^ 32))
  ∧ (∀ (s : State) (h : HalfId) (temps : List Nat), Completes (.thermalSample h temps) s (fun m => s.sys.OnlyHalf m h ∧
    (m.half h).pwr.sensors = (temps.drop 16).take 8 ∧
    ∀ q, q < 4 →
      let top := hottest ((temps.drop (4 * q)).take 4)
      ((m.half h).quad q).sensors = (temps.drop (4 * q)).take 4 ∧
      ((s.sys.half h).regFld 0x0A00060 7 0 ≤ top → ((m.half h).quad q).hot) ∧
      ((s.sys.half h).regFld 0x0A00060 15 8 ≤ top → ((m.half h).quad q).throttled)))
  ∧ (∀ (s : State) (h : HalfId) (q : Nat), q ≠ 4 → ((s.sys.half h).quad q).ramping → Completes (.issueRampStep h q) s (fun m =>
    s.sys.Inside m h ∧ ((m.half h).quad q).issue = min ((s.sys.half h).issueCap q) (((s.sys.half h).quad q).issue + 1) ∧
    (∀ k, k ≠ q → (m.half h).quad k = (s.sys.half h).quad k) ∧ (m.half h).regs = (s.sys.half h).regs))
  ∧ (∀ (s : State) (h : HalfId), Completes (.issueRampStep h 4) s (fun m => s.sys.Inside m h ∧
    m.half h = { s.sys.half h with pwr := { (s.sys.half h).pwr with dmaGroups := min 4 ((s.sys.half h).pwr.dmaGroups + 1) } }))

/-- Island and deep-idle power states and plan moves (R17, R20, R28, R452 to R454): gating, retention, waking by a delivery, the clock switch and the
voltage step of a plan move, half deep idle and the wake from it.
It rests on the model's choices of log entries 12, 99. -/
def Obligations.IslandsSleepAndWake : Prop :=
  (∀ (s : State) (h : HalfId) (i : Nat), i < 14 → ((s.sys.half h).island i).st = .run → Completes (.islandClockGate h i) s (fun m =>
    s.sys.Inside m h ∧ (m.half h).island i = { (s.sys.half h).island i with st := .clockGated } ∧
    ∀ k, k ≠ i → (m.half h).island k = (s.sys.half h).island k))
  ∧ (∀ (s : State) (h : HalfId) (i : Nat), (s.sys.half h).regFld 0x0A00008 0 0 = 1 → ((s.sys.half h).island i).st = .clockGated →
    (s.sys.half h).mayRetain i → Completes (.islandRetentionEntry h i) s (fun m =>
      s.sys.Inside m h ∧ (m.half h).island i = { (s.sys.half h).island i with st := .retention } ∧
      ∀ k, k ≠ i → (m.half h).island k = (s.sys.half h).island k))
  ∧ (∀ (s : State) (h : HalfId) (i : Nat), Completes (.crossingEntryDelivery h i) s (fun m => s.sys.OnlyHalf m h ∧
      (m.half h).island i = { (s.sys.half h).island i with st := .run } ∧ (∀ k, k ≠ i → (m.half h).island k = (s.sys.half h).island k) ∧
      m.blk.out = .crossing h i ((s.sys.half h).wakeNs i) :: s.sys.blk.out ∧ (m.half h).regs = (s.sys.half h).regs))
  ∧ (∀ (s : State) (h : HalfId) (i p : Nat), ((s.sys.half h).island i).moveTo = some p →
    (5 ≤ i → i ≤ 8 → ((s.sys.half h).quad (i - 5)).sprint = none) → Completes (.planMoveClockSwitch h i) s (fun m => s.sys.OnlyHalf m h ∧
      let old := (s.sys.half h).island i
      (m.half h).island i = { old with plan := p, moveTo := none, volPending := some old.plan, readings := [] }))
  ∧ (∀ (s : State) (h : HalfId) (i p : Nat), ((s.sys.half h).island i).volPending = some p → Completes (.planMoveVoltageStep h i) s (fun m =>
      s.sys.Inside m h ∧
      let x := s.sys.half h
      (m.half h).island i = { x.island i with volPending := none } ∧ (m.half h).regs = x.regs ∧
      (m.half h).jnl.chip.head? = some ⟨x.jnl.head, s.sys.clk.now h, 6, 7, 0, i, p, (x.island i).plan + (x.island i).margin * 2 ^ 16 + (x.island i).days * 2 ^ 48⟩))
  ∧ (∀ (s : State) (h : HalfId), s.sys.blk.mayDeepIdle h → Completes (.deepIdleEntry h) s (fun m => s.sys.Inside m h ∧
      let y := m.half h
      y.pwr.deepIdle = some (s.sys.clk.now h) ∧ y.xlt.iotlb = [] ∧ y.xlt.wcache = [] ∧ y.ware.lines = [] ∧ y.obj = (s.sys.half h).obj ∧
      y.coh = (s.sys.half h).coh ∧
      (∀ i, i < 2 ∨ i = 13 → (y.island i).st = .clockGated) ∧ (∀ i, 2 ≤ i → i < 12 → (y.island i).st = .retention) ∧
      y.island 12 = (s.sys.half h).island 12))
  ∧ (∀ (s : State) (h : HalfId) (t : Nat), (s.sys.half h).pwr.deepIdle = some t → Completes (.deepIdleWake h) s (fun m => s.sys.Inside m h ∧
      (m.half h).pwr.deepIdle = none ∧ (m.half h).pwr.dmaGroups = 1 ∧ ∀ i, i < 14 → ((m.half h).island i).st = .run))

/-- QoS buckets, wear, re-plans, the journal's spill and the monitors (R392, R394, R470, R471, R475, R485, R486).
It rests on the model's choices of log entries 12, 14, 91, 103. -/
def Obligations.PeriodicWorkKeepsItsBooks : Prop :=
  (∀ (s : State) (h : HalfId) (cls pt p : Nat) (k : Bucket), Tab.dflt (s.sys.half h).qos.buckets (bucketKey cls pt p) {} = k → k.waiting →
    ((s.sys.half h).part p).st ≠ .resetting → leaseUnits (((s.sys.half h).part p).cls cls).ceiling * 256 ≤ k.level →
    Completes (.qosLeaseGrant h cls pt p) s (fun m => s.sys.Inside m h ∧
      let n := leaseUnits (((s.sys.half h).part p).cls cls).ceiling
      Tab.dflt (m.half h).qos.buckets (bucketKey cls pt p) {} =
        { k with level := k.level - n * 256, lease := k.lease + n, waiting := false, fromPool := false } ∧
      (m.half h).qos.pools = (s.sys.half h).qos.pools ∧ (m.half h).regs = (s.sys.half h).regs))
  ∧ (∀ (s : State) (h : HalfId) (key r : Nat), ((s.sys.half h).qos.refills.map (·.1)).Nodup → (key, r) ∈ (s.sys.half h).qos.refills →
    ((s.sys.half h).part (key % 64)).st ≠ .resetting → Completes (.qosRefillTick h) s (fun m => s.sys.Inside m h ∧
      m.half h = { s.sys.half h with qos := (m.half h).qos } ∧ (m.half h).qos.refills = (s.sys.half h).qos.refills ∧
      let old := Tab.dflt (s.sys.half h).qos.buckets key {}
      Tab.dflt (m.half h).qos.buckets key {} =
        { old with level := min (old.level + r) ((((s.sys.half h).part (key % 64)).cls (key / 64 / 16)).ceiling * 256) }))
  ∧ (∀ (s : State) (h : HalfId) (i : Nat), ¬ (5 ≤ i ∧ i ≤ 8) → Completes (.wearHour h i) s (fun m => s.sys.Inside m h ∧
      let o := (s.sys.half h).island i
      (m.half h).island i = { o with powered := o.powered + 1, wear := o.wear + 3600000000000 } ∧ (m.half h).regs = (s.sys.half h).regs ∧
      (m.half h).quads = (s.sys.half h).quads))
  ∧ (∀ (s : State) (h : HalfId) (i : Nat), 5 ≤ i → i ≤ 8 → Completes (.wearHour h i) s (fun m => s.sys.Inside m h ∧
      let o := (s.sys.half h).island i
      let sp := min 3600000000000 ((s.sys.half h).quad (i - 5)).sprintNs
      (m.half h).island i = { o with powered := o.powered + 1, wear := o.wear + 3600000000000 - sp + sp * (s.sys.half h).regFld 0x0A20000 23 16 } ∧
      ((m.half h).quad (i - 5)).sprintNs = 0 ∧ (m.half h).regs = (s.sys.half h).regs))
  ∧ (∀ (s : State) (h : HalfId) (rs : List ConeReading) (periodic : Bool), Completes (.marginReplanRun h rs periodic) s (fun m =>
      s.sys.OnlyHalf m h ∧
      let y := m.half h
      y.boot.lastReplan = s.sys.clk.now h ∧ y.boot.replanRunning = false ∧ (periodic → y.boot.sprintRefused = false) ∧
      y.jnl.record = Config.serviceRecord s.sys.blk.free ∧ m.blk.free = s.sys.blk.free + 1 ∧ y.obj = (s.sys.half h).obj))
  ∧ (∀ (s : State) (h : HalfId), (s.sys.half h).pwr.hold = false → 12288 ≤ (s.sys.half h).unspilled → Completes (.journalSpill h) s (fun m =>
      s.sys.Inside m h ∧
      let x := s.sys.half h; let y := m.half h
      y.jnl.spilled = x.jnl.spilled + 4096 ∧ y.jnl.chip = x.jnl.chip ∧ y.jnl.head = x.jnl.head ∧ y.jnl.spill.length ≤ 4194304 ∧
      (∀ o, o ≠ 0x0C00010 → y.reg o = x.reg o)))
  ∧ (∀ (s : State) (h : HalfId) (g cycles : Nat) (occs : List PmcOcc), g < 12 → (s.sys.half h).boot.inReset = false →
    bitAt ((s.sys.half h).reg (pmcBase g)).toNat 0 → bits ((s.sys.half h).reg (pmcBase g)).toNat 11 8 < 14 →
    Completes (.pmcBatch h g cycles occs) s (fun m => s.sys.Inside m h ∧ m.half h = { s.sys.half h with regs := (m.half h).regs } ∧
      (m.half h).regFld (pmcBase g + 8) 47 0 = ((s.sys.half h).regFld (pmcBase g + 8) 47 0 + min 32 cycles) % 2 ^ 48 ∧
      ∀ k, k < 8 → (m.half h).regFld (pmcBase g + 0x80 + 8 * k) 47 0 =
        ((s.sys.half h).regFld (pmcBase g + 0x80 + 8 * k) 47 0 +
          pmcCount ((s.sys.half h).reg (pmcBase g)).toNat ((s.sys.half h).reg (pmcBase g + 0x40 + 8 * k)).toNat occs) % 2 ^ 48))

/-- What the error queues and the collector's registers do (R26, R428, R430, R432, R434, R436, R441, R444): the oldest entry crosses to SVC and the
first stalled one takes its place; reads of the log and clears of records; an injected message at DEBUG_LEVEL above 0; the Kiln watchdog and SRAM
errors report their kinds; the partner's fatal notice fences the half.
It rests on the model's choices of log entry 8. -/
def Obligations.CollectorCommandsAct : Prop :=
  (∀ (s : State) (h : HalfId) (i : Nat) (e : ErrMsg) (rest : List ErrMsg), Tab.dflt (s.sys.half h).err.queues i [] = e :: rest →
    Completes (.errorQueueEntryFreed h i) s (fun m => s.sys.Inside m h ∧
      let x := s.sys.half h; let y := m.half h
      y.err.arrived = x.err.arrived ++ [(i, e, false)] ∧
      Tab.dflt y.err.queues i [] = rest ++ (Tab.dflt x.err.stalled i []).take 1 ∧
      Tab.dflt y.err.stalled i [] = (Tab.dflt x.err.stalled i []).drop 1 ∧ y.regs = x.regs ∧
      ∀ k, k ≠ i → Tab.dflt y.err.queues k [] = Tab.dflt x.err.queues k []))
  ∧ (∀ (s : State) (h : HalfId) (core : Nat), (s.sys.half h).hasRoom 2 → Completes (.kilnWatchdogExpiry h core) s (fun m =>
      s.sys.Inside m h ∧ (s.sys.half h).Reported (m.half h) 2 (mkErr (s.sys.half h) 2 core 0x91 4 0 0 none core) ∧
      (m.half h).regs = (s.sys.half h).regs ∧ (m.half h).obj = (s.sys.half h).obj))
  ∧ (∀ (s : State) (h : HalfId) (w : SramAt) (cls : Nat), (s.sys.half h).boot.inReset = false → cls ≠ 1 → (s.sys.half h).hasRoom (w.place (s.sys.half h)).1 →
    Settles (.sramEccError h w cls) s (fun m => s.sys.Inside m h ∧
      let p := w.place (s.sys.half h)
      (s.sys.half h).Reported (m.half h) p.1 (mkErr (s.sys.half h) p.1 p.2 (sramKind cls).1 (sramKind cls).2) ∧
      (m.half h).regs = (s.sys.half h).regs ∧ (m.half h).xlt = (s.sys.half h).xlt ∧ (m.half h).ware = (s.sys.half h).ware))
  ∧ (∀ (s : State) (h : HalfId) (msg : ErrMsg) (pr : Bool), Completes (.fatalNoticeReceive h msg pr) s (fun m => s.sys.OnlyHalf m h ∧
      let x := s.sys.half h; let y := m.half h
      y.tdm.st = .fenced ∧ y.tdm.stopped ∧ y.boot.fatalDue = some (x.boot.fatalDue.getD (if pr then 8 else 5)) ∧ y.dma.chans = [] ∧
      y.xfm.slots = [] ∧ y.waiters = [] ∧ (pr → 8 ∈ y.boot.causes) ∧ (pr = false → (y.reg 0x0900040).toNat.testBit 0) ∧
      (pr = false → x.regFld 0x0900028 63 63 = 0 → y.regFld 0x0900028 63 63 = 1)))
  ∧ (∀ (s : State) (via : Via) (h : HalfId) (r : ErrRec) (off : Nat), (r = .first ∧ off = 0x0900010) ∨ (r = .fatal ∧ off = 0x0900028) →
    s.sys.Admits via h 0x0900010 → Completes (.errorRecordClear via h r) s (fun m => s.sys.Inside m h ∧
      let x := s.sys.half h; let y := m.half h
      y = { x with regs := y.regs } ∧ y.regFld off 63 63 = 0 ∧ y.regFld off 62 0 = x.regFld off 62 0 ∧ ∀ p, p ≠ off → y.reg p = x.reg p))
  ∧ (∀ (s : State) (via : Via) (h : HalfId) (p : Nat) (e : PartRec), s.sys.Admits via h 0x0900010 → Tab.look (s.sys.half h).err.parts p = some e →
    Completes (.errorRecordClear via h (.part p)) s (fun m => s.sys.Inside m h ∧ (m.half h).regs = (s.sys.half h).regs ∧
      Tab.look (m.half h).err.parts p = some { e with valid := false }))
  ∧ (∀ (s : State) (via : Via) (h : HalfId), s.sys.Admits via h 0x0900080 → Completes (.errorLogStatusRead via h) s (fun m =>
      s.sys.OnlyHalf m h ∧ m.blk.out = .readData ((s.sys.half h).regFld 0x0900080 47 32 * 2 ^ 32 + (s.sys.half h).err.logNext) :: s.sys.blk.out ∧
      let e := (s.sys.half h).err
      (m.half h).err = match via with
        | .fn _ _ _ => { e with irqSent := false }
        | .mctp _ => e))
  ∧ (∀ (s : State) (via : Via) (h : HalfId) (high : Bool) (e : LogEntry), s.sys.Admits via h 0x0900068 →
    Tab.look (s.sys.half h).err.log ((s.sys.half h).selector via 0x0900060 % 512) = some e →
    Completes (.errorLogEntryRead via h high) s (fun m => s.sys.OnlyHalf m h ∧
      m.blk.out = .readData (if high then msgBits e.msg / 2 ^ 64 else msgBits e.msg % 2 ^ 64) :: s.sys.blk.out ∧
      Tab.look (m.half h).err.log ((s.sys.half h).selector via 0x0900060 % 512) = some { e with read := true } ∧
      (m.half h).regs = (s.sys.half h).regs))
  ∧ (∀ (s : State) (via : Via) (h : HalfId) (v : Nat), s.sys.Admits via h 0x0900500 → via.physical → v < 2 ^ 64 →
    Completes (.errorInject via h v) s (fun m => s.sys.Inside m h ∧
      let x := s.sys.half h; let y := m.half h
      y.regs = x.regs ∧ y.err = if x.sec.debugLevel = 0 then x.err else
        { x.err with arrived := x.err.arrived ++
            [(bits v 26 23, { sev := bits v 30 28, source := bits v 27 16, kind := bits v 15 8, access := bits v 3 0 }, true)] }))
  ∧ (∀ (s : State) (via : Via) (h : HalfId) (e : SrcEntry), s.sys.Admits via h 0x0900208 →
    Tab.look (s.sys.half h).err.sources ((s.sys.half h).selector via 0x0900200 % 256) = some e →
    Completes (.severeSourceClear via h) s (fun m => s.sys.Inside m h ∧ (m.half h).regs = (s.sys.half h).regs ∧
      Tab.look (m.half h).err.sources ((s.sys.half h).selector via 0x0900200 % 256) = some { e with severe := false, count := 0 }))

/-- First-error capture (R431): while WQ_ERR_FIRST_ADDR.VALID is 0, a message that the collector accepts at DEFERRED or above puts ADDR into
WQ_ERR_FIRST_ADDR with VALID, SOURCE, KIND, SEVERITY, MASTER and ACCESS into WQ_ERR_FIRST_INFO, the stamp into WQ_ERR_FIRST_TIME, and COUNT 0, its KIND
and its SEVERITY into WQ_ERR_FIRST_MERGE. While VALID is 1 it is merged there and the captured fields stay. Either way it is the next entry of the log
ring, with its stamp. KIND and SEVERITY are those the collector handles it with (R428, R433). -/
def Obligations.AcceptedMessageIsCaptured : Prop :=
  ∀ (s : State) (h : HalfId) (i : Nat) (e : ErrMsg) (dbg : Bool) (rest : List (Nat × ErrMsg × Bool)),
    let kind := (handled e).1
    let sev0 := (handled e).2
    let sev := if (s.sys.half h).srcSevere e.source (min 10 (kind / 16)) ∧ (sev0 = 1 ∨ sev0 = 2) then sev0 + 1 else sev0
    (s.sys.half h).err.arrived = (i, e, dbg) :: rest → 2 ≤ sev → Settles (.errorMessageAccept h) s (fun m => s.sys.Quiet m ∧
      let x := s.sys.half h; let y := m.half h
      y.err.arrived = rest ∧ Tab.look y.err.log x.err.logNext = some ⟨e, s.sys.clk.now h, false, dbg⟩ ∧ y.err.logNext = (x.err.logNext + 1) % 512 ∧
      (x.regFld 0x0900010 63 63 = 0 →
        y.regFld 0x0900010 63 63 = 1 ∧ y.regFld 0x0900010 57 0 = e.addr % 2 ^ 58 ∧
        y.regFld 0x0900008 11 0 = e.source % 2 ^ 12 ∧ y.regFld 0x0900008 22 15 = kind ∧ y.regFld 0x0900008 25 23 = sev ∧
        y.regFld 0x0900008 41 26 = masterOf e ∧ y.regFld 0x0900008 45 42 = e.access % 2 ^ 4 ∧
        y.reg 0x0900018 = BitVec.ofNat 64 (s.sys.clk.now h) ∧
        y.regFld 0x0900020 15 0 = 0 ∧ y.regFld 0x0900020 47 40 = kind ∧ y.regFld 0x0900020 34 32 = sev) ∧
      (x.regFld 0x0900010 63 63 = 1 → y.reg 0x0900010 = x.reg 0x0900010 ∧ y.reg 0x0900008 = x.reg 0x0900008 ∧ y.reg 0x0900018 = x.reg 0x0900018 ∧
        y.regFld 0x0900020 15 0 = min 65535 (x.regFld 0x0900020 15 0 + 1) ∧
        y.regFld 0x0900020 47 40 = Nat.lor (x.regFld 0x0900020 47 40) kind ∧ y.regFld 0x0900020 34 32 = max (x.regFld 0x0900020 34 32) sev))

/-- Register accesses (R12, R13, R438, R495, R498, R500): a write to a power, margin, monitor or journal register of the function's own half changes that
register only; one for the other half crosses by XREQ; a virtual function's selector; a misaligned access; the lock; the MCTP register message.
It rests on the model's choices of log entries 96, 97. -/
def Obligations.RegisterAccessesAct : Prop :=
  (∀ (s : State) (port rid off v : Nat) (wide : Bool) (r : Reg), 0x0A00000 ≤ off → off < 0x0D00000 → off % (if wide then 8 else 4) = 0 →
    regAt (off / 8 * 8) = some r →
    let h := HalfId.ofPort port
    let via := Via.fn port 0 rid
    s.sys.blk.fnGate via (off + h.num * 2 ^ 24) = (s.sys.blk, true) → Completes (.registerWrite via (off + h.num * 2 ^ 24) v wide) s (fun m =>
      s.sys.Inside m h ∧
      let x := s.sys.half h; let y := m.half h; let o := off / 8 * 8
      y = { x with regs := y.regs, jnl := y.jnl } ∧
      y.reg o = regWrite r.flds x.tdm.lock (laneMask off wide) (x.reg o) (BitVec.ofNat 64 (laneVal off v wide)) ∧ ∀ p, p ≠ o → y.reg p = x.reg p))
  ∧ (∀ (s : State) (port rid off v : Nat), off < 2 ^ 24 → off % 8 = 0 →
    let h := HalfId.ofPort port
    let via := Via.fn port 0 rid
    let at_ := off + h.other.num * 2 ^ 24
    s.sys.blk.fnGate via at_ = (s.sys.blk, true) → heavyReg off = false → s.sys.blk.reach h.other → (s.sys.half h).linkUp →
    Completes (.registerWrite via at_ v true) s (fun m => s.sys.OnlyHalf m h ∧
      let x := s.sys.half h
      m.blk.out = .tandem h (.xreq x.tdm.xreqTag (.regWrite port off (v % 2 ^ 64) (2 ^ 64 - 1))) :: s.sys.blk.out ∧
      m.half h = { x with tdm := { x.tdm with xreqTag := x.tdm.xreqTag + 1, xreqOut := x.tdm.xreqOut ++ [x.tdm.xreqTag] } }))
  ∧ (∀ (s : State) (port part rid v : Nat), part ≠ 0 →
    let via := Via.fn port part rid
    s.sys.blk.fnGate via 0x10018 = (s.sys.blk, true) → Completes (.registerWrite via 0x10018 v true) s (fun m => s.sys.Quiet m ∧
      let h := HalfId.ofPort port
      (m.half h).regs = (s.sys.half h).regs ∧
      ∃ w, Tab.look ((m.half h).part part).page 0x10018 = some w ∧ w.toNat = v % 2 ^ 6))
  ∧ (∀ (s : State) (port part rid off : Nat) (write : Bool),
    let h := HalfId.ofPort port
    let via := Via.fn port part rid
    s.sys.blk.fnGate via off = (s.sys.blk, true) → (s.sys.half h).hasRoom (port % 2) →
    Completes (.misalignedRegisterAccess via off write) s (fun m => s.sys.OnlyHalf m h ∧
      (s.sys.half h).Reported (m.half h) (port % 2)
        (mkErr (s.sys.half h) (port % 2) 0 0x46 0 8 off (if part = 0 then none else some part) (port % 2)) ∧
      (m.half h).regs = (s.sys.half h).regs ∧ m.blk.out = if write then s.sys.blk.out else .readData 0 :: s.sys.blk.out))
  ∧ (∀ (s : State) (via : Via) (h : HalfId), s.sys.Admits via h 0x0010008 → via.physical →
    let k := s.sys.blk.winHalf h
    (s.sys.half k).tdm.lock = false → Completes (.lockSet via h) s (fun m => s.sys.Quiet m ∧ (m.half k).tdm.lock ∧ (s.sys.blk.linked → (m.half k.other).tdm.lock) ∧
      ∀ g, (m.half g).regs = (s.sys.half g).regs ∧ (m.half g).obj = (s.sys.half g).obj))
  ∧ (∀ (s : State) (h : HalfId) (ep off : Nat), (s.sys.half h).boot.inReset = false → mctpRegion off → off % 8 = 0 →
    off ≠ 0x0900068 → off ≠ 0x0900070 → off ≠ 0x0900080 → Completes (.mctpRegisterMessage h ep off none) s (fun m =>
      m.mem = s.sys.mem ∧ m.clk = s.sys.clk ∧ m.blk = s.sys.blk.emit (.readData (s.sys.blk.readReg s.sys.clk (.mctp ep) h off))))
  ∧ (∀ (s : State) (h : HalfId) (ep off v : Nat) (r : Reg), (s.sys.half h).boot.inReset = false → mctpRegion off → off % 8 = 0 → 0x0A00000 ≤ off →
    regAt off = some r → Completes (.mctpRegisterMessage h ep off (some v)) s (fun m => s.sys.Inside m h ∧
      let x := s.sys.half h; let y := m.half h
      (∀ p, p ≠ off → y.reg p = x.reg p) ∧
      if selectorOffs.contains off then
        y.reg off = x.reg off ∧
        Tab.look y.selMctp off = some (regWrite r.flds x.tdm.lock (2 ^ 64 - 1) (BitVec.ofNat 64 (x.selector (.mctp ep) off)) (BitVec.ofNat 64 (v % 2 ^ 64)))
      else y.reg off = regWrite (mctpFlds r.flds) x.tdm.lock (2 ^ 64 - 1) (x.reg off) (BitVec.ofNat 64 (v % 2 ^ 64))))

/-- Pairing (R56 to R59, R73, R75, R498): a half in PAIRING sends HELLO and decides by its partner's frame: PAIRED at the common feature level with the
OR of the LOCK copies, STANDBY beside a half in Freewheel, or refused with kind 0xA2; other halves answer with the code.
It rests on the model's choices of log entries 22, 80. -/
def Obligations.PairingIsDecidedByFrames : Prop :=
  (∀ (s : State) (h : HalfId), let x := s.sys.half h
    x.boot.inReset = false → x.tdm.st = .pairing → x.tdm.helloSeen = false → x.tdm.stopped = false → Completes (.helloSend h) s (fun m =>
      s.sys.OnlyHalf m h ∧ m.half h = { x with pins := { x.pins with tdmPhyUp := true } } ∧ m.blk.out = .tandem h (.hello (x.hello 0)) :: s.sys.blk.out))
  ∧ (∀ (s : State) (h : HalfId) (f : HelloFrame) (c : Instr), c = .hello h f ∨ c = .helloAck h f →
    let x := s.sys.half h
    let code := helloCode (x.hello 0) f
    x.boot.inReset = false → x.tdm.st = .pairing →
    (code = 0 → Settles c s (fun m => s.sys.Quiet m ∧ let y := m.half h
      y.tdm.st = .paired ∧ y.tdm.common = Nat.land x.fuse.features f.features ∧ y.tdm.lock = (x.tdm.lock || f.lock) ∧ y.tdm.partner = some f ∧
      y.obj = x.obj ∧ (c = .hello h f → m.blk.out.head? = some (.tandem h (.helloAck (x.hello 0)))))) ∧
    (code = 6 → x.tdm.longWindow = false → Settles c s (fun m => s.sys.OnlyHalf m h ∧ let y := m.half h
      y.tdm.st = .standby ∧ y.tdm.lock = f.lock ∧ y.tdm.partner = some f ∧ y.obj = x.obj ∧ y.regs = x.regs)) ∧
    (code = 6 → x.tdm.longWindow → Settles c s (fun m => s.sys.OnlyHalf m h ∧ let y := m.half h
      y.tdm.st = .pairing ∧ y.tdm.keptHello = some f ∧ y.obj = x.obj ∧ y.regs = x.regs)) ∧
    (code ≠ 0 → code ≠ 6 → x.hasRoom 13 → Settles c s (fun m => s.sys.OnlyHalf m h ∧ let y := m.half h
      y.tdm.st = .unpaired ∧ y.tdm.refuseCause = code ∧ x.Reported y 13 (mkErr x 13 0 0xA2 2) ∧ y.obj = x.obj ∧ y.regs = x.regs)))
  ∧ (∀ (s : State) (h : HalfId) (f : HelloFrame), let x := s.sys.half h
    let code := helloCode (x.hello 0) f
    x.boot.inReset = false → x.tdm.stopped = false → x.tdm.st ≠ .pairing → x.tdm.st ≠ .solo → x.tdm.st ≠ .freewheel →
    Settles (.hello h f) s (fun m => s.sys.OnlyHalf m h ∧ m.half h = { x with pins := { x.pins with tdmPhyUp := true } } ∧
      m.blk.out = .tandem h (.helloAck (x.hello code)) :: s.sys.blk.out))
  ∧ (∀ (s : State) (h : HalfId) (f : HelloFrame), let x := s.sys.half h
    x.boot.inReset = false → x.tdm.st = .freewheel → helloCode (x.hello 0) f = 6 → f.freewheel = false → x.regFld 0x0020008 0 0 = 1 →
    Settles (.hello h f) s (fun m => s.sys.OnlyHalf m h ∧ (m.half h).tdm.st = .paired ∧ m.blk.out.head? = some (.tandem h .online)))
  ∧ (∀ (s : State) (h : HalfId) (f : HelloFrame), let x := s.sys.half h
    x.boot.inReset = false → x.tdm.st = .pairing → x.tdm.keptHello = some f → helloCode (x.hello 0) f = 6 →
    Settles (.pairingWindowClose h) s (fun m => s.sys.OnlyHalf m h ∧ (m.half h).tdm.st = .standby ∧ (m.half h).tdm.lock = f.lock ∧
      (m.half h).obj = x.obj))

/-- Silence and Freewheel (R42, R59, R63 to R69, R72, R501): HEARTBEAT carries block time and steps a lower count forward; a silent partner stops dispatch
and is reported; the liveness word takes block time; the probes classify the loss, and on a LINK FAULT half B fences itself. The window's close without a
frame, the end of the wait after silence, and the partner's OFFLINE each leave the half in Freewheel with its partner's queues adopted, where no fence
waiter and no window has to move.
It rests on the model's choices of log entries 6, 79, 80. -/
def Obligations.SilenceLeadsToFreewheel : Prop :=
  (∀ (s : State) (h : HalfId), (s.sys.half h).beats → (s.sys.half h).linkUp → Completes (.heartbeatSend h) s (fun m =>
    s.sys.Quiet m ∧ m.blk = s.sys.blk.emit (.tandem h (.heartbeat (s.sys.clk.now h) (s.sys.half h).tdm.st.num))))
  ∧ (∀ (s : State) (h : HalfId) (time st : Nat), (s.sys.half h).beats → Completes (.heartbeat h time st) s (fun m => m.mem = s.sys.mem ∧
      m.half h.other = s.sys.half h.other ∧ m.clk.now h.other = s.sys.clk.now h.other ∧ m.blk.out = s.sys.blk.out ∧
      let x := s.sys.half h; let now := s.sys.clk.now h
      m.clk.now h = (if x.tdm.partnerTime = none ∨ h = .B then max now time else now) ∧
      m.half h = { x with tdm := { x.tdm with partnerTime := some time, slew := if h = .B ∧ time < now then (time : Int) - now else 0 } }))
  ∧ (∀ (s : State) (h : HalfId) (c : Instr), c = .partnerSilent h ∨ c = .tdmPhyDown h →
    let x := s.sys.half h
    x.boot.inReset = false → x.tdm.silentAt = none → x.tdm.st = .paired ∨ x.tdm.st = .standby → x.hasRoom 13 → Completes c s (fun m =>
      s.sys.OnlyHalf m h ∧ let y := m.half h
      y.tdm.silentAt = some (s.sys.clk.now h) ∧ y.tdm.st = x.tdm.st ∧ x.Reported y 13 (mkErr x 13 0 0xA3 3) ∧
      y.regFld 0x0020020 31 0 = (x.regFld 0x0020020 31 0 + 1) % 2 ^ 32 ∧ (∀ p, p ≠ 0x0020020 → y.reg p = x.reg p) ∧
      (c = .tdmPhyDown h → y.pins.tdmPhyUp = false) ∧ y.obj = x.obj))
  ∧ (∀ (s : State) (h : HalfId), (s.sys.half h).boot.inReset = false → (s.sys.half h).tdm.stopped = false → Completes (.livenessWrite h) s (fun m =>
      m.blk = s.sys.blk ∧ m.clk = s.sys.clk ∧ m.mem.host = s.sys.mem.host ∧
      memRead m.mem.dev (h.num * 2 ^ 45) 8 = leBytes 8 (s.sys.clk.now h % 2 ^ 64) ∧
      ∀ a, a < h.num * 2 ^ 45 ∨ h.num * 2 ^ 45 + 8 ≤ a → memGet m.mem.dev a = memGet s.sys.mem.dev a))
  ∧ (∀ (s : State) (h : HalfId) (p1 p2 : Option Nat), let x := s.sys.half h
    let cls : LossClass := match p1, p2 with
      | some a, some c => if a = c then .blockDown else .linkFault
      | _, _ => .dieDown
    x.boot.inReset = false → x.tdm.silentAt.isSome → x.tdm.lossClass = none → Settles (.livenessProbeResult h p1 p2) s (fun m =>
      s.sys.Inside m h ∧ let y := m.half h
      y.tdm.lossClass = some cls ∧ y.tdm.st = (if cls = .linkFault ∧ h = .B then .fenced else x.tdm.st) ∧
      (cls = .linkFault → (y.reg 0x0020000).toNat.testBit 11) ∧ (cls = .linkFault → h = .B → y.dma.chans = [] ∧ y.waiters = []) ∧ y.obj = x.obj))
  ∧ (∀ (s : State) (h : HalfId) (c : Instr), let x := s.sys.half h
    x.boot.inReset = false → x.obj.windows = [] → (∀ e ∈ x.obj.queues, ∀ d ∈ e.2.inflight, d.pkt.op ≠ 0x11) →
    (c = .pairingWindowClose h ∧ x.tdm.st = .pairing ∧ x.tdm.keptHello = none) ∨
    (c = .freewheelEntry h ∧ (x.tdm.st = .paired ∨ x.tdm.st = .standby) ∧ ∃ l, x.tdm.lossClass = some l ∧ (l = .dieDown → x.obj.ctxs = [])) ∨
    (c = .offline h ∧ x.tdm.st = .paired ∧ x.tdm.offlineCmd = none) →
    Settles c s (fun m => s.sys.Quiet m ∧ let y := m.half h
      y.tdm.st = .freewheel ∧ y.tdm.actingPrimary = (h == .B) ∧ y.tdm.silentAt = none ∧ y.tdm.mirUnacked = [] ∧
      y.regFld 0x0020028 63 0 = (x.regFld 0x0020028 63 0 + 1) % 2 ^ 64 ∧ y.obj = x.obj.adoptQueues h ∧ (c = .offline h → y.tdm.partnerOffline) ∧
      (∀ p, p ≠ 0x0020028 → y.reg p = x.reg p)))

/-- Mirrors and forwarded work (R55, R60 to R62, R185): a record is stored and acknowledged, and an acknowledgement frees what waited for it; a forwarded
doorbell moves its queue's producer index or is counted; XREQ is answered and XRSP retires its tag; INVAL clears translations and is acknowledged.
It rests on the model's choices of log entry 81. -/
def Obligations.MirrorsAndForwardedWork : Prop :=
  (∀ (s : State) (h : HalfId) (seq : Nat) (r : MirrorRec), let x := s.sys.half h
    x.tdm.st = .paired ∨ x.tdm.st = .standby → x.linkUp → Completes (.mirror h seq r) s (fun m => s.sys.OnlyHalf m h ∧
      m.blk.out = .tandem h (.mirrorAck seq) :: s.sys.blk.out ∧
      m.half h = { x with obj := if s.sys.blk.linked then x.obj else x.obj.store r }))
  ∧ (∀ (s : State) (h : HalfId) (seq : Nat), Completes (.mirrorAck h seq) s (fun m => s.sys.Quiet m ∧ m.blk.out = s.sys.blk.out ∧
      let x := s.sys.half h; let y := m.half h
      y.tdm = { x.tdm with mirUnacked := x.tdm.mirUnacked.erase seq } ∧ y.regs = x.regs ∧
      (∀ e ∈ y.obj.queues, (∀ d ∈ e.2.inflight, d.waitAck ≠ some seq) ∧ (∀ r ∈ e.2.replies, r.waitAck ≠ some seq)) ∧
      y.obj.queues.map (fun e => (e.1, e.2.inflight.map (·.ref), e.2.replies.map (·.ref))) =
        x.obj.queues.map (fun e => (e.1, e.2.inflight.map (·.ref), e.2.replies.map (·.ref)))))
  ∧ (∀ (s : State) (h : HalfId) (q pidx : Nat), let r := (s.sys.half h).queue q
    (r.st ≠ .absent → r.home = h → s.sys.blk.queueHome q = h → later pidx r.pidx → sub32 pidx r.cidx ≤ 2 ^ r.sqLog2 →
      Completes (.doorbellFwd h q pidx) s (fun m => s.sys.Quiet m ∧ m.blk.getQ q = { r with pidx := pidx % 2 ^ 32 } ∧
        ∀ g, (m.half g).regs = (s.sys.half g).regs)) ∧
    (r.st = .absent ∨ r.home ≠ h → Completes (.doorbellFwd h q pidx) s (fun m => s.sys.Inside m h ∧
        (m.half h).regFld 0x0030038 31 0 = ((s.sys.half h).regFld 0x0030038 31 0 + 1) % 2 ^ 32 ∧ (m.half h).obj = (s.sys.half h).obj)))
  ∧ (∀ (s : State) (h : HalfId) (tag port off : Nat), (s.sys.half h).linkUp → Settles (.xreq h tag (.regRead port off)) s (fun m =>
      s.sys.Quiet m ∧ m.blk = s.sys.blk.emit (.tandem h (.xrsp tag (s.sys.blk.readReg s.sys.clk (.fn port 0 0) h off)))))
  ∧ (∀ (s : State) (h : HalfId) (tag data : Nat), Completes (.xrsp h tag data) s (fun m => s.sys.Inside m h ∧
      m.half h = { s.sys.half h with tdm := { (s.sys.half h).tdm with xreqOut := (s.sys.half h).tdm.xreqOut.erase tag } }))
  ∧ (∀ (s : State) (h : HalfId) (seq flags ctx va pages : Nat), let x := s.sys.half h
    bitAt flags 2 = false → bitAt flags 3 = false → x.xlt.holders = [] → x.xlt.invs = [] → x.linkUp →
    Settles (.inval h seq flags ctx va pages) s (fun m => s.sys.OnlyHalf m h ∧ m.blk.out = .tandem h (.invalAck seq 0 0 0) :: s.sys.blk.out ∧
      let y := m.half h
      let lo := if bitAt flags 1 then 0 else va
      let hi := if bitAt flags 1 then 2 ^ 57 else va + pages * 4096
      y.xlt.invs = [] ∧ (∀ o, o ≠ 0x0580020 → y.reg o = x.reg o) ∧ y.obj = x.obj ∧
      ∀ p ∈ y.xlt.iotlb, p ∈ x.xlt.iotlb ∧ ¬ ((bitAt flags 0 ∨ p.ctx = ctx) ∧ p.va < hi ∧ lo < p.va + p.bytes)))
  ∧ (∀ (s : State) (h : HalfId) (seq phase result port : Nat), let x := s.sys.half h
    (∀ j ∈ x.xlt.invs, j.unsent = false) → Settles (.invalAck h seq phase result port) s (fun m => s.sys.Inside m h ∧
      let y := m.half h
      (∀ j ∈ y.xlt.invs, j.seq = seq → (if phase = 0 then j.phase0 else j.phase1) = false) ∧
      (∀ j ∈ x.xlt.invs, j.seq ≠ seq → j ∈ y.xlt.invs) ∧ y.xlt.invs.map (·.id) = x.xlt.invs.map (·.id) ∧ y.regs = x.regs ∧ y.obj = x.obj))

/-- Planned offline, return and pair reset (R72, R73, R75, R457): the drain's expiry takes the target OFFLINE; ONLINE brings a half in STANDBY back with
its partner's copies; a queue moves home; a write of WQ_PAIR_RESET with CONFIRM fences the half for reset, any other is counted.
It rests on the model's choices of log entry 82. -/
def Obligations.OfflineOnlineAndPairReset : Prop :=
  (∀ (s : State) (h : HalfId) (ref : PktRef) (t : Nat), let x := s.sys.half h
    x.tdm.offlineCmd = some (h, ref, t) → x.tdm.st = .paired → x.linkUp → Settles (.halfOfflineDrainExpiry h) s (fun m => s.sys.OnlyHalf m h ∧
      m.blk.out = .tandem h .offline :: s.sys.blk.out ∧ let y := m.half h
      y.tdm.st = .offline ∧ y.tdm.offlineCmd = none ∧ y.dma.chans = [] ∧ y.waiters = [] ∧ y.obj = x.obj ∧ y.regs = x.regs))
  ∧ (∀ (s : State) (h : HalfId), let x := s.sys.half h
    x.boot.inReset = false → x.tdm.st = .standby → (s.sys.half h.other).tdm.onlineCmd = none → Settles (.online h) s (fun m => s.sys.Quiet m ∧
      let y := m.half h
      y.tdm.st = .paired ∧ y.tdm.silentAt = none ∧ y.obj = (s.sys.half h.other).obj ∧ (m.half h.other).obj = (s.sys.half h.other).obj ∧
      (m.half h.other).regs = (s.sys.half h.other).regs))
  ∧ (∀ (s : State) (q : Nat) (k : HalfId), let r := s.sys.blk.getQ q
    let h := s.sys.blk.queueHome q
    s.sys.blk.linked → r.st ≠ .absent → r.origHome = some k → r.inflight = [] → (s.sys.half h).tdm.onlineCmd = none →
    Completes (.queueRehome q) s (fun m => s.sys.Quiet m ∧ (m.half h).queue q = { r with home := k, origHome := none, fetching := none } ∧
      (∀ p, p ≠ q → (m.half h).queue p = (s.sys.half h).queue p) ∧ ∀ g, (m.half g).regs = (s.sys.half g).regs))
  ∧ (∀ (s : State) (port rid : Nat) (h : HalfId) (v : Nat), let via := Via.fn port 0 rid
    let x := s.sys.half h
    s.sys.Admits via h 0x0010018 → bits v 15 8 = 0x5A → bitAt v 0 → Completes (.pairReset via h v) s (fun m => s.sys.OnlyHalf m h ∧
      let y := m.half h
      y.tdm.longWindow ∧ y.tdm.st = .fenced ∧ y.tdm.stopped ∧ y.boot.fatalDue = some (x.boot.fatalDue.getD 8) ∧
      (y.reg 0x0A00038).toNat.testBit 8 ∧ y.waiters = [] ∧ y.obj = x.obj ∧
      (s.sys.blk.linkCarries → Output.tandem h (.xreq x.tdm.xreqTag (.fatalNotice {} true)) ∈ m.blk.out)))
  ∧ (∀ (s : State) (via : Via) (h : HalfId) (v : Nat), s.sys.Admits via h 0x0010018 → bits v 15 8 ≠ 0x5A → Completes (.pairReset via h v) s (fun m =>
      s.sys.Inside m h ∧ m.half h = { s.sys.half h with regs := (m.half h).regs } ∧
      (m.half h).regFld 0x0600060 31 0 = ((s.sys.half h).regFld 0x0600060 31 0 + 1) % 2 ^ 32 ∧
      ∀ p, p ≠ 0x0600060 → (m.half h).reg p = (s.sys.half h).reg p))

/-- Rings of a queue (R60, R80, R87, R90, R91, R93, R98 to R101): doorbells and the head count move indices or are forwarded or counted; fetches read the
ring; replies and the index word are written to host memory; an errored queue stops and resumes; the admin queue starts and stops.
It rests on the model's choices of log entries 6, 21. -/
def Obligations.QueueRingsAct : Prop :=
  (∀ (s : State) (port part rid q v : Nat), let h := HalfId.ofPort port
    let via := Via.fn port part rid
    let x := s.sys.half h
    let r := x.queue q
    x.boot.inReset = false → s.sys.blk.mwGate via = (none, false) → r.st ≠ .absent → part = 0 ∨ (r.part = part ∧ q ≠ 0) →
    (x.tdm.st ≠ .fenced → x.tdm.st ≠ .offline → x.tdm.st ≠ .standby → r.home = h → s.sys.blk.queueHome q = h →
      (later v r.pidx → sub32 v r.cidx ≤ 2 ^ r.sqLog2 → Completes (.doorbell via q v) s (fun m => s.sys.Quiet m ∧
        m.blk.getQ q = { r with pidx := v % 2 ^ 32 } ∧ ∀ g, (m.half g).regs = (s.sys.half g).regs)) ∧
      (¬ (later v r.pidx ∧ sub32 v r.cidx ≤ 2 ^ r.sqLog2) → Completes (.doorbell via q v) s (fun m => s.sys.Inside m h ∧
        (m.half h).regFld 0x0030038 31 0 = (x.regFld 0x0030038 31 0 + 1) % 2 ^ 32 ∧ (m.half h).obj = x.obj))) ∧
    (x.tdm.st = .paired → x.tdm.offlineCmd = none → r.home ≠ h → x.linkUp → Completes (.doorbell via q v) s (fun m =>
      s.sys.Quiet m ∧ m.blk = s.sys.blk.emit (.tandem h (.doorbellFwd q (v % 2 ^ 32))))) ∧
    (s.sys.blk.queueHome q = h → Completes (.cqHeadWrite via q v) s (fun m => s.sys.Quiet m ∧ m.blk.getQ q = { r with cqHead := v % 2 ^ 32 } ∧
      m.blk.out = s.sys.blk.out ∧ ∀ g, (m.half g).regs = (s.sys.half g).regs)))
  ∧ (∀ (s : State) (q : Nat), let h := s.sys.blk.queueHome q
    let r := s.sys.blk.getQ q
    let x := s.sys.half h
    let n := min 64 (sub32 r.pidx r.fetchIdx)
    r.st = .running → r.fetching = none → x.serves → x.tdm.silentAt = none → x.tdm.offlineCmd = none → n ≠ 0 → sub32 r.pidx r.fetchIdx < 2 ^ 31 →
    r.fetched.length < 64 → s.sys.blk.ringReady (s.sys.blk.ringPort q) r.part → Completes (.packetFetch q) s (fun m => s.sys.Quiet m ∧
      m.blk.getQ q = { r with fetching := some (r.fetchIdx, n) } ∧
      m.blk.out = .hostRead (s.sys.blk.ringPort q) (r.sqBase + r.fetchIdx % 2 ^ r.sqLog2 * 64) (n * 64) :: s.sys.blk.out))
  ∧ (∀ (s : State) (q idx : Nat), let h := s.sys.blk.queueHome q
    let r := s.sys.blk.getQ q
    let x := s.sys.half h
    let p := parsePkt (ringBytes s.sys.mem r idx 1)
    r.st = .running → r.fetching = some (idx, 1) → p.hdr.len = 4 → x.checkPkt q r p (if q = 0 then adminErrs x p else []) = none →
    Completes (.packetFetchComplete q) s (fun m => s.sys.Quiet m ∧ m.blk.getQ q = { r with
      fetching := none, fetchIdx := (idx + 1) % 2 ^ 32,
      fetched := r.fetched ++ [{ ref := { q := q, slot := idx, nslots := 1, tag := p.hdr.tag, flags := p.hdr.flags }, pkt := p }] }))
  ∧ (∀ (s : State) (q what : Nat), let r := s.sys.blk.getQ q
    r.st = .running → Completes (.fetchError q what) s (fun m => s.sys.Quiet m ∧ let k := m.blk.getQ q
      k.st = .stopped ∧ k.stopCause = 3 ∧ k.fetching = none ∧ k.cidx = r.cidx ∧ k.inflight = r.inflight ∧
      k.replies = (if what = 1 then r.replies.drop 1 else r.replies)))
  ∧ (∀ (s : State) (via : Via) (q : Nat), let h := s.sys.blk.viaHalf via
    let r := s.sys.blk.getQ q
    s.sys.Admits via h 0x0030020 → s.sys.blk.queueHome q = h → r.st = .stopped → Completes (.queueResume via q) s (fun m => s.sys.Quiet m ∧
      m.blk.getQ q = { r with st := .running, stopCause := 0, fetchIdx := r.cidx, fetching := none,
                              fetched := r.fetched.filter (fun f => f.ref.nslots == 0), doneSlots := [] }))
  ∧ (∀ (s : State) (port rid : Nat) (h : HalfId), let via := Via.fn port 0 rid
    let x := s.sys.half h
    let c := (x.reg 0x0030018).toNat
    s.sys.Admits via h 0x0030018 → s.sys.blk.carriesAdmin h →
    (x.regFld 0x0030018 0 0 = 0 → 6 ≤ bits c 12 8 → bits c 12 8 ≤ 18 → 6 ≤ bits c 20 16 → bits c 20 16 ≤ 18 → (x.queue 0).st = .absent →
      Completes (.adminQueueEnable via h) s (fun m => s.sys.Quiet m ∧ (m.half h).regFld 0x0030018 0 0 = 1 ∧
        (m.half h).queue 0 = { st := .running, home := h, ringPort := s.sys.blk.adminPort h, allowPrio := true, intOnErr := bitAt c 1,
                               sqBase := (x.reg 0x0030000).toNat, cqBase := (x.reg 0x0030008).toNat, cidxAddr := (x.reg 0x0030010).toNat,
                               sqLog2 := bits c 12 8, cqLog2 := bits c 20 16, vec := bits c 42 32 })) ∧
    (x.regFld 0x0030018 0 0 = 1 → (x.queue 0).st ≠ .absent → Settles (.adminQueueDisable via h) s (fun m => s.sys.Quiet m ∧
        (m.half h).regFld 0x0030018 0 0 = 0 ∧
        ((m.half h).queue 0).st = if (x.queue 0).inflight = [] ∧ (x.queue 0).fetched = [] ∧ (x.queue 0).replies = [] then .absent else .draining)))
  ∧ (∀ (s : State) (q : Nat) (e : Reply), let h := s.sys.blk.queueHome q
    let r := s.sys.blk.getQ q
    let at_ := r.cqBase + r.cqCount % 2 ^ r.cqLog2 * 32
    r.st ≠ .absent → r.st ≠ .held → r.replies.find? (fun e => e.waitAck.isNone) = some e → (s.sys.half h).tdm.st ≠ .fenced →
    (s.sys.half h).boot.inReset = false → s.sys.blk.quiet q = false → s.sys.blk.ringReady (s.sys.blk.ringPort q) r.part →
    Completes (.replyWrite q) s (fun m => m.clk = s.sys.clk ∧ m.mem.dev = s.sys.mem.dev ∧
      memRead m.mem.host at_ 32 = replyBytes e (s.sys.clk.now h % 2 ^ 32) ∧
      (∀ a, a < at_ ∨ at_ + 32 ≤ a → memGet m.mem.host a = memGet s.sys.mem.host a) ∧
      let k := m.blk.getQ q
      k.replies = r.replies.erase e ∧ k.cqCount = (r.cqCount + 1) % 2 ^ 32 ∧ k.idxDirty ∧ k.st = r.st ∧ k.inflight = r.inflight))
  ∧ (∀ (s : State) (q : Nat), let r := s.sys.blk.getQ q
    r.st ≠ .absent → r.idxDirty → s.sys.blk.quiet q = false → s.sys.blk.ringReady (s.sys.blk.ringPort q) r.part →
    Completes (.indexWordWrite q) s (fun m => m.clk = s.sys.clk ∧ m.mem.dev = s.sys.mem.dev ∧
      memRead m.mem.host r.cidxAddr 8 = leBytes 8 r.cqCount ∧
      (∀ a, a < r.cidxAddr ∨ r.cidxAddr + 8 ≤ a → memGet m.mem.host a = memGet s.sys.mem.host a) ∧
      m.blk.getQ q = { r with idxDirty := false, idxPosted := r.cqCount, msixAfterIdx := false }))

/-- Interrupt messages (R212, R389, R390): a ripe message that may leave is sent with its table entry and takes one interrupt-rate unit; in
containment it is discarded; without a lease one is asked for; HOLDOFF's end makes it ripe; unmasking clears the mask. -/
def Obligations.MessagesLeaveAsModerated : Prop :=
  ∀ (s : State) (port part vec : Nat), let h := HalfId.ofPort port
    let p := port % 2
    let x := s.sys.half h
    let key := vecKey p part vec
    (∀ e, Tab.look x.msgs key = some e →
      ((x.port p).contained = false → s.sys.blk.msixReady port part vec → Completes (.msixSend port part vec) s (fun m => s.sys.OnlyHalf m h ∧
        m.blk.out = .msix port part vec (Tab.dflt x.msix key {}).addr (Tab.dflt x.msix key {}).data :: s.sys.blk.out ∧
        Tab.look (m.half h).msgs key = none ∧ (m.half h).regs = x.regs ∧
        (Tab.dflt (m.half h).qos.buckets (bucketKey 4 p part) {}).lease = (Tab.dflt x.qos.buckets (bucketKey 4 p part) {}).lease - 1)) ∧
      ((x.port p).contained → Completes (.msixSend port part vec) s (fun m => s.sys.Inside m h ∧ Tab.look (m.half h).msgs key = none ∧
        ((m.half h).port p).dropped = (x.port p).dropped + 1)) ∧
      ((x.port p).contained = false → e.ripe → x.hasLease 4 p part = false → Completes (.msixSend port part vec) s (fun m => s.sys.Inside m h ∧
        (Tab.dflt (m.half h).qos.buckets (bucketKey 4 p part) {}).waiting ∧ (m.half h).msgs = x.msgs)) ∧
      Completes (.msixHoldoffExpiry port part vec) s (fun m => s.sys.Inside m h ∧ Tab.look (m.half h).msgs key = some { e with ripe := true } ∧
        (m.half h).regs = x.regs)) ∧
    Completes (.msixUnmask port part vec) s (fun m => s.sys.Inside m h ∧ (m.half h).regs = x.regs ∧
      Tab.dflt (m.half h).msix key {} = { Tab.dflt x.msix key {} with masked := false } ∧ (m.half h).msgs = x.msgs)

/-- Packet commands (R61, R76, R87, R92 to R96, R145, R202): a packet that its queue takes at once is fetched, dispatched and run as its opcode says: on a
channel as far as it goes, or in the command processor. What dispatching leaves: it is the one packet in flight on its queue, whose indices have
moved past it; memory, block time, registers and every other queue and object are as they were.
It rests on the model's choices of log entry 6. -/
def Obligations.PacketsAreTakenAndRun : Prop :=
  (∀ (c : Instr) (s : State) (q : Nat) (p : Pkt), packetOf c = some (q, p) → s.sys.Takes q p →
    let h := s.sys.blk.queueHome q
    (p.takesChan = false → let k := s.sys.taken q p
      Settles c s (fun m => m = if 0x60 ≤ p.op then k.1.adminPkt h k.2 true true else k.1.userPkt h k.2 true)) ∧
    (p.takesChan → let f := s.sys.fetchedAt q p
      ∀ n, f.1.submitCheck h f.2 true = (n, none) → let b := n.blk.startPkt n.clk h f.2 true
        let d := n.blk.queryData h p
        ∀ k ch, Mach.assign { n with blk := b.1 } h b.2 d.1 d.2 = some (k, ch) →
          Settles c s (fun m => m = (k.runChan h ch (k.chan h ch).fuel).fabDrain h 64)))
  ∧ (∀ (s : State) (q : Nat) (p : Pkt), s.sys.Takes q p → let r := s.sys.blk.getQ q
    let next := (r.fetchIdx + p.hdr.slots) % 2 ^ 32
    let k := s.sys.taken q p
    k.2.ref = s.sys.refOf q p ∧ k.2.pkt = p ∧ k.2.half = s.sys.blk.queueHome q ∧ k.2.waitAck = none ∧
    k.1.blk.queueHome q = s.sys.blk.queueHome q ∧ s.sys.OnlyQueue k.1 q ∧
    k.1.blk.getQ q = { r with pidx := if later next r.pidx then next else r.pidx, fetchIdx := next, inflight := [k.2] })

/-- How packets end (R79 to R82, R94): a packet of the command processor that ends puts its reply, with the outcome and its reference, into its queue's
replies, it leaves the packets in flight, and its signal trailer waits, with the error flag unless STATUS is OK; a packet that fails its checks does not
execute, but completes with the status and DETAIL of the first check it fails, and nothing but its queue changes.
It rests on the model's choices of log entries 30, 31. -/
def Obligations.EndedPacketIsAnswered : Prop :=
  (∀ (m : Mach) (h : HalfId) (d : Disp) (st det res fa : Nat), let r := m.blk.getQ d.ref.q
    r.st ≠ .absent → let n := m.endPkt h d st det res fa true
    m.OnlyQueue n d.ref.q ∧ n.blk.getQ d.ref.q = { r with
      inflight := r.inflight.filter (fun e => e.ref.slot != d.ref.slot), fetched := r.fetched.filter (fun e => e.ref.slot != d.ref.slot),
      replies := r.replies ++ [{ ref := d.ref, status := st, detail := det, half := h, result := res % 2 ^ 64, faultAddr := fa % 2 ^ 64 }],
      trailers := match d.pkt.hdr.trailer with
        | some (f, v) => r.trailers ++ [{ ref := d.ref, fence := f, value := v, err := st != 0 }]
        | none => r.trailers })
  ∧ (∀ (c : Instr) (s : State) (q : Nat) (p : Pkt) (st det : Nat), packetOf c = some (q, p) → let r := s.sys.blk.getQ q
    let x := s.sys.half (s.sys.blk.queueHome q)
    r.st = .running → r.fetching = none → r.fetched = [] → r.inflight = [] → x.serves → 4 ≤ p.hdr.len → p.hdr.len ≤ 32 →
    x.checkPkt q r p (if q = 0 then adminErrs x p else []) = some (st, det) →
    Settles c s (fun m => s.sys.OnlyQueue m q ∧ s.sys.Replied m q p st det 0 0))

/-- The values of fences (R112): a packet that would pass its checks but for a VALUE of FENCE_SIGNAL or FENCE_WAIT at or above 2^63 completes with INVALID_PARAM,
DETAIL 12, and one that would pass but for a signal trailer value at or above 2^63 with the DETAIL of the trailer's offset; nothing but its queue
changes. -/
def Obligations.FenceValuesKeepBit63Clear : Prop :=
  ∀ (c : Instr) (s : State) (q : Nat) (p : Pkt), packetOf c = some (q, p) → let r := s.sys.blk.getQ q
    let x := s.sys.half (s.sys.blk.queueHome q)
    let passes (p : Pkt) : Prop := x.checkPkt q r p (if q = 0 then adminErrs x p else []) = none
    r.st = .running → r.fetching = none → r.fetched = [] → r.inflight = [] → x.serves → 4 ≤ p.hdr.len → p.hdr.len ≤ 32 →
    (∀ f v rest, p.op = 0x10 ∨ p.op = 0x11 → p.args = f :: v :: rest → 2 ^ 63 ≤ v → passes { p with args := f :: 0 :: rest } →
      Settles c s (fun m => s.sys.OnlyQueue m q ∧ s.sys.Replied m q p 0x11 12 0 0)) ∧
    (∀ f v, p.hdr.trailer = some (f, v) → 2 ^ 63 ≤ v → passes { p with hdr := { p.hdr with trailer := some (f, 0) } } →
      Settles c s (fun m => s.sys.OnlyQueue m q ∧ s.sys.Replied m q p 0x11 (p.hdr.len * 8 - 4) 0 0))

/-- Byte-moving and query packets on the admin queue (R78, R126, R193, R197): within one page of device memory in reach they write their bytes at the
physical address, change no other byte, and complete OK with the byte count.
It rests on the model's choices of log entry 31. -/
def Obligations.PhysicalMovesWriteTheirBytes : Prop :=
  ∀ (c : Instr) (s : State) (p : Pkt) (dst : Nat) (bs : List Byte), packetOf c = some (0, p) → s.sys.Takes 0 p →
    let h := s.sys.blk.queueHome 0
    let x := s.sys.half h
    (∃ hdr body, c = .fill 0 hdr body ∧ dst = body.dst ∧
      bs = (List.range body.count).map (fun i => (leBytes 16 body.pattern).getD (i % 16) 0)) ∨
    (∃ hdr body, c = .writeInline 0 hdr body ∧ dst = body.dst ∧ bs = hdr.payload.take body.n ∧ bs.length = body.n) ∨
    (∃ hdr body, c = .copy 0 hdr body ∧ dst = body.dst ∧ bs = memRead s.sys.mem.dev body.src body.count ∧ bitAt body.src 63 = false ∧
      body.src % 4096 + body.count ≤ 4096 ∧ x.devOk body.src ∧ s.sys.blk.toHome h body.src body.count = false ∧
      s.sys.mem.poisoned body.src body.count = false ∧ (body.dst ≤ body.src ∨ body.src + body.count ≤ body.dst)) ∨
    (∃ hdr body, (c = .queryCapability 0 hdr body ∨ c = .queryAllocator 0 hdr body) ∧ dst = body.dst ∧
      bs = queryRecord s.sys.blk h 0 0 (p.arg 0) (p.arg 1) ∧ bs.length ≤ body.max ∧ 0 < bs.length) →
    bitAt dst 63 = false → dst % 4096 + bs.length ≤ 4096 → x.devOk dst → s.sys.blk.toHome h dst bs.length = false → x.xlt.holders = [] →
    x.fab.instant = [] → bitAt p.hdr.flags 1 = false → (x.pickChan p.short).isSome →
    Settles c s (fun m => m.clk = s.sys.clk ∧ s.sys.Replied m 0 p 0 0 bs.length 0 ∧ m.mem.host = s.sys.mem.host ∧
      memRead m.mem.dev dst bs.length = bs ∧
      (∀ a, a < dst ∨ dst + bs.length ≤ a → memGet m.mem.dev a = memGet s.sys.mem.dev a) ∧ ∀ g, (m.half g).regs = (s.sys.half g).regs)

/-- Admin packets that make and end contexts and queues (R83 to R85, R103, R105, R108, R109): each takes effect and completes OK, or waits for what
still runs.
It rests on the model's choices of log entry 24. -/
def Obligations.AdminMakesContextsAndQueues : Prop :=
  ∀ (s : State) (p : Pkt) (hdr : Hdr), s.sys.Takes 0 p → let h := s.sys.blk.queueHome 0
    let x := s.sys.half h
    (∀ b : CtxBody, packetOf (.ctxCreate 0 hdr b) = some (0, p) → x.ctx? b.ctx = none → b.fenceLog2 = 0 →
      (bitAt b.cflags 0 → x.sec.debugLevel = 0 ∧ x.sec.tainted = false ∧ (s.sys.half h.other).sec.debugLevel = 0 ∧
        (s.sys.half h.other).sec.tainted = false) →
      s.sys.rootMeets b.root b.heapVa (b.heapVa + b.heapSize) (b.heapSize / 4096 + 1) = false → x.obj.ctxs.length < 4096 →
      x.ctxsIn b.part < x.ctxQuota b.part → Settles (.ctxCreate 0 hdr b) s (fun m => s.sys.Still m ∧ s.sys.Replied m 0 p 0 0 0 0 ∧
        (m.half h).ctx? b.ctx = some {
          st := .created, part := b.part, confidential := bitAt b.cflags 0, fabric := bitAt b.cflags 1, root := b.root,
          drainNs := b.drainNs, fenceVa := b.fenceVa, eventLog2 := b.eventLog2, eventVec := b.eventVector, eventVa := b.eventVa,
          heapVa := b.heapVa, heapSize := b.heapSize, seed := b.seed } ∧
        (∀ k, k ≠ b.ctx → (m.half h).ctx? k = x.ctx? k) ∧ (m.half h).obj.mems = x.obj.mems ∧
        ((m.half h).part b.part).sealed = ((x.part b.part).sealed || bitAt b.cflags 0))) ∧
    (∀ b : QueueBody, packetOf (.queueCreate 0 hdr b) = some (0, p) → ∀ c hm orig, x.ctx? b.ctx = some c → c.st = .created ∨ c.st = .active →
      c.part = b.part → (s.sys.blk.getQ b.queue).st = .absent → x.newHome b.part (bits b.qflags 3 2) = some (hm, orig) →
      x.tdm.st = .paired ∨ x.tdm.st = .freewheel ∨ HalfId.ofPort (bits b.qflags 5 4) = x.id → s.sys.blk.unbonded (bits b.qflags 5 4) b.part = false →
      x.queuesIn b.part < x.queueQuota b.part → Settles (.queueCreate 0 hdr b) s (fun m => s.sys.Still m ∧ s.sys.Replied m 0 p 0 0 hm.num 0 ∧
        (m.half h).queue b.queue = {
          st := .running, part := b.part, ctx := b.ctx, allowPrio := bitAt b.qflags 0, intOnErr := bitAt b.qflags 1,
          home := hm, origHome := orig, ringPort := bits b.qflags 5 4, sqBase := b.sqBase, sqLog2 := b.sqLog2, cqLog2 := b.cqLog2,
          vec := b.vector, cqBase := b.cqBase, cidxAddr := b.cidx } ∧
        (m.half h).ctx? b.ctx = some { c with st := .active } ∧ ∀ k, k ≠ b.queue → k ≠ 0 → (m.half h).queue k = x.queue k)) ∧
    (∀ b : QueueDestroyBody, packetOf (.queueDestroy 0 hdr b) = some (0, p) → let r := s.sys.blk.getQ b.queue
      s.sys.blk.queueHome b.queue = h → r.st = .running ∨ r.st = .stopped → r.drain = none →
      (r.inflight ≠ [] ∨ r.fetched ≠ [] → Settles (.queueDestroy 0 hdr b) s (fun m => s.sys.Still m ∧ s.sys.Waits m 0 p ∧
        (m.blk.getQ b.queue).st = .draining ∧ (m.blk.getQ b.queue).fetching = none ∧ (m.blk.getQ b.queue).inflight = r.inflight ∧
        (m.blk.getQ b.queue).fetched = r.fetched)) ∧
      (r.inflight = [] → r.fetched = [] → r.trailers = [] → r.replies = [] → r.idxDirty = false → Settles (.queueDestroy 0 hdr b) s (fun m =>
        s.sys.Still m ∧ s.sys.Replied m 0 p 0 0 r.cidx 0 ∧ (m.half h).queue b.queue = {} ∧
        ∀ k, k ≠ b.queue → k ≠ 0 → (m.half h).queue k = x.queue k))) ∧
    (∀ b : CtxDestroyBody, packetOf (.ctxDestroy 0 hdr b) = some (0, p) → ∀ c, x.ctx? b.ctx = some c → c.st ≠ .draining → c.st ≠ .destroyed →
      (∃ q, q ∈ s.sys.blk.ctxQueues h b.ctx ∧ (s.sys.blk.getQ q).inflight ≠ []) → x.obj.streams = [] →
      Settles (.ctxDestroy 0 hdr b) s (fun m => s.sys.Still m ∧ s.sys.Waits m 0 p ∧
        (m.half h).ctx? b.ctx = some { c with st := .draining, drain := some {
          start := s.sys.clk.now h, step := 2, reply := some (s.sys.refOf 0 p),
          bound := if bitAt b.dflags 0 then b.drainNs else if c.drainNs = 0 then (x.reg 0x0030058).toNat else c.drainNs } } ∧
        ∀ q, q ∈ s.sys.blk.ctxQueues h b.ctx → (m.blk.getQ q).st = .draining ∧ (m.blk.getQ q).fetched = [] ∧
          (m.blk.getQ q).inflight = (s.sys.blk.getQ q).inflight))

/-- Admin packets for partitions, key slots and regions (R376, R377, R386, R387, R415, R417): each change is made, journalled and completes OK; a
sweep starts with the slot RETIRING and completes later.
It rests on the model's choices of log entries 12, 17, 61. -/
def Obligations.AdminSetsPartitionsKeysAndRegions : Prop :=
  ∀ (s : State) (p : Pkt) (hdr : Hdr), s.sys.Takes 0 p → let h := s.sys.blk.queueHome 0
    let x := s.sys.half h
    let ok (c : Instr) (res : Nat) (P : Half → Prop) : Prop := Settles c s (fun m => s.sys.Still m ∧ s.sys.Replied m 0 p 0 0 res 0 ∧
      (m.half h).jnl.head = x.jnl.head + 1 ∧ P (m.half h))
    let keyTo (id slot : Nat) (k : KeySlot) (y : Half) : Prop := ∀ c, x.ctx? id = some c →
      y.ctx? id = some (if slot = 0 then { c with slot0 := k } else { c with slot1 := k })
    (∀ b : PartBody, packetOf (.partConfig 0 hdr b) = some (0, p) → let old := x.part b.part
      let others := x.obj.parts.filter (fun e => e.1 != 0 && e.1 != b.part)
      bitAt b.pflags 0 = old.allocator → bitAt b.pflags 1 = false → b.memBase = old.memBase → b.memSize = old.memSize → x.glaze →
      b.part ≠ 0 → old.st ≠ .resetting → x.ctxsIn b.part = 0 → (∀ e ∈ x.obj.parts, e.2.strict = false) →
      (b.memSize ≠ 0 → ∀ e ∈ others, e.2.memSize = 0 ∨ meets b.memBase b.memSize e.2.memBase e.2.memSize = false) →
      (others.map (fun e => e.2.maxCtx)).sum + b.maxCtx + x.ctxsIn 0 ≤ 4096 →
      (others.map (fun e => e.2.maxQueue)).sum + b.maxQueue + x.queuesIn 0 ≤ 16384 → (∀ e ∈ x.obj.frames, x.framePart e.1 = some 0 →
        e.1 < viewFrame b.memBase ∨ viewFrame b.memBase + b.memSize / 2 ^ 21 ≤ e.1) →
      (others.map (fun e => e.2.maxQueue)).sum + b.maxQueue ≤ 16383 →
      ok (.partConfig 0 hdr b) 0 (fun y => y.part b.part = { old with
        strict := false, noPool := bitAt b.pflags 2, userPmc := bitAt b.pflags 3, maxCtx := b.maxCtx, maxQueue := b.maxQueue,
        host := { weight := b.hw, ceiling := b.hc }, fabric := { weight := b.fw, ceiling := b.fc }, spoke := { weight := b.sw, ceiling := b.sc },
        xfm := { weight := b.xw, ceiling := b.xc }, irq := { weight := b.iw, ceiling := b.ic } } ∧ ∀ n, n ≠ b.part → y.part n = x.part n)) ∧
    (∀ b : KeyBody, packetOf (.keyInstall 0 hdr b) = some (0, p) → ∀ c k, x.ctx? b.ctx = some c → c.st = .created ∨ c.st = .active →
      c.confidential → Tab.look x.obj.staged b.handle = some k → k.ctx = b.ctx → c.slot0.epoch < k.epoch →
      c.slot1.epoch < k.epoch → (c.key (bits b.slot 0 0)).st = .free → let slot := bits b.slot 0 0
      (bitAt b.kflags 0 = false → ok (.keyInstall 0 hdr b) 0 (fun y =>
        keyTo b.ctx slot { st := .live, epoch := k.epoch, pages := 0, key := k.key } y ∧ Tab.look y.obj.staged b.handle = none)) ∧
      (bitAt b.kflags 0 → c.sealSize = 0 → c.meetsOwn b.sealVa b.sealSize true = false → Settles (.keyInstall 0 hdr b) s (fun m =>
        m.clk = s.sys.clk ∧ m.mem.host = s.sys.mem.host ∧
        ((s.sys.Replied m 0 p 0x40 0 0 0 ∧ s.sys.OnlyQueue m 0) ∨
         (s.sys.Replied m 0 p 0 0 0 0 ∧ ∃ e, (m.half h).ctx? b.ctx = some e ∧ e.st = c.st ∧
            e.key slot = { st := .live, epoch := k.epoch, pages := b.sealSize / 4096, key := k.key } ∧
            e.sealVa = b.sealVa ∧ e.sealSize = b.sealSize ∧ e.sealHost = b.hostBase ∧ e.sealMeta = b.metaVa))))) ∧
    (∀ b : KeyRetireBody, ∀ c, x.ctx? b.ctx = some c → c.st = .created ∨ c.st = .active → let slot := bits b.slot 0 0
      (c.key slot).st = .live → (c.key (1 - slot)).st ≠ .retiring → x.sec.sweepRef = none →
      (packetOf (.keyRetire 0 hdr b) = some (0, p) → (c.key slot).pages = 0 → ok (.keyRetire 0 hdr b) 0 (keyTo b.ctx slot (c.key slot).freed)) ∧
      (packetOf (.keyRetireSweep 0 hdr b) = some (0, p) → (c.key (1 - slot)).st = .live → (c.key slot).epoch < (c.key (1 - slot)).epoch →
        x.sec.sweeping = false → Settles (.keyRetireSweep 0 hdr b) s (fun m => s.sys.Still m ∧ s.sys.Waits m 0 p ∧
          keyTo b.ctx slot { c.key slot with st := .retiring } (m.half h) ∧ (m.half h).sec = { x.sec with
            sweepCtx := b.ctx, sweeping := true, swept := 0, sweepSlot := slot, sweepRef := some (s.sys.refOf 0 p) }))) ∧
    (∀ b : RegionBody, packetOf (.regionRegister 0 hdr b) = some (0, p) → ∀ c n, x.ctx? b.ctx = some c → c.st = .created ∨ c.st = .active →
      (bitAt b.rflags 2 → c.confidential) → (bitAt b.rflags 2 = false → (x.part c.part).sealed = false) →
      (∀ r ∈ x.obj.regions, r.2.rid = b.rid → meets r.2.off r.2.size b.mwOff b.size = false) →
      (∀ i, i < b.size / 4096 → x.regionOk b.ctx c.part (viewFrame b.mwOff * 2 ^ 21 + b.mwOff % 2 ^ 21 + i * 4096)) →
      Tab.free x.obj.regions 0 1024 = some n → (∀ o ∈ x.obj.mems, o.count < 65535) → ok (.regionRegister 0 hdr b) n (fun y =>
        y.obj.regions = Tab.put x.obj.regions n {
          ctx := b.ctx, rd := bitAt b.rflags 0, wr := bitAt b.rflags 1, sealed := bitAt b.rflags 2,
          pasid := if bitAt b.rflags 3 then some b.pasid else none, rid := b.rid, off := b.mwOff, size := b.size } ∧ y.obj.ctxs = x.obj.ctxs)) ∧
    (∀ b : RegionReleaseBody, packetOf (.regionRelease 0 hdr b) = some (0, p) → ∀ r, Tab.look x.obj.regions b.handle = some r →
      ok (.regionRelease 0 hdr b) 0 (fun y => y.obj.regions = Tab.del x.obj.regions b.handle ∧ y.obj.ctxs = x.obj.ctxs))

/-- Admin packets that stage and start firmware (R465, R466, R473): a chunk lands in the pending copy, LAST authenticates it, ACTIVATE starts it on a
half in Bisque service, and SERVICE delivers the service record.
It rests on the model's choices of log entries 14, 16, 74. -/
def Obligations.AdminStagesFirmware : Prop :=
  ∀ (s : State) (p : Pkt) (hdr : Hdr) (b : FwBody) (c : Instr), s.sys.Takes 0 p → packetOf c = some (0, p) →
    let k : HalfId := if bitAt b.half 0 then .B else .A
    let y := s.sys.half k
    let bs := s.sys.mem.readHost (b.src % 2 ^ 63) b.len
    let old := if bitAt b.sflags 0 then none else y.boot.pendingCopy
    let img := if b.len = 0 then old.getD {} else (old.getD {}).chunk b.offset bs
    let bisque := y.boot.stage = 1 ∨ y.boot.stage = 2 ∨ y.boot.stage = 5
    let code := y.fwCheck (s.sys.blk.partnerMajor k) img.bytes
    let ok (st det : Nat) (P : Half → Prop) : Prop := Settles c s (fun m => s.sys.Quiet m ∧ s.sys.Replied m 0 p st det 0 0 ∧ P (m.half k))
    s.sys.blk.answers (s.sys.blk.queueHome 0) k → y.boot.mctpImage = false → (b.len ≠ 0 → s.sys.blk.portReady (s.sys.blk.ringPort 0) 0) →
    ((∀ i, old = some i → i.last = false) → y.tdm.st ≠ .offline →
      (c = .fwStage 0 hdr b → b.len ≠ 0 → ok 0 0 (fun z => z.boot.pendingCopy = some img ∧ z.boot.running = y.boot.running ∧ z.regs = y.regs)) ∧
      (c = .fwStageLast 0 hdr b → b.len ≠ 0 →
        (code = 0 → ok 0 0 (fun z => z.boot.pendingCopy = some img.passed ∧ z.boot.running = y.boot.running ∧ z.regs = y.regs)) ∧
        (code ≠ 0 → y.hasRoom 12 → ok 0x12 8 (fun z => z.boot.fwErr = code ∧ y.Reported z 12 (mkErr y 12 0 0x92 2) ∧
          z.boot.running = y.boot.running)))) ∧
    (c = .fwStageActivate 0 hdr b → bitAt b.sflags 1 → b.len ≠ 0 → (∀ i, old = some i → i.last = false) → bisque → code = 0 →
      ok 0 0 (fun z => z.boot.running = some img.passed ∧ z.boot.stage = 3 ∧ z.boot.pendingCopy = none ∧ z.regs = y.regs)) ∧
    (∀ i, c = .fwStageActivate 0 hdr b → bitAt b.sflags 0 = false → bitAt b.sflags 1 = false → b.len = 0 →
      old = some i → i.good → i.last →
      (bisque → y.fwCheck (s.sys.blk.partnerMajor k) i.bytes = 0 → ok 0 0 (fun z => z.boot.running = some i ∧ z.boot.activeCopy = some i ∧
        z.boot.stage = 3 ∧ z.boot.pendingCopy = none ∧ z.boot.fwErr = 0 ∧ z.regs = y.regs)) ∧
      (¬ bisque → y.tdm.st ≠ .offline → ok 0x12 8 (fun z => z.boot.running = y.boot.running ∧ z.boot.pendingCopy = some i ∧ z.regs = y.regs))) ∧
    (c = .fwStageService 0 hdr b → bitAt b.sflags 0 → bitAt b.sflags 1 → bitAt b.sflags 2 = false → b.offset = 0 → b.len = 4096 →
      (Config.recordAuthentic y.fuse.serial bs → y.boot.inReset = false →
        ok 0 0 (fun z => z.boot.service ∧ z.boot.recordIn = bs ∧ z.boot.pendingCopy = y.boot.pendingCopy ∧ z.regs = y.regs)) ∧
      (Config.recordAuthentic y.fuse.serial bs = false → ok 0x12 8 (fun z => z.boot.service = false ∧ z.boot.recordIn = [] ∧ z.regs = y.regs)))

/-- Admin packets that read and repair (R422, R468, R470, R475): journal entries and the service record are written where asked, DIAG words are kept,
a re-plan runs, and a die port is admitted or waits for its link.
It rests on the model's choices of log entries 18, 72. -/
def Obligations.AdminReadsAndRepairs : Prop :=
  ∀ (s : State) (p : Pkt) (hdr : Hdr), s.sys.Takes 0 p → let h := s.sys.blk.queueHome 0
    let x := s.sys.half h
    (∀ (b : JournalBody) (c : Instr), let k : HalfId := if bitAt b.half 0 then .B else .A
      let es := (((s.sys.blk.journalOf h k).1).filter (fun e => decide (b.from_ ≤ e.seq))).take b.count
      let bs := if c = .journalRead 0 hdr b then es.flatMap JEntry.bytes else (s.sys.half k).jnl.record.take 4096
      let n := if c = .journalRead 0 hdr b then es.length else 1
      c = .journalRead 0 hdr b ∨ c = .journalReadService 0 hdr b → packetOf c = some (0, p) → s.sys.blk.answers h k →
      (c = .journalRead 0 hdr b → (s.sys.half k).jnl.head ≤ b.from_ ∨ ∃ e ∈ (s.sys.blk.journalOf h k).1, e.seq = b.from_) →
      ((∀ e ∈ (s.sys.blk.journalOf h k).1, b.from_ ≤ e.seq) ∨ es = [] ∨ c ≠ .journalRead 0 hdr b) →
      (bitAt b.dst 63 = false → Settles c s (fun m => s.sys.Replied m 0 p 0 0 n 0 ∧ m.mem = s.sys.mem.writeDev b.dst bs ∧
        memRead m.mem.dev b.dst bs.length = bs ∧ ∀ g, (m.half g).regs = (s.sys.half g).regs)) ∧
      (bitAt b.dst 63 → s.sys.blk.portReady (s.sys.blk.ringPort 0) 0 → Settles c s (fun m => s.sys.Replied m 0 p 0 0 n 0 ∧
        m.mem = s.sys.mem.writeHost (b.dst % 2 ^ 63) bs ∧ memRead m.mem.host (b.dst % 2 ^ 63) bs.length = bs ∧
        ∀ g, (m.half g).regs = (s.sys.half g).regs))) ∧
    (∀ b : DiagBody, let key := b.array * 2 ^ 40 + b.index
      (packetOf (.diagRead 0 hdr b) = some (0, p) → ∀ w, Tab.look x.sec.diag key = some w → Settles (.diagRead 0 hdr b) s (fun m =>
        s.sys.OnlyQueue m 0 ∧ s.sys.Replied m 0 p 0 0 w 0)) ∧
      (packetOf (.diagRead 0 hdr b) = some (0, p) → Tab.look x.sec.diag key = none → Settles (.diagRead 0 hdr b) s (fun m =>
        s.sys.OnlyQueue m 0 ∧ s.sys.Replied m 0 p 0 0 (Config.diagWord b.array b.index s.sys.blk.free) 0)) ∧
      (packetOf (.diagWrite 0 hdr b) = some (0, p) → 2 ≤ x.sec.debugLevel → Settles (.diagWrite 0 hdr b) s (fun m =>
        s.sys.Still m ∧ s.sys.Replied m 0 p 0 0 0 0 ∧ (m.half h).sec = { x.sec with diag := Tab.put x.sec.diag key b.data }))) ∧
    (packetOf (.marginReplan 0 hdr) = some (0, p) → x.boot.replanRunning = false → Settles (.marginReplan 0 hdr) s (fun m =>
      s.sys.Quiet m ∧ s.sys.Replied m 0 p 0 0 0 0 ∧ (m.half h).boot.lastReplan = s.sys.clk.now h ∧ (m.half h).obj.ctxs = x.obj.ctxs)) ∧
    (∀ b : ChipBody, packetOf (.chipletAdmit 0 hdr b) = some (0, p) → h = (if b.chip / 8 = 0 then HalfId.A else .B) → let d := b.chip % 8
      let port := Tab.dflt x.dies d {}
      port.st ≠ 1 → port.admitFor = none →
      (port.link = false → Settles (.chipletAdmit 0 hdr b) s (fun m => s.sys.Still m ∧ s.sys.Waits m 0 p ∧
        Tab.dflt (m.half h).dies d {} = { port with st := 4, admitFor := some (s.sys.refOf 0 p) })) ∧
      (port.link → port.check = 0 → Settles (.chipletAdmit 0 hdr b) s (fun m => s.sys.Still m ∧ s.sys.Replied m 0 p 0 0 0 0 ∧
        (Tab.dflt (m.half h).dies d {}).st = 1 ∧ ∀ k, k ≠ d → Tab.dflt (m.half h).dies k {} = Tab.dflt x.dies k {})))

/-- Admin packets that join the fabric and take a half away and back (R72, R73, R328 to R331): they wait for the tables, the target's drain or the
partner; leaving drops the routes and completes OK.
It rests on the model's choices of log entry 73. -/
def Obligations.AdminJoinsAndLeaves : Prop :=
  ∀ (s : State) (p : Pkt) (hdr : Hdr), s.sys.Takes 0 p → let h := s.sys.blk.queueHome 0
    let x := s.sys.half h
    let rd (a n : Nat) : List Byte := if bitAt a 63 then s.sys.mem.readHost (a % 2 ^ 63) n else s.sys.mem.readDev a n
    (∀ b : JoinBody, let rt := parseRoutes b.pkg (rd b.routes 65536)
      let ng := parseNeigh b.pkg (rd b.neigh 64)
      let cmd : JoinCmd := { ref := s.sys.refOf 0 p, pkg := b.pkg, domain := b.domain, limit := if b.limit = 0 then 100 else b.limit,
                             start := s.sys.clk.now h }
      x.obj.joinCmd = none → (bitAt b.routes 63 ∨ bitAt b.neigh 63 → s.sys.blk.portReady (s.sys.blk.ringPort 0) 0) →
      (packetOf (.fabricJoin 0 hdr b) = some (0, p) → bitAt b.jflags 0 = false → bitAt b.jflags 1 = false → x.obj.join = none →
        (rt.2 = none → ng.2 = none → Settles (.fabricJoin 0 hdr b) s (fun m => s.sys.Still m ∧ s.sys.Waits m 0 p ∧
          (m.half h).obj.joinCmd = some cmd ∧ (m.half h).obj.routes = rt.1 ∧ (m.half h).obj.neigh = ng.1 ∧
          (m.half h).obj.ctxs = x.obj.ctxs)) ∧
        (∀ i, rt.2 = some i → Settles (.fabricJoin 0 hdr b) s (fun m => s.sys.Quiet m ∧ s.sys.Replied m 0 p 0x11 12 0 0 ∧
          (m.half h).regFld 0x0500010 63 0 = i ∧ (m.half h).obj.routes = x.obj.routes ∧ (m.half h).obj.join = none))) ∧
      (packetOf (.fabricUpdate 0 hdr b) = some (0, p) → bitAt b.jflags 1 = false → (∃ j, x.obj.join = some j ∧ j.pkg = b.pkg ∧ j.domain = b.domain) →
        rt.2 = none → ng.2 = none → s.sys.blk.a.fab.reqs = [] → s.sys.blk.b.fab.reqs = [] → x.tdm.st ≠ .paired →
        Settles (.fabricUpdate 0 hdr b) s (fun m => s.sys.Quiet m ∧ s.sys.Replied m 0 p 0 0 m.blk.portsUp 0 ∧
          (m.half h).obj.joinCmd = none ∧ (m.half h).obj.neigh = ng.1 ∧ (m.half h).obj.join = x.obj.join ∧
          ∀ d, d < 4096 → Tab.dflt (m.half h).obj.routes d ({} : Route) = Tab.dflt rt.1 d {})) ∧
      (packetOf (.fabricLeave 0 hdr b) = some (0, p) → bitAt b.jflags 0 = false → (∃ j, x.obj.join = some j ∧ j.pkg = b.pkg ∧ j.domain = b.domain) →
        x.obj.streams = [] → (∀ g, let f := (s.sys.half g).fab; f.reqs = [] ∧ f.waiting = [] ∧ f.instant = []) → Settles (.fabricLeave 0 hdr b) s (fun m =>
          s.sys.Still m ∧ s.sys.Replied m 0 p 0 0 0 0 ∧ (m.half h).obj.join = none ∧ (m.half h).obj.routes = [] ∧ (m.half h).obj.neigh = [] ∧
          (∀ g, ∀ e ∈ (m.half g).fab.ports, e.2.st = 0)))) ∧
    (∀ b : HalfBody, packetOf (.halfOffline 0 hdr b) = some (0, p) → s.sys.blk.linked → Settles (.halfOffline 0 hdr b) s (fun m =>
      s.sys.Still m ∧ s.sys.Waits m 0 p ∧ ∀ g, (m.half g).tdm.offlineCmd =
        some (if b.half = 0 then .A else .B, s.sys.refOf 0 p, s.sys.clk.now h))) ∧
    (packetOf (.halfOnline 0 hdr) = some (0, p) → x.tdm.onlineCmd = none → x.tdm.st = .freewheel → (s.sys.half h.other).tdm.st = .standby →
      x.linkUp → Settles (.halfOnline 0 hdr) s (fun m => s.sys.Quiet m ∧ s.sys.Waits m 0 p ∧ (m.half h).tdm.onlineCmd = some (s.sys.refOf 0 p) ∧
        .tandem h .online ∈ m.blk.out ∧ (m.half h).obj.ctxs = x.obj.ctxs))

/-- NOP, fences and events (R82, R96, R111, R113, R115, R119, Table 05-7): a signal whose way is free stores its value or is refused when it would go
back; a wait completes by its word or registers; an event enters its ring; NOP only completes.
It rests on the model's choices of log entry 107. -/
def Obligations.FencesAndEventsAct : Prop :=
  ∀ (s : State) (q : Nat) (p : Pkt) (hdr : Hdr) (c : Instr), packetOf c = some (q, p) → s.sys.Takes q p → let h := s.sys.blk.queueHome q
    let x := s.sys.half h
    let k := s.sys.taken q p
    let slot := (s.sys.refOf q p).slot
    (c = .nop q hdr → Settles c s (fun m => s.sys.OnlyQueue m q ∧ s.sys.Replied m q p 0 0 0 0)) ∧
    (∀ b n off, c = .fenceSignal q hdr b → x.dma.owed = [] → x.dma.flushes = [] → x.dma.orderErr = [] →
      k.1.fenceAt h q slot p.hdr.ctx p.hdr.part b.fence true true = (n, .area off) → (n.half (n.blk.fenceHome off)).waiters = [] →
      let w := n.mem.word false off
      let ab := (((n.half (n.blk.fenceHome off)).obj.mems.find? (fun o => o.kind == .fenceArea && o.holds off)).map (·.abandoned)).getD 0
      (bitAt w 63 → ab ≠ 0 → Settles c s (fun m => s.sys.Replied m q p 0x12 8 0 0 ∧ m.clk = s.sys.clk ∧ m.mem = n.mem)) ∧
      (bitAt w 63 = false ∨ ab = 0 → w % 2 ^ 63 ≤ b.value → Settles c s (fun m => s.sys.Replied m q p 0 0 0 0 ∧ m.clk = s.sys.clk ∧ m.mem.host = n.mem.host ∧
        memRead m.mem.dev off 8 = leBytes 8 (b.value % 2 ^ 63) ∧ (∀ a, a < off ∨ off + 8 ≤ a → memGet m.mem.dev a = memGet n.mem.dev a) ∧
        ∀ g, (m.half g).regs = (n.half g).regs)) ∧
      (bitAt w 63 = false ∨ ab = 0 → b.value < w % 2 ^ 63 → Settles c s (fun m => s.sys.Replied m q p 0x31 0 0 0 ∧ m.clk = s.sys.clk ∧ m.mem = n.mem ∧
        (m.half (n.blk.fenceHome off)).regFld 0x0030060 31 0 = ((n.half (n.blk.fenceHome off)).regFld 0x0030060 31 0 + 1) % 2 ^ 32))) ∧
    (∀ b n off, c = .fenceWait q hdr b → (∀ g, (s.sys.half g).waiters = []) →
      k.1.fenceAt h q slot p.hdr.ctx p.hdr.part b.fence false true = (n, .area off) → let fh := n.blk.fenceHome off
      let w := n.mem.word false off
      let ab := (((n.half fh).obj.mems.find? (fun o => o.kind == .fenceArea && o.holds off)).map (·.abandoned)).getD 0
      let late : Bool := b.limit != 0 && decide (s.sys.clk.now h + b.limit ≤ s.sys.clk.now fh)
      (∀ st d, waitOutcome w b.value ab late = some (st, d) → (n.half h).mayAdvance p.hdr.ctx → x.tdm.st ≠ .paired →
        Settles c s (fun m => s.sys.Replied m q p st d w 0 ∧ m.clk = s.sys.clk ∧ m.mem = n.mem ∧ (∀ g, (m.half g).waiters = []))) ∧
      (waitOutcome w b.value ab late = none → Settles c s (fun m => s.sys.Waits m q p ∧ m.clk = s.sys.clk ∧ m.mem = n.mem ∧
        (m.half fh).waiters = [{ ref := s.sys.refOf q p, ctx := p.hdr.ctx, fence := off, value := b.value, limit := b.limit,
                                 start := s.sys.clk.now h, entry := true }]))) ∧
    (∀ b ctx m1 m2 m3 hr at_ hw, c = .eventRaise q hdr b → x.dma.owed = [] → x.dma.flushes = [] → x.dma.orderErr = [] →
      x.ctx? p.hdr.ctx = some ctx → ctx.eventLog2 ≠ 0 → k.1.ringAt h k.2 0 ctx.eventVa false true = (m1, .ok (.dev hr)) →
      (ctx.eventProduced + 2 ^ 64 - leNat ((m1.mem.readDev hr 16).drop 8)) % 2 ^ 64 ≠ 2 ^ ctx.eventLog2 →
      m1.ringAt h k.2 3 (ctx.eventVa + 64 + ctx.eventProduced % 2 ^ ctx.eventLog2 * 32) true true = (m2, .ok (.dev at_)) →
      m2.ringAt h k.2 1 ctx.eventVa true true = (m3, .ok (.dev hw)) → hw + 8 ≤ at_ ∨ at_ + 32 ≤ hw → Settles c s (fun m =>
        s.sys.Replied m q p 0 0 0 0 ∧ m.clk = s.sys.clk ∧ m.mem.host = m3.mem.host ∧
        memRead m.mem.dev at_ 32 = eventRecord b.payload b.event p.hdr.ctx (s.sys.clk.now h) p.hdr.tag ∧
        memRead m.mem.dev hw 8 = leBytes 8 ((ctx.eventProduced + 1) % 2 ^ 64) ∧
        (∀ a, (a < at_ ∨ at_ + 32 ≤ a) → (a < hw ∨ hw + 8 ≤ a) → memGet m.mem.dev a = memGet m3.mem.dev a) ∧
        ((m.half h).ctx? p.hdr.ctx).map (·.eventProduced) = some ((ctx.eventProduced + 1) % 2 ^ 64)))

/-- Packets on ranges (R120 to R122, R157, R158, R160, R179, R180): MAP adds its range and PIN its pins; UNMAP, INVALIDATE_RANGE, UNPIN and FREE withdraw
the range's translations and complete when none is left; ALLOC returns the address of a new object.
It rests on the model's choices of log entries 11, 36, 56. -/
def Obligations.RangePacketsAct : Prop :=
  ∀ (s : State) (q : Nat) (p : Pkt) (hdr : Hdr) (c : Instr), packetOf c = some (q, p) → s.sys.Takes q p → let h := s.sys.blk.queueHome q
    let x := s.sys.half h
    let k := (s.sys.taken q p).1
    let ctx := p.hdr.ctx
    let rng (va n : Nat) : PinRange := { ctx := ctx, lo := va, hi := va + n }
    (∀ b n, c = .map q hdr b → k.doMap h ctx p.hdr.part b.va b.count b.entry = (n, 0, 0) → Settles c s (fun m => m.clk = s.sys.clk ∧
      s.sys.Replied m q p 0 0 0 0 ∧ m.mem = n.mem ∧ (m.half h).obj.maps = addRange x.obj.maps (rng b.va b.count))) ∧
    (∀ b e, c = .unmap q hdr b → x.ctx? ctx = some e → e.meetsOwn b.va b.count false = false →
      (∀ l ∈ s.sys.leavesIn h ctx b.va (b.va + b.count), b.va ≤ l.1 ∧ l.1 + l.2.1 ≤ b.va + b.count) →
      s.sys.WithdrawsAlone h ctx b.va (b.va + b.count) → Settles c s (fun m => m.clk = s.sys.clk ∧ s.sys.Replied m q p 0 0 0 0 ∧
        x.Forgot (m.half h) ctx b.va (b.va + b.count) ∧ (m.half h).obj.maps = subRange x.obj.maps (rng b.va b.count) ∧
        (m.half h).obj.pins = subRange x.obj.pins (rng b.va b.count))) ∧
    (∀ b : RangeBody, c = .invalidateRange q hdr b → s.sys.WithdrawsAlone h ctx b.va (b.va + b.count) → Settles c s (fun m =>
      s.sys.Quiet m ∧ s.sys.Replied m q p 0 0 0 0 ∧ x.Forgot (m.half h) ctx b.va (b.va + b.count) ∧ (m.half h).obj.maps = x.obj.maps ∧
      (m.half h).obj.pins = x.obj.pins)) ∧
    (∀ b : RangeBody, c = .pin q hdr b → (∀ e ∈ s.sys.entriesOf h ctx b.va (b.va + b.count) (b.count / 4096 + 1),
        eValid e.2.2 ∧ eLeaf e.2.2 ∧ eTarget e.2.2 ≠ 1 ∧ bitAt e.2.2 10 = false) →
      (b.count = 0 ∨ inRanges x.obj.pins (rng b.va b.count) → Settles c s (fun m => s.sys.OnlyQueue m q ∧ s.sys.Replied m q p 0 0 0 0)) ∧
      (b.count ≠ 0 → inRanges x.obj.pins (rng b.va b.count) = false → (addRange x.obj.pins (rng b.va b.count)).length ≤ 4096 →
        Settles c s (fun m => m.clk = s.sys.clk ∧ s.sys.Replied m q p 0 0 0 0 ∧ (m.half h).obj.pins = addRange x.obj.pins (rng b.va b.count) ∧
          (m.half h).obj.maps = x.obj.maps ∧
          ∀ e ∈ (m.half h).xlt.iotlb, e.ctx = ctx → meets e.va e.bytes b.va b.count → e.pinned))) ∧
    (∀ b : RangeBody, c = .unpin q hdr b → let meet := x.obj.pins.any (fun r => r.ctx == ctx && meets r.lo (r.hi - r.lo) b.va b.count)
      (meet = false → x.xlt.invs = [] → Settles c s (fun m => s.sys.OnlyQueue m q ∧ s.sys.Replied m q p 0 0 0 0)) ∧
      (meet → s.sys.WithdrawsAlone h ctx b.va (b.va + b.count) → Settles c s (fun m => m.clk = s.sys.clk ∧ s.sys.Replied m q p 0 0 0 0 ∧
        (m.half h).obj.pins = subRange x.obj.pins (rng b.va b.count) ∧ (m.half h).obj.maps = x.obj.maps ∧
        x.Forgot (m.half h) ctx b.va (b.va + b.count)))) ∧
    (∀ b n va, c = .alloc q hdr b → (x.part p.hdr.part).allocator →
      k.alloc h ctx b.size (if bits b.align 4 0 = 0 then 12 else bits b.align 4 0) (bitAt b.align 8) = (n, 0, 0, va) → Settles c s (fun m =>
        m.clk = s.sys.clk ∧ s.sys.Replied m q p 0 0 va 0 ∧ m.mem = n.mem ∧ ∃ o ∈ (m.half h).obj.mems, o.ctx = ctx ∧ o.va = va ∧
          b.size ≤ o.size ∧ o.shared = bitAt b.align 8 ∧ (m.half h).obj.mems = x.obj.mems ++ [o])) ∧
    (∀ b o, c = .free q hdr b → (x.part p.hdr.part).allocator → x.obj.windows = [] →
      x.obj.mems.find? (fun o => o.kind == .alloc && o.ctx == ctx && o.va == b.va && o.owned && !o.freeing) = some o →
      s.sys.WithdrawsAlone h ctx b.va (b.va + o.span) → Settles c s (fun m => m.clk = s.sys.clk ∧ s.sys.Replied m q p 0 0 0 0 ∧
        x.Forgot (m.half h) ctx b.va (b.va + o.span) ∧
        ∀ e ∈ (m.half h).obj.mems, e.holds (o.at 0) → e.owned = false))

/-- Byte-moving and query packets of a user queue (R126, R145, R197 to R199): within pages that cached spans map to device memory, they write the bytes
they name at the translated address, change no other byte, and complete OK with the byte count. -/
def Obligations.TranslatedMovesWriteTheirBytes : Prop :=
  ∀ (c : Instr) (s : State) (q : Nat) (p : Pkt) (hdr : Hdr) (va off : Nat) (bs : List Byte), q ≠ 0 → packetOf c = some (q, p) → s.sys.Takes q p →
    let h := s.sys.blk.queueHome q
    let x := s.sys.half h
    let src (v n o : Nat) : Prop := s.sys.Maps h p.hdr.ctx p.hdr.part v n o false ∧ s.sys.mem.poisoned o n = false ∧ bs = memRead s.sys.mem.dev o n
    (∃ b, c = .fill q hdr b ∧ va = b.dst ∧ bs = (List.range b.count).map (fun i => (leBytes 16 b.pattern).getD (i % 16) 0)) ∨
    (∃ b, c = .writeInline q hdr b ∧ va = b.dst ∧ bs = hdr.payload.take b.n ∧ bs.length = b.n) ∨
    (∃ b o, c = .copy q hdr b ∧ va = b.dst ∧ src b.src b.count o ∧ (b.dst ≤ b.src ∨ b.src + b.count ≤ b.dst)) ∨
    (∃ b o, c = .copyTiled q hdr b ∧ b.yCount = 1 ∧ b.zCount = 1 ∧ va = b.dst ∧ src b.src b.xBytes o) ∨
    (∃ b o, c = .gather q hdr b ∧ bitAt hdr.flags 4 ∧ b.count = 1 ∧ va = b.dst ∧ let idx := leNat (hdr.payload.take (if bitAt b.iflags 0 then 8 else 4))
      let far := b.src + idx * (if b.stride = 0 then 2 ^ b.esize else b.stride)
      far + 2 ^ b.esize ≤ 2 ^ 57 ∧ b.dst + 2 ^ b.esize ≤ 2 ^ 57 ∧ src far (2 ^ b.esize) o) ∨
    (∃ b o, c = .scatter q hdr b ∧ bitAt hdr.flags 4 ∧ b.count = 1 ∧ let idx := leNat (hdr.payload.take (if bitAt b.iflags 0 then 8 else 4))
      va = b.dst + idx * (if b.stride = 0 then 2 ^ b.esize else b.stride) ∧ va + 2 ^ b.esize ≤ 2 ^ 57 ∧ b.src + 2 ^ b.esize ≤ 2 ^ 57 ∧
      src b.src (2 ^ b.esize) o) ∨
    (∃ b, (c = .queryCapability q hdr b ∨ c = .queryContext q hdr b ∨ c = .queryAllocator q hdr b) ∧ va = b.dst ∧
      bs = queryRecord s.sys.blk h p.hdr.ctx p.hdr.part (p.arg 0) (p.arg 1) ∧ bs.length ≤ b.max) →
    s.sys.Maps h p.hdr.ctx p.hdr.part va bs.length off true → x.idleDma → bitAt p.hdr.flags 1 = false → (x.pickChan p.short).isSome →
    Settles c s (fun m => m.clk = s.sys.clk ∧ s.sys.Replied m q p 0 0 bs.length 0 ∧ m.mem.host = s.sys.mem.host ∧
      memRead m.mem.dev off bs.length = bs ∧
      (∀ a, a < off ∨ off + bs.length ≤ a → memGet m.mem.dev a = memGet s.sys.mem.dev a) ∧ ∀ g, (m.half g).regs = (s.sys.half g).regs)

/-- TRANSFORM and REDUCE (R224 to R232, R235 to R238, R245): with arrays in formats without scales, each within a page that cached spans map to device
memory, the destination holds the encoded values of the elements, nothing else in memory changes, and saturations are counted. -/
def Obligations.ElementPacketsComputeTheirArrays : Prop :=
  ∀ (c : Instr) (s : State) (q : Nat) (p : Pkt) (hdr : Hdr) (sf df n mode salt dst off : Nat) (ys : List Nat),
    q ≠ 0 → packetOf c = some (q, p) → s.sys.Takes q p → let h := s.sys.blk.queueHome q
    let x := s.sys.half h
    let arr (va f o : Nat) : Prop := blockOf f = 1 ∧ s.sys.Maps h p.hdr.ctx p.hdr.part va (arrayBytes f n) o false ∧
      s.sys.mem.poisoned o (arrayBytes f n) = false
    let vals (f o : Nat) : List Nat := decodeRun f n (memRead s.sys.mem.dev o (arrayBytes f n)) []
    (∃ b o, c = .transform q hdr b ∧ b.src2 = 0 ∧ sf = b.sfmt ∧ df = b.dfmt ∧ n = b.count ∧ mode = b.mode ∧ salt = b.salt ∧ dst = b.dst ∧
      arr b.src sf o ∧
      ((b.op = 0 ∧ ys = vals sf o) ∨ (b.op = 1 ∧ ys = (vals sf o).map (fun v => fFma v b.scale b.bias)) ∨
       (b.op = 2 ∧ ∃ e r t, x.pickEngine p.hdr.ctx b.aux b.gen false true = some e ∧
          resFind x.xfm.tables (e / 4) p.hdr.ctx b.aux b.gen = some r ∧ parseTable r.data = some t ∧ ys = (vals sf o).map (pwl t)) ∨
       (b.op = 3 ∧ ∃ e r g, x.pickEngine p.hdr.ctx b.aux b.gen true false = some e ∧ resFind x.xfm.progs e p.hdr.ctx b.aux b.gen = some r ∧
          parseRelay r.data = some g ∧ g.in1 = false ∧ g.tabs = [] ∧ ys = (vals sf o).map (fun v => g.run [] v 0)))) ∨
    (∃ b o o2, c = .reduce q hdr b ∧ sf = b.afmt ∧ df = b.dfmt ∧ n = b.count ∧ mode = b.mode ∧ salt = b.salt ∧ dst = b.dst ∧
      arr b.srca sf o ∧ arr b.srcb b.bfmt o2 ∧
      ys = (List.range n).map (fun i => let u := (vals sf o).getD i 0
        let v := (vals b.bfmt o2).getD i 0
        fMul (if b.rop % 2 = 0 then fAdd u v else fMax u v) b.post)) →
    blockOf df = 1 → bitAt mode 3 = false → elemBits df * n % 8 = 0 → s.sys.Maps h p.hdr.ctx p.hdr.part dst (arrayBytes df n) off true →
    x.idleDma → bitAt p.hdr.flags 1 = false → (x.pickChan p.short).isSome → (∀ r t, (x.pickEngine p.hdr.ctx (p.arg 10) (p.arg 9) r t).isSome) →
    let out := encodeRun df (x.encMode p.hdr.ctx mode salt) 0 ys
    Settles c s (fun m => m.clk = s.sys.clk ∧ s.sys.Replied m q p 0 0 (arrayBytes df n) 0 ∧ m.mem.host = s.sys.mem.host ∧
      memRead m.mem.dev off (arrayBytes df n) = out.1 ∧
      (∀ a, a < off ∨ off + arrayBytes df n ≤ a → memGet m.mem.dev a = memGet s.sys.mem.dev a) ∧
      (m.half h).regFld 0x0300038 31 0 = (x.regFld 0x0300038 31 0 + out.2.2) % 2 ^ 32 ∧ ∀ r, r ≠ 0x0300038 → (m.half h).reg r = x.reg r)

/-- ROUTE (R246 to R253): one token with inline index entries: DISPATCH puts its encoded row, record, receipt and header into the entry's region, RETURN
puts it into its slot, COMBINE adds gate times row; each completes OK with the row bytes written. -/
def Obligations.RoutePacketsMoveRows : Prop :=
  ∀ (c : Instr) (s : State) (q : Nat) (p : Pkt) (hdr : Hdr) (b : RouteBody), q ≠ 0 → packetOf c = some (q, p) → s.sys.Takes q p →
    let h := s.sys.blk.queueHome q
    let x := s.sys.half h
    let maps (va n o : Nat) (w : Bool) : Prop := s.sys.Maps h p.hdr.ctx p.hdr.part va n o w
    let rb := rowBytes b.sfmt b.elems
    let row (ys : List Nat) : List Byte := (rowEncode b.dfmt b.elems (x.encMode p.hdr.ctx b.rflags b.salt) 0 ys).1
    let n := rowBytes b.dfmt b.elems
    let mem := s.sys.mem
    ∀ so mo go fo, b.ntok = 1 → (b.k = 1 ∨ c = .routeReturn q hdr b) → maps b.src rb so false → mem.poisoned so rb = false → x.idleDma → (x.pickChan false).isSome →
    (x.pickEngine p.hdr.ctx (p.arg 10) (p.arg 9) false false).isSome →
    let ys := rowDecode b.sfmt b.elems (memRead mem.dev so rb)
    let ok (P : Mach → Prop) : Prop := Settles c s (fun m => m.clk = s.sys.clk ∧ s.sys.Replied m q p 0 0 n 0 ∧ m.mem.host = mem.host ∧ P m)
    let frame (m : Mach) (l : List (Nat × Nat)) : Prop := ∀ a, (∀ r ∈ l, a < r.1 ∨ r.1 + r.2 ≤ a) → memGet m.mem.dev a = memGet mem.dev a
    (∀ base cap, c = .routeDispatch q hdr b ∨ c = .routeReturn q hdr b → bitAt hdr.flags 4 → b.nexp = 1 → maps b.map 32 mo false →
      mem.poisoned mo 32 = false → parseMap 1 (memRead mem.dev mo 32) = some [(base, cap, 0)] → maps base (regionBytes p cap) go true →
      (c = .routeDispatch q hdr b → hdr.payload.take 2 = [0, 0] → maps b.receipt 4 fo true → fo + 4 ≤ go ∨ go + regionBytes p cap ≤ fo → ok (fun m =>
        memRead m.mem.dev go 64 = leBytes 4 1 ++ leBytes 2 b.self ++ List.replicate 58 0 ∧
        memRead m.mem.dev (go + 64) 8 = leBytes 4 0 ++ leBytes 2 b.self ++ [0, 0] ∧
        memRead m.mem.dev (go + dispatchOff cap) n = row ys ∧ memRead m.mem.dev fo 4 = [0, 0, 0, 0] ∧
        frame m [(go, 72), (go + dispatchOff cap, n), (fo, 4)])) ∧
      (∀ slot, c = .routeReturn q hdr b → byteFld (hdr.payload.take 8) 3 0 = slot → byteFld (hdr.payload.take 8) 5 4 = 0 → slot < cap → ok (fun m =>
        memRead m.mem.dev (go + slot * n) n = row ys ∧ frame m [(go + slot * n, n)]))) ∧
    (∀ g, c = .routeCombine q hdr b → maps b.receipt 4 mo false → leNat (memRead mem.dev mo 4) ≠ 0xFFFFFFFF → maps b.gate 4 go false →
      mem.poisoned mo 4 = false → mem.poisoned go 4 = false → g = leNat (memRead mem.dev go 4) → maps b.dst n fo true → ok (fun m =>
        memRead m.mem.dev fo n = row ((List.range b.elems).map (fun i => fFma g (ys.getD i 0) 0)) ∧ frame m [(fo, n)]))

/-- Packets on streams (R263, R265, R267, R268, R270, R271, R282): PREFETCH_STREAM claims a prefetcher and STOP frees it; DRAFT_OPEN records the stream and
signals; DRAFT_SEND puts its bytes in the ring; DRAFT_CLOSE removes the stream.
It rests on the model's choices of log entries 32, 33. -/
def Obligations.StreamPacketsAct : Prop :=
  ∀ (s : State) (q : Nat) (p : Pkt) (hdr : Hdr) (c : Instr), packetOf c = some (q, p) → s.sys.Takes q p → let h := s.sys.blk.queueHome q
    let x := s.sys.half h
    let ctx := p.hdr.ctx
    (∀ b n, c = .prefetchStream q hdr b → Tab.free x.ware.pf 0 256 = some n → Settles c s (fun m => s.sys.Still m ∧
      s.sys.Replied m q p 0 0 (x.id.num * 256 + n) 0 ∧ (m.half h).ware = { x.ware with pf := Tab.put x.ware.pf n {
        ctx := ctx, part := p.hdr.part, lo := b.src, hi := b.src + b.count, depth := b.depth * 1024, stable := bitAt b.pflags 1,
        next := b.src, read := b.src, last := s.sys.clk.now h } })) ∧
    (∀ (b : PrefetchBody) g e, c = .prefetchStreamStop q hdr b → b.stream < 512 → g = (if bitAt b.stream 8 then HalfId.B else HalfId.A) →
      Tab.look (s.sys.half g).ware.pf (b.stream % 256) = some e → e.ctx = ctx → Settles c s (fun m => s.sys.Still m ∧
        s.sys.Replied m q p 0 0 0 0 ∧ (m.half g).ware = { (s.sys.half g).ware with pf := Tab.del (s.sys.half g).ware.pf (b.stream % 256) })) ∧
    (∀ b n, c = .draftOpen q hdr b → (s.sys.taken q p).1.draftOpen h (s.sys.refOf q p) p = (n, none) → (n.half h).fab.instant = [] →
      (∀ r ∈ x.fab.reqs, ∀ k, r.2.what ≠ .open_ (s.sys.refOf q p) k) → (∀ r ∈ x.fab.waiting, ∀ k, r.what ≠ .open_ (s.sys.refOf q p) k) →
      Settles c s (fun m => s.sys.Waits m q p ∧ ∃ e, (m.half h).obj.streams = x.obj.streams ++ [e] ∧ e.st = 1 ∧ e.flight = none ∧ e.ctx = ctx ∧
        e.record = b.record ∧ e.ring = b.ring ∧ e.nslot = b.nslot ∧ e.slotLog2 = b.slotLog2 ∧ e.arrival = b.arrival ∧ e.credit = b.credit ∧
        e.sent = b.start ∧ memRead m.mem.dev e.off 64 = streamBytes e)) ∧
    (∀ b e, c = .draftClose q hdr b → x.stream ctx b.record = some e → e.flight = none →
      (e.st ≠ 1 → Settles c s (fun m => m.clk = s.sys.clk ∧ s.sys.Replied m q p 0 0 0 0 ∧ (m.half h).stream ctx b.record = none)) ∧
      (e.st = 1 → s.sys.CanAsk h (fabDst e.arrivalAt) → x.fab.instant = [] → Settles c s (fun m => m.clk = s.sys.clk ∧ s.sys.Waits m q p ∧
        (m.half h).stream ctx b.record = none ∧ s.sys.Asks m h {
          op := 0x33, addr := e.arrivalAt, len := 8, ctx := e.ctx, part := p.hdr.part, dst := fabDst e.arrivalAt,
          data := leBytes 8 (e.sent % 2 ^ 63), what := .close (s.sys.refOf q p) e.record }))) ∧
    (∀ b e, c = .draftSend q hdr b → x.stream ctx b.record = some e → x.idleDma → (x.pickChan false).isSome →
      (b.op ≠ 4 → (x.pickEngine ctx (p.arg 10) (p.arg 9) (b.op == 3) (b.op == 2)).isSome) →
      (e.st = 2 → Settles c s (fun m => m.clk = s.sys.clk ∧ s.sys.Replied m q p 0x32 3 0 0 ∧ ((m.half h).stream ctx b.record).map (·.st) = some 2)) ∧
      (∀ so sp, e.st = 1 → b.op = 4 → b.count ≤ 256 → e.slotLog2 = 12 → s.sys.Maps h ctx p.hdr.part b.src b.count so false →
        s.sys.mem.poisoned so b.count = false → let va := e.ring + e.sent % e.nslot * 4096
        x.tlbHit ctx va true = some sp → sp.target = 2 → sp.sealed = false → va + 4096 ≤ sp.va + sp.bytes → sp.phys va % 256 = 0 → va % 4096 = 0 →
        let cr := s.sys.mem.word false e.creditAt
        bitAt cr 63 = false → e.sent < cr + e.nslot → s.sys.CanAsk h (fabDst (sp.phys va)) →
        (∀ a ≥ e.off, a < e.off + 64 → a < so ∨ so + b.count ≤ a) → (∀ a ≥ e.off, a < e.off + 64 → a < e.creditAt ∨ e.creditAt + 8 ≤ a) →
        Settles c s (fun m => m.clk = s.sys.clk ∧ ((m.half h).stream ctx b.record).map (·.flight) = some (some h) ∧ (m.blk.getQ q).replies =
        (s.sys.blk.getQ q).replies ∧ s.sys.Asks m h {
          op := 0x20, addr := sp.phys va, len := b.count, ctx := ctx, part := p.hdr.part,
          dst := fabDst (sp.phys va), data := memRead s.sys.mem.dev so b.count, va := va, what := .write q (s.sys.refOf q p).slot 0 })))

/-- Commands of streams (R267, R269, R271, R275): a slot whose writes are acknowledged is committed by its arrival signal; credit lets a send go on and its
limit stops it; a close limit ends the close; the survivor reads the arrival fences of sends that ran on the lost half.
It rests on the model's choices of log entry 47. -/
def Obligations.StreamEventsAct : Prop :=
  (∀ (s : State) (h : HalfId) (c : Nat) (e : Stream), let k := s.sys.chan h c
    k.disp.pkt.op = 0x21 → s.sys.sendStream h c = some e → k.work.committed < k.work.written →
    (s.sys.half h).slotBusy c k.work.committed = false → s.sys.CanAsk h (fabDst e.arrivalAt) →
    Settles (.draftSlotCommit h c) s (fun m => s.sys.Still m ∧ (m.half h).obj = (s.sys.half h).obj ∧ s.sys.Asks m h {
      op := 0x33, addr := e.arrivalAt, len := 8, ctx := e.ctx, part := k.part, dst := fabDst e.arrivalAt,
      data := leBytes 8 ((k.work.base + k.work.committed + 1) % 2 ^ 63), what := .commit c k.work.committed }))
  ∧ (∀ (s : State) (h : HalfId) (c : Nat) (e : Stream), let k := s.sys.chan h c
    s.sys.sendStream h c = some e → k.work.credit.isSome →
    (let cr := s.sys.mem.word false e.creditAt
     bitAt cr 63 ∨ k.work.base + k.pieceEnd / 2 ^ e.slotLog2 < cr % 2 ^ 63 + e.nslot →
     Settles (.draftCreditResume h c) s (fun m => s.sys.Still m ∧ m.chan h c = { k with st := 1, work := { k.work with credit := none } } ∧
       m.blk.out = s.sys.blk.out ∧ ∀ n, n ≠ c → m.chan h n = s.sys.chan h n)) ∧
    Settles (.draftCreditTimeout h c) s (fun m => s.sys.Inside m h ∧
      m.chan h c = { k with st := 1, work := { k.work with stop := 2, credit := none, arrived := [] } } ∧
      (m.half h).regFld 0x0300110 63 32 = ((s.sys.half h).regFld 0x0300110 63 32 + 1) % 2 ^ 32 ∧
      (∀ n, n ≠ c → m.chan h n = s.sys.chan h n) ∧ (m.half h).obj = (s.sys.half h).obj ∧ ∀ r, r ≠ 0x0300110 → (m.half h).reg r = (s.sys.half h).reg r))
  ∧ (∀ (s : State) (q slot : Nat) (d : Disp) (e : Stream), let r := s.sys.blk.getQ q
    r.st ≠ .absent → r.inflight.find? (fun d => d.ref.slot == slot && d.pkt.op == 0x22) = some d → d.ref.q = q → d.pkt.hdr.trailer = none →
    (s.sys.half d.half).stream d.pkt.hdr.ctx (d.pkt.arg 0) = some e → e.flight.isSome → (s.sys.half d.half).tdm.st ≠ .paired →
    Settles (.draftCloseLimitExpiry q slot) s (fun m => s.sys.OnlyQueue m q ∧ m.blk.getQ q = { r with
      inflight := r.inflight.filter (fun e => e.ref.slot != slot), fetched := r.fetched.filter (fun e => e.ref.slot != slot),
      replies := r.replies ++ [{ ref := d.ref, status := 0x32, half := d.half }] }))
  ∧ (∀ (s : State) (h : HalfId) (e : Stream), let x := s.sys.half h
    x.tdm.st = .freewheel → x.obj.streams.filter (fun s => s.flight == some h.other && x.devOk s.off) = [e] → s.sys.CanAsk h (fabDst e.arrivalAt) →
    Settles (.draftResync h) s (fun m => s.sys.Still m ∧ (m.half h).obj = x.obj ∧ s.sys.Asks m h {
      op := 0x10, addr := e.arrivalAt, len := 8, ctx := e.ctx, dst := fabDst e.arrivalAt, what := .resyncRead e.record }))

/-- Bursts of a DMA channel (R193, R195, R197, R202, R203, R205): an engine takes a ready channel and issues its burst; data that returns is written and moves the
completed prefix; acknowledgements are counted; a flush read issued for an idle port completes and clears its marks. -/
def Obligations.BurstsAct : Prop :=
  (∀ (s : State) (h : HalfId) (e c : Nat), let x := s.sys.half h
    let k := s.sys.chan h c
    let p := k.disp.pkt
    let n := p.arg 2
    e / 4 < x.pwr.dmaGroups → Tab.look x.dma.active e = none → x.nextReady e = some c → k.q = 0 → p.op = 1 → k.pos = 0 → k.pieceEnd = 0 → k.done = 0 →
    k.reads = [] → k.ends = none → k.poison = none → k.st = 1 → s.sys.blk.ackOwed 0 k.slot = false → x.xlt.holders = [] → bitAt p.hdr.flags 1 = false →
    bitAt k.disp.ref.flags 1 = false → bitAt (p.arg 0) 63 = false → bitAt (p.arg 1) 63 = false → 0 < n → p.arg 0 % 4096 + n ≤ 4096 →
    p.arg 1 % 4096 + n ≤ 4096 → Settles (.dmaBurstIssue h e) s (fun m => s.sys.Inside m h ∧ (m.half h).regs = x.regs ∧
      Tab.look (m.half h).dma.active e = some c ∧ let y := m.chan h c
      y.st = 2 ∧ y.pos = n ∧ y.pieceEnd = n ∧ y.done = 0 ∧ y.disp = k.disp ∧ y.reads = [{
        src := .dev (p.arg 0 % 2 ^ 46), srcVa := p.arg 0, dst := some (.dev (p.arg 1 % 2 ^ 46)), dstVa := p.arg 1, n := n }]))
  ∧ (∀ (s : State) (h : HalfId) (c : Nat) (b : Burst) (rest : List Burst) (so da : Nat), let x := s.sys.half h
    let k := s.sys.chan h c
    k.reads = b :: rest → b.src = .dev so → b.dst = some (.dev da) → k.st ≠ 0 → k.disp.pkt.op = 1 → (k.disp.pkt.arg 1 ≤ k.disp.pkt.arg 0 ∨
      k.disp.pkt.arg 0 + k.disp.pkt.arg 2 ≤ k.disp.pkt.arg 1) → x.xlt.holders = [] → x.devAccess so k.ctx k.part (k.q == 0) = .ok →
    x.devAccess da k.ctx k.part (k.q == 0) = .ok → s.sys.blk.toHome h so b.n = false → s.sys.blk.toHome h da b.n = false →
    s.sys.mem.poisoned so b.n = false → bitAt k.disp.ref.flags 1 = false → Settles (.readCompletion h c 0) s (fun m =>
      m.clk = s.sys.clk ∧ m.mem.host = s.sys.mem.host ∧ memRead m.mem.dev da b.n = memRead s.sys.mem.dev so b.n ∧
      (∀ a, a < da ∨ da + b.n ≤ a → memGet m.mem.dev a = memGet s.sys.mem.dev a) ∧ m.chan h c = { k with
        reads := rest, acks := k.acks + 1, done := if rest = [] ∧ k.pos = k.pieceEnd ∧ k.ends = none then k.pos else k.done } ∧
      (m.half h).regs = x.regs ∧ (m.half h).obj = x.obj))
  ∧ (∀ (s : State) (h : HalfId) (q slot : Nat), let x := s.sys.half h
    (∀ c, x.chanOf q slot = some c → Settles (.writeAck h q slot) s (fun m => s.sys.Inside m h ∧
      m.half h = { x with dma := (m.half h).dma } ∧ m.chan h c = { s.sys.chan h c with acks := (s.sys.chan h c).acks - 1 })) ∧
    (x.chanOf q slot = none → Settles (.writeAck h q slot) s (fun m => s.sys.Inside m h ∧ m.half h = { x with dma := { x.dma with
      owed := x.dma.owed.map (fun o => if o.q = q ∧ o.slot = slot then { o with acks := o.acks - 1 } else o) } })))
  ∧ (∀ (s : State) (h : HalfId) (pp a t : Nat), let x := s.sys.half h
    Tab.look x.dma.last pp = some (t, a, false) → Completes (.idleFlush h pp) s (fun m => s.sys.Inside m h ∧
      (m.half h).dma.flushes = x.dma.flushes ++ [{ port := pp, addr := a, marks := x.dma.marks.filter (fun k => k / 2 ^ 20 == pp), what := .idle }] ∧
      Tab.look (m.half h).dma.last pp = some (t, a, true) ∧ (m.half h).regFld 0x0200030 31 0 = (x.regFld 0x0200030 31 0 + 1) % 2 ^ 32 ∧
      (m.half h).dma.marks = x.dma.marks ∧ ∀ r, r ≠ 0x0200030 → (m.half h).reg r = x.reg r))
  ∧ (∀ (s : State) (h : HalfId) (pp : Nat) (f : FlushRd), let x := s.sys.half h
    x.dma.flushes.find? (fun f => f.port == pp) = some f →
    (f.what = .idle ∨ (∃ q sl, f.what = .order q sl) → Settles (.flushReadComplete h pp) s (fun m => s.sys.Inside m h ∧
      (m.half h).dma.flushes = x.dma.flushes.erase f ∧ (∀ k, k ∈ (m.half h).dma.marks ↔ k ∈ x.dma.marks ∧ k ∉ f.marks) ∧
      (∀ q sl, f.what = .order q sl → ∀ o ∈ (m.half h).dma.owed, o.q = q → o.slot = sl → Tab.look o.flush pp = none) ∧
      (m.half h).regs = x.regs ∧ (m.half h).dma.chans = x.dma.chans)) ∧
    (f.what = .idle ∨ (∃ q sl, f.what = .order q sl) → x.hasRoom 4 → Settles (.flushReadRefused h pp) s (fun m => s.sys.Inside m h ∧
      (m.half h).dma.flushes = x.dma.flushes.erase f ∧ (m.half h).dma.marks = x.dma.marks ∧ x.Reported (m.half h) 4 (mkErr x 4 0 0x12 2 1 f.addr) ∧
      (m.half h).regFld 0x0200030 63 32 = (x.regFld 0x0200030 63 32 + 1) % 2 ^ 32 ∧
      (∀ q sl, f.what = .order q sl → (q, sl) ∈ (m.half h).dma.orderErr) ∧ (m.half h).dma.chans = x.dma.chans)))

/-- Errors that end packets (R26, R215, R258, R505, Table 16-1): a write answered with an error ends its packet PROTECTION 0x0E; a parity error takes the engine
out of service and the packet on it ends POISONED; each is reported.
It rests on the model's choices of log entry 45. -/
def Obligations.EngineErrorsEndPackets : Prop :=
  (∀ (s : State) (h : HalfId) (c : Nat), let x := s.sys.half h
    let k := s.sys.chan h c
    s.sys.RunsPlain h c → x.hasRoom 4 → Settles (.meshWriteError h c) s (fun m => s.sys.Still m ∧ s.sys.ChanEnds m h c 0x21 0x0E k.done (k.dstAt k.done) ∧
      x.Reported (m.half h) 4 (mkErr x 4 (c / 8) 0x13 3 2 0 (some k.part) c)))
  ∧ (∀ (s : State) (h : HalfId) (c d : Nat), let x := s.sys.half h
    s.sys.RunsPlain h d → x.hasRoom 4 → (x.dma.chans.filter (fun e => e.1 / 8 == c / 8)).map (·.1) = [d] →
    Settles (.channelParityError h c) s (fun m => s.sys.Still m ∧ s.sys.ChanEnds m h d 0x22 0 (s.sys.chan h d).done 0 ∧
      bitAt (m.half h).dma.map (c / 8) = false ∧ (∀ e, e ≠ c / 8 → bitAt (m.half h).dma.map e = bitAt x.dma.map e) ∧
      x.Reported (m.half h) 4 (mkErr x 4 (c / 8) 0x15 3 0 0 none c)))
  ∧ (∀ (s : State) (h : HalfId) (e d : Nat), let x := s.sys.half h
    s.sys.RunsPlain h d → x.hasRoom (5 + e / 4) → (x.xfm.slots.filter (fun k => k.1 / 4 == e)).map (fun k => k.2.chan) = [d] →
    Settles (.engineParityError h e) s (fun m => s.sys.Still m ∧ s.sys.ChanEnds m h d 0x22 0 (s.sys.chan h d).done 0 ∧
      bitAt (m.half h).xfm.map e = false ∧ (∀ n, n ≠ e → bitAt (m.half h).xfm.map n = bitAt x.xfm.map n) ∧
      x.Reported (m.half h) (5 + e / 4) (mkErr x (5 + e / 4) (e % 4) 0x17 3)))

/-- Dispatch and completion as commands of their own (R61, R62, R79, R97, R113, R115, R116, R202): the next head is dispatched, waiting for its mirror while
PAIRED; a channel with nothing left completes; trailers and signals store; waiters poll and time out. -/
def Obligations.PacketEventsAct : Prop :=
  (∀ (s : State) (h : HalfId) (q : Nat) (f : Fetched) (rest : List Fetched), let x := s.sys.half h
    let r := s.sys.blk.getQ q
    nextInTurn x.lastPrio (s.sys.blk.heads h true) = none → nextInTurn x.lastQ (s.sys.blk.heads h false) = some q → r.fetched = f :: rest →
    f.ref.q = q → f.pkt.hdr.trailer = none →
    (f.pkt.op = 0 → x.tdm.st ≠ .paired → Settles (.packetDispatch h) s (fun m => s.sys.Still m ∧ (m.half h).lastQ = q ∧
      (m.half h).lastPrio = x.lastPrio ∧ m.blk.getQ q = { r with
        fetched := r.fetched.filter (fun e => e.ref.slot != f.ref.slot), inflight := r.inflight.filter (fun e => e.ref.slot != f.ref.slot),
        replies := r.replies ++ [{ ref := f.ref, status := 0, half := h }] })) ∧
    (f.pkt.op = 0x10 → x.tdm.st = .paired → x.linkUp → Settles (.packetDispatch h) s (fun m => s.sys.Still m ∧ (m.half h).lastQ = q ∧
      let d : Disp := { ref := f.ref, pkt := f.pkt, half := h, waitAck := some x.tdm.mirSeq, time := s.sys.clk.now h }
      m.blk.getQ q = { r with fetched := r.fetched.filter (fun e => e.ref.slot != f.ref.slot), inflight := r.inflight ++ [d] } ∧
      m.blk.out = .tandem h (.mirror x.tdm.mirSeq (.dispatch q d)) :: s.sys.blk.out ∧
      (m.half h).tdm.mirUnacked = x.tdm.mirUnacked ++ [x.tdm.mirSeq])))
  ∧ (∀ (s : State) (q slot c : Nat) (d : Disp), let h := d.half
    let k := s.sys.chan h c
    (s.sys.blk.getQ q).inflight.find? (fun d => d.ref.slot == slot) = some d → d.waitAck = none → d.chan = some c → k.disp.ref = d.ref → d.ref.q = q →
    s.sys.RunsPlain h c → k.disp.pkt.isElt = false → k.disp.pkt.op ≠ 0x50 → k.total ≤ k.pos → k.reads = [] → bitAt d.ref.flags 0 = false →
    Settles (.packetComplete q slot) s (fun m => s.sys.Still m ∧ s.sys.ChanEnds m h c 0 0 k.total 0))
  ∧ (∀ (s : State) (q slot : Nat) (n : Mach) (off value : Nat) (err : Bool), let h := s.sys.blk.queueHome q
    let x := s.sys.half h
    let r := s.sys.blk.getQ q
    let stores (m : Mach) : Prop := m.clk = s.sys.clk ∧ m.mem.host = n.mem.host ∧
      memRead m.mem.dev off 8 = leBytes 8 (value % 2 ^ 63 + (if err then 2 ^ 63 else 0)) ∧
      ∀ a, a < off ∨ off + 8 ≤ a → memGet m.mem.dev a = memGet n.mem.dev a
    x.dma.owed = [] → x.dma.flushes = [] → x.dma.orderErr = [] → (∀ d ∈ r.inflight, slotBefore d.ref.slot slot = false) →
    (n.half (n.blk.fenceHome off)).waiters = [] → bitAt (n.mem.word false off) 63 = false → n.mem.word false off ≤ value → r.st ≠ .absent →
    (∀ t, r.trailers.find? (fun t => t.ref.slot == slot) = some t → t.ref.q = q → value = t.value → err = t.err →
      s.sys.fenceAt h q slot r.ctx r.part t.fence true false = (n, .area off) →
      Settles (.signalTrailer q slot) s (fun m => stores m ∧ m.blk.getQ q = { r with trailers := r.trailers.erase t })) ∧
    (∀ d, r.inflight.find? (fun d => d.ref.slot == slot && d.pkt.op == 0x10) = some d → r.inflight.find? (fun d => d.ref.slot == slot) = some d →
      d.ref.q = q → d.half = h → d.waitAck = none → d.chan = none → d.pkt.hdr.trailer = none → value = d.pkt.arg 1 → err = false → x.tdm.st ≠ .paired →
      s.sys.fenceAt h q slot d.pkt.hdr.ctx d.pkt.hdr.part (d.pkt.arg 0) true false = (n, .area off) →
      Settles (.fenceSignalApply q slot) s (fun m => stores m ∧ m.blk.getQ q = { r with
        inflight := r.inflight.filter (fun e => e.ref.slot != slot), fetched := r.fetched.filter (fun e => e.ref.slot != slot),
        replies := r.replies ++ [{ ref := d.ref, status := 0, half := h }] })))
  ∧ (∀ (s : State) (fh : HalfId) (q slot : Nat) (w : Waiter), let x := s.sys.half fh
    let v := s.sys.mem.word false w.fence
    let h := s.sys.blk.queueHome q
    let answered (m : Mach) (st det : Nat) : Prop := s.sys.Quiet m ∧ (m.half fh).waiters = x.waiters.filter (fun k => k.ref != w.ref) ∧
      (m.blk.getQ q).replies = (s.sys.blk.getQ q).replies ++ [{ ref := w.ref, status := st, detail := det, half := h, result := v }]
    w.ref.q = q → (x.obj.mems.find? (fun o => o.kind == .fenceArea && o.holds w.fence)).all (fun o => o.abandoned == 0) →
    (s.sys.half h).mayAdvance w.ctx → (s.sys.half h).tdm.st ≠ .paired → (s.sys.blk.getQ q).st ≠ .absent →
    (x.waiters.find? (fun w => w.ref.q == q && w.ref.slot == slot && !w.entry) = some w → (x.waiters.filter (·.entry)).length < 4096 →
      (v % 2 ^ 63 < w.value → Settles (.fenceWaitPoll fh q slot) s (fun m => s.sys.Inside m fh ∧ m.half fh = { x with
        waiters := x.waiters.map (fun k => if k = w then { k with entry := true } else k) })) ∧
      (w.value ≤ v % 2 ^ 63 → Settles (.fenceWaitPoll fh q slot) s (fun m => answered m 0 (if bitAt v 63 then 1 else 0)))) ∧
    (x.waiters.find? (fun w => w.ref.q == q && w.ref.slot == slot && w.limit != 0) = some w → v % 2 ^ 63 < w.value →
      Settles (.fenceWaitTimeout fh q slot) s (fun m => answered m 0x32 0)))

/-- Engines and what they load (R219, R241, R244, R253): an engine takes one ready slot whose partition has a lease, in turn; a table or program that has loaded
lets its packet begin; a ROUTE's fences are signalled one by one. -/
def Obligations.EngineEventsAct : Prop :=
  (∀ (s : State) (h : HalfId) (e k : Nat) (v : XSlot) (n : Mach), let x := s.sys.half h
    e < 16 → k < 4 → Tab.look x.xfm.slots (e * 4 + k) = some v → v.ready → x.hasLease 3 (e / 4) v.part →
    (∀ j, j < 4 → j ≠ k → (Tab.look x.xfm.slots (e * 4 + j)).all (fun w => !w.ready)) →
    let y := x.takeLease 3 (e / 4) v.part 1
    Mach.chanStep { s.sys with blk := s.sys.blk.upd h (fun _ => { y with xfm := { y.xfm with
      turn := Tab.put y.xfm.turn e k, slots := Tab.put y.xfm.slots (e * 4 + k) { v with ready := false } } }) } h v.chan false = (n, .more) →
    bitAt (n.chan h v.chan).disp.ref.flags 1 = false → Settles (.engineIssue h e) s (fun m => m = n))
  ∧ (∀ (s : State) (h : HalfId) (e k : Nat) (v : XSlot), let x := s.sys.half h
    e < 16 → k < 4 → Tab.look x.xfm.slots (e * 4 + k) = some v → v.ready → x.hasLease 3 (e / 4) v.part = false →
    (∀ j, j < 4 → j ≠ k → (Tab.look x.xfm.slots (e * 4 + j)).all (fun w => !w.ready)) →
    Settles (.engineIssue h e) s (fun m => s.sys.Inside m h ∧ (m.half h).xfm = x.xfm ∧
      (Tab.dflt (m.half h).qos.buckets (bucketKey 3 (e / 4) v.part) {}).waiting ∧ (m.half h).dma = x.dma))
  ∧ (∀ (s : State) (h : HalfId) (c : Nat) (n : Mach), let k := s.sys.chan h c
    let p := k.disp.pkt
    let eng := (k.work.eng.getD 0) / 4
    k.st ≠ 0 → k.work.begun = false → p.op = 0x18 →
    (∀ t, p.arg 5 = 2 → s.sys.loadTable h c (eng / 4) (p.arg 10) (p.arg 9) false = (n, .ok t) → (n.chan h c).st ≠ 0 →
      Settles (.tableLoadComplete h c) s (fun m => m.clk = s.sys.clk ∧ m.mem = n.mem ∧ m.chan h c = { n.chan h c with
        work := { (n.chan h c).work with tabs := [t], begun := true } } ∧
        ∀ e ∈ (m.half h).xfm.slots, e.2.chan = c → e.2.loading = false)) ∧
    (∀ g, p.arg 5 = 3 → s.sys.loadProg h c eng (p.arg 10) (p.arg 9) false = (n, .ok g) → g.tabs = [] → g.in1 = (p.arg 16 != 0) → (n.chan h c).st ≠ 0 →
      Settles (.programLoadComplete h c) s (fun m => m.clk = s.sys.clk ∧ m.mem = n.mem ∧ m.chan h c = { n.chan h c with
        work := { (n.chan h c).work with prog := some g, tabs := [], begun := true } } ∧
        ∀ e ∈ (m.half h).xfm.slots, e.2.chan = c → e.2.loading = false)))
  ∧ (∀ (s : State) (h : HalfId) (quad va gen ctx c : Nat) (r : Resident) (t : PwlTable), let x := s.sys.half h
    (s.sys.chan h c).ctx = ctx → resFind x.xfm.tables quad ctx va gen = some r → parseTable r.data = some t → ∀ b,
      s.sys.loadTable h c quad va gen b = (s.sys, .ok t))
  ∧ (∀ (s : State) (h : HalfId) (c e : Nat), let x := s.sys.half h
    let k := s.sys.chan h c
    let w := k.work
    k.st ≠ 0 → w.fencesDue → k.acks = 0 → w.fences.contains e → w.fences.erase e ≠ [] → k.ends = none →
    ((w.map.getD e (0, 0, 0)).2.2 = 0 → Settles (.routeFenceSignal h c e) s (fun m => s.sys.Inside m h ∧ (m.half h).regs = x.regs ∧
      m.chan h c = { k with work := { w with fences := w.fences.erase e } })) ∧
    (∀ n d ds off, (w.map.getD e (0, 0, 0)).2.2 ≠ 0 → (s.sys.updChan h c (fun y => { y with work := { y.work with fences := y.work.fences.erase e } })).parts
        h c 3 (w.map.getD e (0, 0, 0)).2.2 8 true false 2 = (n, .ok (d :: ds)) → d.place = .dev off → ((n.half h).areaAt k.part off).isSome →
      (n.chan h c).work.fences = w.fences.erase e → (n.half (n.blk.fenceHome off)).waiters = [] → bitAt (n.mem.word false off) 63 = false →
      n.mem.word false off ≤ k.disp.pkt.arg 13 → Settles (.routeFenceSignal h c e) s (fun m => m.clk = s.sys.clk ∧ m.mem.host = n.mem.host ∧
        memRead m.mem.dev off 8 = leBytes 8 (k.disp.pkt.arg 13 % 2 ^ 63) ∧ m.blk = n.blk ∧
        ∀ a, a < off ∨ off + 8 ≤ a → memGet m.mem.dev a = memGet n.mem.dev a)))

/-- Contexts end (R107, R109, R121, R418): a loss makes a context FAULTED and ends its packets; a destruction with nothing left to wait for ends the context,
and at its bound ends what still runs; a sweep with no page left frees its slot; an object without references gives its frames back.
It rests on the model's choices of log entries 24, 59. -/
def Obligations.ContextsEnd : Prop :=
  (∀ (s : State) (e : LossEv) (c : Ctx), let h := e.half
    let x := s.sys.half h
    x.ctx? e.ctx = some c → e.ref = none →
    (c.st = .created ∨ c.st = .active → (∀ q ∈ s.sys.blk.ctxQueues h e.ctx, (s.sys.blk.getQ q).inflight = []) → x.tdm.st ≠ .paired →
      x.obj.streams = [] → x.obj.mems = [] → s.sys.WithdrawsAlone h e.ctx 0 vaTop → (s.sys.half h.other).xlt.holders = [] → x.hasRoom 2 →
      x.regFld 0x0900400 7 0 = 0 →
      (∀ q, ∀ f ∈ (s.sys.blk.getQ q).fetched, f.ref.q = q) → Settles (.contextLoss e) s (fun m => s.sys.Quiet m ∧
        (∃ n, (m.half h).ctx? e.ctx = some { c with
          st := .faulted, lossCause := e.cause, lossMaster := e.master, lossAccess := e.access,
          lossAddr := e.addr, lossTime := s.sys.clk.now h, lossCount := min 255 (c.lossCount + 1), lostPackets := c.lostPackets + n }) ∧
        x.Reported (m.half h) 2 (mkErr x 2 0 0x93 3 e.access e.addr (some c.part) (e.master % 512)) ∧
        x.Forgot (m.half h) e.ctx 0 vaTop ∧ (∀ k, k ≠ e.ctx → (m.half h).ctx? k = x.ctx? k) ∧
        ∀ q, let r := s.sys.blk.getQ q
          (q ∉ s.sys.blk.ctxQueues h e.ctx → m.blk.getQ q = r) ∧
          (q ∈ s.sys.blk.ctxQueues h e.ctx → (m.blk.getQ q).fetched = [] ∧ (m.blk.getQ q).st = r.st ∧ (m.blk.getQ q).replies = r.replies ++
            r.fetched.map (fun f => { ref := f.ref, status := 0x30, half := s.sys.blk.queueHome q })))) ∧
    (c.st = .faulted → x.tdm.st ≠ .paired → Settles (.contextLoss e) s (fun m => s.sys.Still m ∧
      (m.half h).ctx? e.ctx = some { c with lossCount := min 255 (c.lossCount + 1) } ∧ (∀ k, k ≠ e.ctx → (m.half h).ctx? k = x.ctx? k) ∧
      (m.half h).obj.queues = x.obj.queues)))
  ∧ (∀ (s : State) (h : HalfId) (id : Nat) (c : Ctx) (d : Drain), let x := s.sys.half h
    x.ctx? id = some c → c.st = .draining → c.drain = some d → d.step = 2 → s.sys.blk.ctxQueues h id = [] → x.obj.streams = [] → x.obj.windows = [] →
    x.obj.grants = [] → x.obj.regions = [] → x.obj.mems = [] → x.obj.tables = [] → s.sys.blk.queueHome 0 = h →
    s.sys.WithdrawsAlone h id 0 vaTop → (∀ g, ∀ r ∈ (s.sys.half g).fab.reqs, r.2.ctx ≠ id) →
    ∀ k, k = .ctxDrainComplete h id ∨ k = .drainBoundExpiry h false id → Settles k s (fun m => s.sys.Quiet m ∧ (m.half h).ctx? id = none ∧
      (∀ n, n ≠ id → (m.half h).ctx? n = x.ctx? n) ∧ x.Forgot (m.half h) id 0 vaTop ∧ (∀ p ∈ (m.half h).obj.pins, p.ctx ≠ id) ∧
      (∀ ref, d.reply = some ref → ref.q = 0 → (s.sys.blk.getQ 0).st ≠ .absent → ∃ r ∈ (m.blk.getQ 0).replies, r.ref = ref ∧ r.status = 0 ∧ r.detail = 0) ∧
      ∀ n, n ≠ 0 → (m.half h).queue n = x.queue n))
  ∧ (∀ (s : State) (h : HalfId) (id q : Nat) (c : Ctx) (d : Drain) (a : Disp), let x := s.sys.half h
    x.ctx? id = some c → c.st = .draining → c.drain = some d → d.step = 2 → s.sys.blk.ctxQueues h id = [q] → (s.sys.blk.getQ q).inflight = [a] →
    x.obj.streams = [] → (Settles (.ctxDrainComplete h id) s (fun m => m = s.sys)) ∧
    (a.chan = none → a.ref.q = q → q ≠ 0 → x.obj.windows = [] → x.obj.grants = [] → x.obj.regions = [] → x.obj.mems = [] → x.obj.tables = [] →
      s.sys.blk.queueHome 0 = h → s.sys.WithdrawsAlone h id 0 vaTop → (s.sys.blk.getQ q).replies = [] → (s.sys.blk.getQ q).idxDirty = false →
      Settles (.drainBoundExpiry h false id) s (fun m => m.clk = s.sys.clk ∧ (m.half h).ctx? id = none ∧ (m.half h).queue q = {} ∧
        (∀ n, n ≠ id → (m.half h).ctx? n = x.ctx? n) ∧ x.Forgot (m.half h) id 0 vaTop ∧
        (∀ ref, d.reply = some ref → ref.q = 0 → (s.sys.blk.getQ 0).st ≠ .absent → ∃ r ∈ (m.blk.getQ 0).replies, r.ref = ref ∧ r.status = 0 ∧ r.detail = 0))))
  ∧ (∀ (s : State) (h : HalfId) (q : Nat) (d : Drain), let x := s.sys.half h
    let r := s.sys.blk.getQ q
    s.sys.blk.queueHome q = h → q ≠ 0 → s.sys.blk.queueHome 0 = h → x.tdm.st ≠ .paired → r.drain = some d → r.trailers = [] → r.replies = [] →
    r.idxDirty = false →
    (r.inflight = [] → r.fetched = [] → Settles (.drainBoundExpiry h true q) s (fun m => s.sys.Still m ∧ (m.half h).queue q = {} ∧
      (∀ ref, d.reply = some ref → ref.q = 0 → (s.sys.blk.getQ 0).st ≠ .absent → ∃ e ∈ (m.blk.getQ 0).replies, e.ref = ref ∧ e.status = 0 ∧ e.result = r.cidx % 2 ^ 64) ∧
      ∀ k, k ≠ q → k ≠ 0 → (m.half h).queue k = x.queue k)) ∧
    (∀ a, r.inflight = [a] → r.fetched = [] → a.chan = none → a.ref.q = q → a.pkt.hdr.trailer = none → Settles (.drainBoundExpiry h true q) s (fun m =>
      m.clk = s.sys.clk ∧ (m.half h).queue q = {} ∧ (∀ ref, d.reply = some ref → ref.q = 0 → (s.sys.blk.getQ 0).st ≠ .absent → ∃ e ∈ (m.blk.getQ 0).replies, e.ref = ref ∧ e.status = 0) ∧
      ∀ k, k ≠ q → k ≠ 0 → (m.half h).queue k = x.queue k)))

  ∧ (∀ (s : State) (h : HalfId) (c : Ctx) (ref : PktRef), let x := s.sys.half h
    let id := x.sec.sweepCtx
    let slot := x.sec.sweepSlot
    x.sec.sweeping → x.sec.sweepRef = some ref → x.ctx? id = some c → c.st = .created ∨ c.st = .active → slot < 2 → x.tdm.st ≠ .paired →
    (s.sys.blk.getQ ref.q).st ≠ .absent →
    (s.sys.slotLeaves h id slot c = [] → Settles (.sweepChunkUnlock h) s (fun m => s.sys.Still m ∧ (m.half h).sec.sweeping = false ∧
      (∃ k, (m.half h).ctx? id = some k ∧ k.key slot = { epoch := (c.key slot).epoch } ∧ k.key (1 - slot) = c.key (1 - slot) ∧ k.st = c.st) ∧
      (m.blk.getQ ref.q).replies = (s.sys.blk.getQ ref.q).replies ++ [{ ref := ref, status := 0, half := h, result := x.sec.swept % 2 ^ 64 }])) ∧
    (∀ va e n i, s.sys.slotLeaves h id slot c = [(va, 4096, e)] → s.sys.sweepPage h id slot va e = (n, i) → s.sys.WithdrawsAlone h id va (va + 4096) →
      Settles (.sweepChunkUnlock h) s (fun m => m.clk = s.sys.clk ∧ m.mem = (n.moveSlot h id va (1 - slot)).mem ∧ (m.half h).sec.swept = x.sec.swept + i)))
  ∧ (∀ (s : State) (h : HalfId) (o : MemObj) (os : List MemObj) (f : Nat), let x := s.sys.half h
    x.tdm.st ≠ .paired → x.tdm.st ≠ .freewheel → x.obj.dead = o :: os → o.frames = [f] → f % 2 ^ 21 = 0 → x.dieReach (dieOf f) →
    Settles (.objectReclaim h) s (fun m => s.sys.Still m ∧ (m.half h).obj.dead = os ∧ (m.half h).obj.mems = x.obj.mems ∧
      (((x.obj.mems ++ os).any (fun k => k.frames.contains f)) → (m.half h).obj.frames = x.obj.frames ∧ m.blk.out = s.sys.blk.out) ∧
      (((x.obj.mems ++ os).any (fun k => k.frames.contains f)) = false → Tab.look (m.half h).obj.frames (f / 2 ^ 21) = none ∧
        (∀ k, k ≠ f / 2 ^ 21 → Tab.look (m.half h).obj.frames k = Tab.look x.obj.frames k) ∧
        ∀ s ∈ (m.half h).xlt.iotlb, s ∈ x.xlt.iotlb ∧ ¬ (s.target = 0 ∧ meets s.frame s.bytes f (2 ^ 21)))))

/-- Partitions are reset (R397, R398, R399, R408): a function-level reset returns the function to its defaults and ends the partition's contexts; the partition
is READY once they are gone, its frames reclaimed and a sealed range filled with zeros.
It rests on the model's choices of log entries 64, 89. -/
def Obligations.PartitionsReset : Prop :=
  (∀ (s : State) (pp vf : Nat), let h := HalfId.ofPort pp
    let x := s.sys.half h
    x.boot.inReset = false → s.sys.blk.primaryPort pp → 0 < vf → vf < 64 → x.tdm.st ≠ .paired →
    ((x.part vf).st ≠ .resetting → (∀ g, ∀ e ∈ (s.sys.half g).obj.queues, e.2.part ≠ vf) →
      (x.obj.ctxs.map (·.1)).Nodup →
      (∀ id c, x.ctx? id = some c → c.part = vf → c.st ≠ .destroyed ∧ (c.st = .draining → ∃ d, c.drain = some d ∧ d.step = 2) ∧ s.sys.blk.ctxQueues h id = [] ∧ s.sys.WithdrawsAlone h id 0 vaTop ∧
        ∀ g, ∀ r ∈ (s.sys.half g).fab.reqs, r.2.ctx ≠ id) →
      x.obj.streams = [] → x.obj.windows = [] → x.obj.grants = [] → x.obj.regions = [] → x.obj.mems = [] → x.obj.tables = [] →
      Settles (.functionLevelReset pp vf) s (fun m => s.sys.Quiet m ∧ (m.half h).fn (pp % 2) vf = {} ∧
        (∀ e ∈ (m.half h).msix, e ∈ x.msix ∧ e.1 / 2 ^ 11 ≠ pp % 2 * 64 + vf) ∧ (∀ e ∈ (m.half h).msgs, e ∈ x.msgs ∧ e.1 / 2 ^ 11 % 64 ≠ vf) ∧
        (∀ e ∈ (m.half h).qos.buckets, e.1 % 64 ≠ vf) ∧
        ((m.half h).part vf).st = .resetting ∧ ((m.half h).part vf).flrStart = s.sys.clk.now h ∧
        (m.half h).regFld 0x0700030 31 0 = (x.regFld 0x0700030 31 0 + 1) % 2 ^ 32 ∧
        (∀ id c, x.ctx? id = some c → (m.half h).ctx? id = if c.part = vf then none else some c) ∧
        ∀ p, p ≠ vf → (m.half h).part p = x.part p)) ∧
    ((x.part vf).st = .resetting → Settles (.functionLevelReset pp vf) s (fun m => s.sys.Inside m h ∧ (m.half h).fn (pp % 2) vf = {} ∧
      (m.half h).obj = x.obj ∧ (m.half h).msgs = x.msgs ∧ (m.half h).qos = x.qos ∧ (m.half h).regs = x.regs)))
  ∧ (∀ (s : State) (pp : Nat), let h := HalfId.ofPort pp
    let x := s.sys.half h
    x.tdm.st ≠ .paired → (∀ g, (s.sys.half g).obj.ctxs = [] ∧ (s.sys.half g).obj.queues = []) → x.boot.inReset = false → s.sys.blk.primaryPort pp →
    (Settles (.vfEnableClear pp) s (fun m => s.sys.Quiet m ∧ ((m.half h).fn (pp % 2) 0).vfEnable = false ∧
      ((m.half h).fn (pp % 2) 0).bme = (x.fn (pp % 2) 0).bme ∧ (m.half h).part 0 = x.part 0 ∧
      ∀ p, 0 < p → p < 64 → ((m.half h).part p).st = .resetting)) ∧
    Settles (.functionLevelReset pp 0) s (fun m => s.sys.Quiet m ∧ (m.half h).fn (pp % 2) 0 = { vfEnable := false } ∧
      ∀ p, p < 64 → ((m.half h).part p).st = .resetting))
  ∧ (∀ (s : State) (h : HalfId) (p : Nat), let x := s.sys.half h
    let k := x.part p
    x.tdm.st ≠ .paired → k.st = .resetting → (∀ e ∈ x.obj.ctxs, e.2.part = p → e.2.st = .destroyed) →
    (s.sys.clk.now h - k.flrStart) / 1000 < 2 ^ 32 →
    Settles (.partitionResetComplete h p) s (fun m => s.sys.Inside m h ∧
      (m.half h).part p = { k with st := if k.sealed ∨ ∃ o ∈ x.obj.dead, o.part = p then .reclaiming else .ready } ∧
      (m.half h).regFld 0x0700030 63 32 = max (x.regFld 0x0700030 63 32) ((s.sys.clk.now h - k.flrStart) / 1000) ∧
      (∀ q, q ≠ p → (m.half h).part q = x.part q) ∧ (m.half h).obj.ctxs = x.obj.ctxs ∧ ∀ r, r ≠ 0x0700030 → (m.half h).reg r = x.reg r))
  ∧ (∀ (s : State) (h : HalfId) (p : Nat), let x := s.sys.half h
    let k := x.part p
    let lo := viewFrame k.memBase * 2 ^ 21
    x.tdm.st ≠ .paired → k.st = .reclaiming → (∀ o ∈ x.obj.dead, o.part ≠ p) →
    Settles (.frameReclaimDone h p) s (fun m => m.clk = s.sys.clk ∧ (m.half h).regs = x.regs ∧ m.blk.out = s.sys.blk.out ∧
      m.half h.other = s.sys.half h.other ∧ (m.half h).part p = { k with st := .ready, sealed := false } ∧
      (∀ q, q ≠ p → (m.half h).part q = x.part q) ∧ m.mem.host = s.sys.mem.host ∧
      ∀ a, memGet m.mem.dev a = if k.sealed ∧ lo ≤ a ∧ a < lo + k.memSize then 0 else memGet s.sys.mem.dev a))

/-- Walks (R137 to R148): a free Spoke takes the next miss; each group read goes down a level, ends the walk, or finds a leaf span; the compare-and-swaps set
ACCESSED and DIRTY and the span is installed; a failed Spoke is replaced; holders roll forward; ATS answers fill holder entries.
It rests on the model's choices of log entries 13, 48. -/
def Obligations.WalksAct : Prop :=
  (∀ (s : State) (h : HalfId), let x := s.sys.half h
    (∀ sp m, x.freeSpoke = some sp → x.nextMiss = some m → (∀ w ∈ x.xlt.walks, ∀ q ∈ x.xlt.queue, w.2.shares q = false) →
      Completes (.walkStart h) s (fun n => s.sys.Inside n h ∧ (n.half h).xlt.queue = x.xlt.queue.erase m ∧
        Tab.look (n.half h).xlt.walks sp = some (x.walkBegin m) ∧ (∀ k, k ≠ sp → Tab.look (n.half h).xlt.walks k = Tab.look x.xlt.walks k) ∧
        (n.half h).regs = x.regs ∧ (n.half h).obj = x.obj)) ∧
    (∀ m, x.nextMiss = some m → m ∈ x.xlt.queue ∧ ∀ k ∈ x.xlt.queue, 1 ≤ k.cls → k.cls ≤ 3 → x.hasLease 2 0 k.part → m.cls ≤ k.cls) ∧
    (∀ sp w m, x.xlt.queue = [m] → x.xlt.walks = [(sp, w)] → w.shares m → Completes (.walkStart h) s (fun n => s.sys.Inside n h ∧
      (n.half h).xlt.queue = [] ∧ (n.half h).xlt.walks = [(sp, { w with attached := w.attached ++ [m] })] ∧ (n.half h).regs = x.regs)))
  ∧ (∀ (g : List Nat) (i a b : Nat), spanOf true g i = (a, b, false) → a ≤ i ∧ i ≤ b ∧ b ≤ 15 ∧ ∀ j, a ≤ j → j ≤ b → spanMate g i j)
  ∧ (∀ (s : State) (h : HalfId) (sp n : Nat) (w : Walk) (d : Holder), let x := s.sys.half h
    let e := s.sys.mem.word w.host (w.table + levelIdx w.miss.va w.level * 8)
    Tab.look x.xlt.walks sp = some w → w.stale = false → w.span = none → w.attached = [] → w.miss.who = .holder n →
    Tab.look x.xlt.holders n = some d → d.st = 0 → d.stale = false →
    let ends (f : Holder → Holder) (m : Mach) : Prop := s.sys.Quiet m ∧ Tab.look (m.half h).xlt.walks sp = none ∧ Tab.look (m.half h).xlt.holders n = some (f d) ∧
      (∀ k, k ≠ sp → Tab.look (m.half h).xlt.walks k = Tab.look x.xlt.walks k) ∧ m.half h.other = s.sys.half h.other
    let bad (det kind : Nat) (m : Mach) : Prop := ends (fun k => { k with denied := some det }) m ∧
      x.Reported (m.half h) 3 (mkErr x 3 0 kind 2 4 (w.table + levelIdx w.miss.va w.level * 8) (some w.miss.part))
    (x.hasRoom 3 → Settles (.walkGroupRead h sp false) s (bad 0x0E 4)) ∧
    (∀ g c, readGroup s.sys.mem x w.host w.table (levelIdx w.miss.va w.level) = some g → x.ctx? w.miss.ctx = some c →
      (eValid e = false → Settles (.walkGroupRead h sp true) s (ends (fun k => { k with absent := true }))) ∧
      (eValid e → malformed e w.level → x.hasRoom 3 → Settles (.walkGroupRead h sp true) s (bad 0x03 0)) ∧
      (eValid e → malformed e w.level = false → eLeaf e = false → Settles (.walkGroupRead h sp true) s (fun m => s.sys.Still m ∧
        Tab.look (m.half h).xlt.walks sp = some { w with level := w.level - 1, host := eTarget e == 1, table := eFrame e } ∧
        (m.half h).xlt.holders = x.xlt.holders ∧ ∃ f ∈ (m.half h).xlt.wcache, f.ctx = w.miss.ctx ∧ f.level = w.level - 1 ∧ f.table = eFrame e ∧
          f.va ≤ w.miss.va ∧ w.miss.va < f.va + 2 ^ (12 + 9 * (w.level - 1)))) ∧
      (eValid e → malformed e w.level = false → eLeaf e →
        (∀ k, leafCheck x c w.miss.ctx w.miss.va w.miss.write e = some k → k ≠ 0x03 → k ≠ 0x0E →
          Settles (.walkGroupRead h sp true) s (ends (fun y => { y with denied := some k }))) ∧
        (∀ a b, leafCheck x c w.miss.ctx w.miss.va w.miss.write e = none → let i := levelIdx w.miss.va w.level % 16
          spanOf x.mergeEn g i = (a, b, false) → let t := spanFrom w.miss.ctx w.miss.va w.level g i a b (w.miss.write || !x.adUpdate)
          (x.adUpdate = false ∨ (∀ j, a ≤ j → j ≤ b → Nat.land (g.getD j 0) (adBits w.miss.write) = adBits w.miss.write) →
            Settles (.walkGroupRead h sp true) s (fun m => ends (fun k => { k with span := t, st := 1, absent := false }) m ∧ t ∈ (m.half h).xlt.iotlb)) ∧
          (x.adUpdate → (∃ j, a ≤ j ∧ j ≤ b ∧ Nat.land (g.getD j 0) (adBits w.miss.write) ≠ adBits w.miss.write) →
            Settles (.walkGroupRead h sp true) s (fun m => s.sys.Still m ∧ (m.half h).xlt.holders = x.xlt.holders ∧
              ∃ k, Tab.look (m.half h).xlt.walks sp = some k ∧ k.span = some t ∧ k.group = g ∧ k.cas ≠ [] ∧
                ∀ j, j ∈ k.cas ↔ (a ≤ j ∧ j ≤ b ∧ Nat.land (g.getD j 0) (adBits w.miss.write) ≠ adBits w.miss.write)))))))
  ∧ (∀ (s : State) (h : HalfId) (sp n j : Nat) (js : List Nat) (w : Walk) (d : Holder) (t : Span), let x := s.sys.half h
    let at_ := w.table + (levelIdx w.miss.va w.level / 16 * 16 + j) * 8
    let e := s.sys.mem.word w.host at_
    Tab.look x.xlt.walks sp = some w → w.stale = false → w.span = some t → w.cas = j :: js → w.attached = [] → w.miss.who = .holder n →
    Tab.look x.xlt.holders n = some d → d.st = 0 → d.stale = false →
    (w.group.getD j 0 = e → Settles (.adUpdateCas h sp true) s (fun m => m.clk = s.sys.clk ∧
      m.mem.word w.host at_ = Nat.lor e (adBits w.miss.write) ∧
      (∀ b, w.host ∨ b < at_ ∨ at_ + 8 ≤ b → memGet m.mem.dev b = memGet s.sys.mem.dev b) ∧
      (∀ b, w.host = false ∨ b < at_ ∨ at_ + 8 ≤ b → memGet m.mem.host b = memGet s.sys.mem.host b) ∧
      (js ≠ [] → Tab.look (m.half h).xlt.walks sp = some { w with cas := js } ∧ (m.half h).xlt.holders = x.xlt.holders) ∧
      (js = [] → Tab.look (m.half h).xlt.walks sp = none ∧ t ∈ (m.half h).xlt.iotlb ∧
        Tab.look (m.half h).xlt.holders n = some { d with span := t, st := 1, absent := false }))) ∧
    (w.group.getD j 0 ≠ e → Settles (.adUpdateCas h sp true) s (fun m => s.sys.Quiet m ∧
      Tab.look (m.half h).xlt.walks sp = some { w with span := none, cas := [], group := [] } ∧
      (m.half h).regFld 0x0100038 31 0 = (x.regFld 0x0100038 31 0 + 1) % 2 ^ 32)))
  ∧ (∀ (s : State) (h : HalfId) (sp : Nat) (w : Walk), let x := s.sys.half h
    let g := if sp ≤ 16 then 0 else 1
    sp < 32 → bitAt x.xlt.spokes sp → Tab.look x.xlt.walks sp = some w → x.hasRoom 3 →
    Completes (.spokeFail h sp) s (fun m => s.sys.Inside m h ∧
      (bitAt x.xlt.spares g → (m.half h).xlt.spokes = x.xlt.spokes ∧ (m.half h).xlt.spares = x.xlt.spares - 2 ^ g ∧
        Tab.look (m.half h).xlt.spareFor g = some sp ∧ Tab.look (m.half h).xlt.walks sp = some { x.walkBegin w.miss with attached := w.attached } ∧
        (m.half h).xlt.queue = x.xlt.queue ∧ x.Reported (m.half h) 3 (mkErr x 3 sp 0x01 1 0 0 none sp)) ∧
      (bitAt x.xlt.spares g = false → (m.half h).xlt.spokes = x.xlt.spokes - 2 ^ sp ∧ (m.half h).xlt.spares = x.xlt.spares ∧
        Tab.look (m.half h).xlt.walks sp = none ∧ (m.half h).xlt.queue = w.miss :: w.attached ++ x.xlt.queue ∧
        x.Reported (m.half h) 3 (mkErr x 3 sp 0x02 2 0 0 none sp))))
  ∧ (∀ (s : State) (h : HalfId) (n : Nat) (d : Holder) (k : Chan) (o lo len : Nat) (wr : Bool), let x := s.sys.half h
    let nx := d.span.va + d.span.bytes
    x.xlt.holders = [(n, d)] → d.st = 1 → x.inUse d = false → Tab.look x.dma.chans d.eng = some k →
    k.disp.pkt.ranges.find? (fun r => r.1 == d.opnd && decide (r.2.1 ≤ nx) && decide (d.span.va < r.2.1 + r.2.2.1)) = some (o, lo, len, wr) →
    (lo + len ≤ nx → Completes (.holderSpanRelease h n) s (fun m => s.sys.Inside m h ∧ (m.half h).xlt = { x.xlt with holders := [] } ∧ (m.half h).dma = x.dma)) ∧
    (∀ t, nx < lo + len → x.tlbHit d.span.ctx nx wr = some t → Completes (.holderSpanRelease h n) s (fun m => s.sys.Inside m h ∧
      (m.half h).xlt.queue = x.xlt.queue ∧ (m.half h).dma = x.dma ∧ (m.half h).xlt.holders =
        [(0, { eng := d.eng, q := d.q, slot := d.slot, opnd := d.opnd, write := wr, span := t, st := 1 })])) ∧
    (nx < lo + len → x.tlbHit d.span.ctx nx wr = none → x.xlt.queue.length < 512 → Completes (.holderSpanRelease h n) s (fun m => s.sys.Inside m h ∧
      (m.half h).xlt.queue = x.xlt.queue ++ [{ ctx := d.span.ctx, va := nx, write := wr, cls := 3, part := k.disp.pkt.hdr.part, who := .holder 0 }] ∧
      (m.half h).dma = x.dma)))
  ∧ (∀ (s : State) (h : HalfId) (n addr pages : Nat) (rd wr : Bool), let x := s.sys.half h
    (∀ d r first, Tab.look x.xlt.holders n = some d → d.atsOut = some (r, first) → pages ≤ d.span.bytes / 4096 - first → pages ≠ 0 →
      (if d.write then wr else rd) → Completes (.atsCompletion h n addr pages rd wr) s (fun m => s.sys.Inside m h ∧ (m.half h).regs = x.regs ∧
        ∃ k, Tab.look (m.half h).xlt.holders n = some k ∧ k.atsOut = none ∧ k.absent = d.absent ∧ k.st = d.st ∧
          (∀ i, i < pages → Tab.look k.ats (first + i) = some (addr + i * 4096)) ∧
          (∀ i, i < first ∨ first + pages ≤ i → Tab.look k.ats i = Tab.look d.ats i) ∧
          k.span.pages = if first + pages < d.span.bytes / 4096 ∧ d.span.size = 0 then first + pages else d.span.pages)) ∧
    (∀ d r first, Tab.look x.xlt.holders n = some d → d.atsOut = some (r, first) → pages ≤ d.span.bytes / 4096 - first →
      pages = 0 ∨ (if d.write then wr else rd) = false → Completes (.atsCompletion h n addr pages rd wr) s (fun m => s.sys.Inside m h ∧
        Tab.look (m.half h).xlt.holders n = some { d with atsOut := none, absent := true } ∧ (m.half h).regs = x.regs)) ∧
    (Tab.look x.xlt.holders n = none → x.hasRoom 3 → Completes (.atsCompletion h n addr pages rd wr) s (fun m => s.sys.Inside m h ∧
      (m.half h).xlt = x.xlt ∧ x.Reported (m.half h) 3 (mkErr x 3 0 0x03 2))))

/-- Die ports (R37, R39, R152 to R156): a translation request is answered from the IOTLB, queued, or denied, with loss of the context where it was granted; a
chiplet's access is checked as the checker does, and a denial returns poison.
It rests on the model's choices of log entry 49. -/
def Obligations.ChipletAccessesAct : Prop :=
  (∀ (s : State) (h : HalfId) (port acc tid ctx va : Nat), let x := s.sys.half h
    let part := ((x.ctx? ctx).map (·.part)).getD 0
    let src := x.id.num * 2 ^ 11 + 9 * 2 ^ 7 + x.chipId port
    x.admitted port →
    (x.dptMay port ctx = false → x.hasRoom 9 → Settles (.xtReq h port acc tid ctx va) s (fun m => s.sys.Quiet m ∧
      m.blk.out = .xtRsp h port tid 1 0 0 0 0 :: s.sys.blk.out ∧ m.blk.lossQ = s.sys.blk.lossQ ∧ (m.half h).xlt = x.xlt ∧
      (m.half h).regFld 0x0100040 31 0 = (x.regFld 0x0100040 31 0 + 1) % 2 ^ 32 ∧
      x.Reported (m.half h) 9 { mkErr x 9 port 0x50 3 (if bitAt acc 1 then 2 else 1) va ((x.ctx? ctx).map (·.part)) with source := src })) ∧
    (∀ t, x.dptMay port ctx → x.tlbHit ctx va (bitAt acc 1) = some t → x.dptServes t va → (bitAt acc 0 → t.rd) → (bitAt acc 1 → t.wr) →
      let p := (x.pinAt ctx va).getD {}
      let u := t.cutTo p.lo p.hi
      Settles (.xtReq h port acc tid ctx va) s (fun m => s.sys.Still m ∧ m.blk = { s.sys.blk with
        out := .xtRsp h port tid 0 u.size u.pages (b2n u.rd + 2 * b2n u.wr + 4 * b2n u.coherent + 16 * u.target) u.frame :: s.sys.blk.out })) ∧
    (∀ t, x.dptMay port ctx → x.tlbHit ctx va (bitAt acc 1) = some t → x.dptServes t va = false →
      Settles (.xtReq h port acc tid ctx va) s (fun m => s.sys.Still m ∧ m.blk = { s.sys.blk with
        out := .xtRsp h port tid 1 0 0 0 0 :: s.sys.blk.out
        lossQ := s.sys.blk.lossQ ++ [{
          ctx := ctx, cause := 2, master := 2 ^ 15 + part * 512 + x.chipId port, access := if bitAt acc 1 then 2 else 1, addr := va, half := h }] })) ∧
    (x.dptMay port ctx → x.tlbHit ctx va (bitAt acc 1) = none → Settles (.xtReq h port acc tid ctx va) s (fun m => s.sys.Inside m h ∧
      m.half h = { x with xlt := { x.xlt with queue := x.xlt.queue ++
        [{ ctx := ctx, va := va, write := bitAt acc 1, cls := 2, part := part, who := .port port tid acc }] } })))
  ∧ (∀ (s : State) (h : HalfId) (port ctx a n : Nat) (bs : List Byte) (c : Instr), let x := s.sys.half h
    let part := ((x.ctx? ctx).map (·.part)).getD 0
    let reads (m : Mach) : Prop := s.sys.Still m ∧ m.blk = { s.sys.blk with
      out := .chipData h port (s.sys.mem.readDev a n) (s.sys.mem.poisoned a n) :: s.sys.blk.out }
    let writes (m : Mach) : Prop := m.clk = s.sys.clk ∧ m.blk = s.sys.blk ∧ m.mem.host = s.sys.mem.host ∧
      (∀ i, i < bs.length → memGet m.mem.dev (a + i) = bs.getD i 0) ∧
      ∀ b, b < a ∨ a + bs.length ≤ b → memGet m.mem.dev b = memGet s.sys.mem.dev b
    x.admitted port → x.devAccess a ctx part false = .ok →
    (c = .chipletTranslatedAccess h port ctx false false a n bs → Settles c s reads) ∧
    (c = .chipletTranslatedAccess h port ctx false true a n bs → Settles c s writes) ∧
    (∀ va t, x.dptMay port ctx → x.tlbHit ctx va false = some t → x.dptServes t va → t.rd → t.target = 0 → t.phys va = a →
      c = .chipletUntranslatedAccess h port ctx false va n bs → Settles c s reads) ∧
    (∀ va t, x.dptMay port ctx → x.tlbHit ctx va true = some t → x.dptServes t va → t.wr → t.target = 0 → t.phys va = a →
      c = .chipletUntranslatedAccess h port ctx true va n bs → Settles c s writes))
  ∧ (∀ (s : State) (h : HalfId) (port ctx a n : Nat) (bs : List Byte), let x := s.sys.half h
    let part := ((x.ctx? ctx).map (·.part)).getD 0
    x.admitted port → x.devAccess a ctx part false = .denied → x.hasRoom 9 →
    Settles (.chipletTranslatedAccess h port ctx false false a n bs) s (fun m => s.sys.Quiet m ∧
      (∃ d, d.length = n ∧ m.blk.out = .chipData h port d true :: s.sys.blk.out) ∧
      x.Reported (m.half h) 9 (mkErr x 9 port 0x14 3 1 a (some part) (x.chipId port)) ∧
      m.blk.lossQ = s.sys.blk.lossQ ++ [{ ctx := ctx, cause := 1, master := 2 ^ 15 + part * 512 + x.chipId port, access := 1, addr := a, half := h }]) ∧
    Settles (.chipletTranslatedAccess h port ctx false true a n bs) s (fun m => s.sys.Quiet m ∧ m.blk.out = s.sys.blk.out ∧
      x.Reported (m.half h) 9 (mkErr x 9 port 0x14 3 2 a (some part) (x.chipId port)) ∧
      m.blk.lossQ = s.sys.blk.lossQ ++ [{ ctx := ctx, cause := 1, master := 2 ^ 15 + part * 512 + x.chipId port, access := 2, addr := a, half := h }]))
  ∧ (∀ (s : State) (h : HalfId) (port ctx a n : Nat) (bs : List Byte), let x := s.sys.half h
    let part := ((x.ctx? ctx).map (·.part)).getD 0
    x.admitted port → s.sys.CanAsk h (fabDst a) → x.ware.lines = [] →
    Settles (.chipletTranslatedAccess h port ctx true false a n bs) s (fun m => s.sys.Still m ∧
      s.sys.Asks m h { op := 0x10, addr := a, len := n, ctx := ctx, part := part, dst := fabDst a, what := .chip port }) ∧
    Settles (.chipletTranslatedAccess h port ctx true true a n bs) s (fun m => s.sys.Quiet m ∧ (∀ r, (m.half h).reg r = x.reg r) ∧
      s.sys.Asks m h { op := 0x20, addr := a, len := bs.length, ctx := ctx, part := part, data := bs, dst := fabDst a, what := .chip port }))

/-- What stands at the edge of the half (R36, R38, R39, R47, R184, R187, R467, R468): chiplet links and their admission, a late acknowledgement's fence, the
frame-owner checker's messages, and the test port.
It rests on the model's choices of log entries 50, 98. -/
def Obligations.ChipletsAndCheckerAct : Prop :=
  (∀ (s : State) (h : HalfId) (d cap : Nat) (desc : List Byte), let x := s.sys.half h
    let p := Tab.dflt x.dies d {}
    let q : DiePort := { p with link := true, cap := cap, desc := desc }
    (p.admitFor = none → Settles (.ucieLinkUp h d cap desc) s (fun m => s.sys.Inside m h ∧ m.half h = { x with dies := Tab.put x.dies d q })) ∧
    (∀ ref, p.admitFor = some ref → q.check = 0 → x.tdm.st ≠ .paired → (s.sys.blk.getQ ref.q).st ≠ .absent → Settles (.ucieLinkUp h d cap desc) s (fun m =>
      s.sys.Still m ∧ Tab.dflt (m.half h).dies d {} = { q with st := 1, cause := 0, vendor := byteFld desc 7 6, admitFor := none } ∧
      (∀ k, k ≠ d → Tab.dflt (m.half h).dies k {} = Tab.dflt x.dies k {}) ∧ (∀ e ∈ (m.half h).coh.tags, tagPort e.1 ≠ d) ∧
      Tab.look (m.half h).coh.cred d = some (byteFld desc 12 12, byteFld desc 13 13, byteFld desc 14 14) ∧
      (∀ c e, (m.half h).ctx? c = some e → bitAt e.dieAllow (h.num * 8 + d) = false) ∧
      ∃ r ∈ (m.blk.getQ ref.q).replies, r.ref = ref ∧ r.status = 0 ∧ r.detail = 0)) ∧
    (∀ ref, p.admitFor = some ref → q.check ≠ 0 → x.hasRoom 9 → (s.sys.blk.getQ ref.q).st ≠ .absent → x.tdm.st ≠ .paired →
      Settles (.ucieLinkUp h d cap desc) s (fun m => s.sys.Still m ∧
        Tab.dflt (m.half h).dies d {} = { q with st := 2, cause := q.check, admitFor := none } ∧ (m.half h).coh = x.coh ∧
        x.Reported (m.half h) 9 (mkErr x 9 d 0x53 0) ∧ ∃ r ∈ (m.blk.getQ ref.q).replies, r.ref = ref ∧ r.status = 0x12 ∧ r.detail = 8)) ∧
    (∀ ref, p.admitFor = some ref → x.hasRoom 9 → (s.sys.blk.getQ ref.q).st ≠ .absent → x.tdm.st ≠ .paired →
      Settles (.chipletLinkTimeout h d) s (fun m => s.sys.Still m ∧
        Tab.dflt (m.half h).dies d {} = { p with st := 2, cause := 1, admitFor := none } ∧ x.Reported (m.half h) 9 (mkErr x 9 d 0x53 0) ∧
        ∃ r ∈ (m.blk.getQ ref.q).replies, r.ref = ref ∧ r.status = 0x40 ∧ r.detail = 0)) ∧
    (x.hasRoom 9 → Completes (.ucieLaneRepair h d) s (fun m => s.sys.Inside m h ∧ (m.half h).dies = x.dies ∧
      (p.link → x.Reported (m.half h) 9 (mkErr x 9 d 0x52 1 11)) ∧ (p.link = false → m.half h = x))))
  ∧ (∀ (d : DiePort), let f := byteFld d.desc
    d.check = 0 ↔ bitAt d.cap 3 = false ∧ bitAt d.cap 0 = false ∧ bitAt d.cap 1 ∧ bitAt d.cap 2 ∧ d.cap / 256 ≤ 32 ∧ f 3 0 = 0x44435157 ∧
      crc32 (d.desc.take 60) = f 63 60 ∧ f 5 5 = 1 ∧ f 8 8 % 8 = 7 ∧ f 9 9 = 9 ∧ f 10 10 = 16 ∧ f 11 11 = 6 ∧ 16 ≤ f 12 12 ∧ 64 ≤ f 13 13 ∧
      32 ≤ f 14 14 ∧ f 16 16 ≤ 16)
  ∧ (∀ (s : State) (h : HalfId) (d tag : Nat), let x := s.sys.half h
    (∀ j, x.xlt.invs = [j] → j.ports = [(d, tag)] → j.queued = [] → (∀ a b, j.what ≠ .partner a b) →
      (∀ f, Settles (.xtInvAck h d tag f) s (fun m => s.sys.Inside m h ∧ m.half h = { x with xlt := { x.xlt with
        invs := [{ j with ports := [], fenced := if f then some (x.chipId d) else j.fenced }] } })) ∧
      (x.coh.tags = [] → x.coh.txns = [] → x.coh.resv = [] → x.hasRoom 9 → Settles (.chipletAckTimeout h d tag) s (fun m => s.sys.Inside m h ∧
        (Tab.dflt (m.half h).dies d {}).st = 3 ∧ (m.half h).xlt = { x.xlt with invs := [{ j with ports := [], fenced := some (x.chipId d) }] } ∧
        (m.half h).regFld 0x0400038 31 0 = (x.regFld 0x0400038 31 0 + 1) % 2 ^ 32 ∧ (m.half h).regFld 0x0400038 39 32 = (h.num * 8 + d) % 2 ^ 8 ∧
        x.Reported (m.half h) 9 { mkErr x 9 d 0x51 3 with source := h.num * 2 ^ 11 + 9 * 2 ^ 7 + (h.num * 8 + d) } ∧ (m.half h).obj = x.obj))) ∧
    ((∀ j ∈ x.xlt.invs, (d, tag) ∉ j.ports) → Settles (.chipletAckTimeout h d tag) s (fun m => m = s.sys)))
  ∧ (∀ (s : State) (h : HalfId), let x := s.sys.half h
    (x.dma.unacked ≠ 0 → x.dma.checkQ = [] → Completes (.checkerAck h) s (fun m => s.sys.Inside m h ∧
      m.half h = { x with dma := { x.dma with unacked := x.dma.unacked - 1 } })) ∧
    (∀ a as, 0 < x.dma.unacked → x.dma.unacked ≤ 16 → x.dma.checkQ = a :: as → x.dma.checkDead = false → x.boot.inReset = false →
      Completes (.checkerAck h) s (fun m => s.sys.Still m ∧ m.blk.out = .checker h a :: s.sys.blk.out ∧
        m.half h = { x with dma := { x.dma with checkQ := as } })) ∧
    (x.dma.unacked ≠ 0 → x.dma.checkDead = false → x.hasRoom 4 → Completes (.checkerAckTimeout h) s (fun m => s.sys.Inside m h ∧
      x.Reported (m.half h) 4 (mkErr x 4 0 0x16 4) ∧ (m.half h).dma = { x.dma with checkDead := true, checkQ := [] } ∧ (m.half h).obj = x.obj)))
  ∧ (∀ (s : State) (h : HalfId) (a va ctx part : Nat) (w : Bool), let x := s.sys.half h
    x.hasRoom 4 →
    (∀ c, let k := s.sys.chan h c
      k.st ≠ 0 → k.ends = none → Tab.look x.dma.chans c = some k → Settles (.checkerViolationReport h (some c) a va ctx part w) s (fun m => s.sys.Quiet m ∧
        m.chan h c = { k with ends := some (0x21, 0x0C, k.done, va) } ∧ (∀ n, n ≠ c → m.chan h n = s.sys.chan h n) ∧
        x.Reported (m.half h) 4 (mkErr x 4 (c / 8) 0x14 3 (if w then 2 else 1) a (some k.part) c) ∧
        m.blk.lossQ = s.sys.blk.lossQ ++ [{
          ctx := k.ctx, cause := 1, master := 2 ^ 15 + k.part % 64 * 512 + c, access := if w then 2 else 1, addr := a, half := h, ref := some (k.q, k.slot) }])) ∧
    Settles (.checkerViolationReport h none a va ctx part w) s (fun m => s.sys.Quiet m ∧ (m.half h).dma = x.dma ∧
      x.Reported (m.half h) 4 (mkErr x 4 0 0x14 3 (if w then 2 else 1) a (some part)) ∧
      m.blk.lossQ = s.sys.blk.lossQ ++ [{ ctx := ctx, cause := 1, master := 2 ^ 15 + part % 64 * 512, access := if w then 2 else 1, addr := a, half := h }]))
  ∧ (∀ (s : State) (h : HalfId) (i : Nat), Completes (.tapInstruction h i) s (fun m => s.sys.Still m ∧ (∀ g, m.half g = s.sys.half g) ∧
      m.blk.out = .tap h i (i < 4 || i = 4 && 1 ≤ (s.sys.half h).sec.debugLevel || i = 5 && 2 ≤ (s.sys.half h).sec.debugLevel ||
        3 ≤ (s.sys.half h).sec.debugLevel) :: s.sys.blk.out))

/-- Page faults (R168 to R171, R176, R178): a waiting fault is asked for while an index is free; a response retries the walk or ends the packet, as do the
time limit and the allocator's answer; PRI Enable ends the failure state.
It rests on the model's choices of log entry 63. -/
def Obligations.PageFaultsAreServed : Prop :=
  (∀ (s : State) (port vf : Nat), let fn := (s.sys.half (HalfId.ofPort port)).fn (port % 2) vf
    (∀ h c t f, let k := s.sys.chan h c
      s.sys.blk.portReady port vf → 0 < fn.priAlloc → (∀ g, ∀ r ∈ (s.sys.half g).xlt.pri, ¬ (r.port = port ∧ r.vf = vf)) →
      s.sys.blk.priWaiting h port vf = [(c, t)] → s.sys.blk.priWaiting h.other port vf = [] → k.fault = some f →
      Completes (.pageRequestIssue port vf) s (fun m => s.sys.Still m ∧ m.chan h c = { k with fault := some { f with prg := some 0 } } ∧
        (m.half h).xlt.pri = (s.sys.half h).xlt.pri ++ [{ port := port, vf := vf, prg := 0, chan := c, va := f.va }] ∧
        m.blk.out = .pageRequest port vf 0 k.ctx (f.va / 4096 * 4096) f.write :: s.sys.blk.out)) ∧
    (s.sys.blk.portReady port vf = false ∨ min 256 fn.priAlloc ≤ s.sys.blk.priOut port vf → Completes (.pageRequestIssue port vf) s (fun m => m = s.sys)))
  ∧ (∀ (s : State) (port vf prg : Nat) (code : PrgCode), let g := HalfId.ofPort port
    s.sys.blk.priFind port vf prg = none → Settles (.prgResponse port vf prg code) s (fun m => s.sys.Inside m g ∧
      (m.half g).regFld 0x0100138 31 0 = ((s.sys.half g).regFld 0x0100138 31 0 + 1) % 2 ^ 32 ∧ (m.half g).xlt = (s.sys.half g).xlt ∧
      (m.half g).dma = (s.sys.half g).dma ∧ ∀ r, r ≠ 0x0100138 → (m.half g).reg r = (s.sys.half g).reg r))
  ∧ (∀ (s : State) (port vf prg c : Nat) (h : HalfId) (r : PriReq) (f : ChanFault), let x := s.sys.half h
    let k := s.sys.chan h c
    s.sys.blk.priFind port vf prg = some (h, r) → r.retired = false → r.chan = c → k.fault = some f → Tab.look x.dma.chans c = some k →
    (Settles (.prgResponse port vf prg .success) s (fun m => s.sys.Still m ∧ (m.half h).xlt.pri = x.xlt.pri.erase r ∧
      (m.chan h c).st = 5 ∧ Tab.look (m.chan h c).retries (f.va / 4096) = some (Tab.dflt k.retries (f.va / 4096) 0 + 1) ∧
      (m.chan h c).disp = k.disp ∧ m.blk.out = s.sys.blk.out ∧ ∀ n, n ≠ c → m.chan h n = s.sys.chan h n)) ∧
    (s.sys.RunsPlain h c → k.reads = [] → Settles (.prgResponse port vf prg .invalid) s (fun m => s.sys.Quiet m ∧
      s.sys.ChanEnds m h c (if k.done = 0 then 0x20 else 0x01) (f.opnd * 64 + 1) k.done f.va ∧
      (m.half h).regFld 0x0100128 63 32 = (x.regFld 0x0100128 63 32 + 1) % 2 ^ 32)) ∧
    (s.sys.RunsPlain h c → k.reads = [] → s.sys.blk.priChans h port vf = [c] → s.sys.blk.priChans h.other port vf = [] →
      Settles (.prgResponse port vf prg .failure) s (fun m => s.sys.Quiet m ∧
        s.sys.ChanEnds m h c (if k.done = 0 then 0x20 else 0x01) (f.opnd * 64 + 2) k.done f.va ∧
        (m.half (HalfId.ofPort port)).xlt.priFailed.contains (port % 2 * 64 + vf))))
  ∧ (∀ (s : State) (h : HalfId) (c : Nat) (f : ChanFault), let x := s.sys.half h
    let k := s.sys.chan h c
    k.fault = some f → k.st = 4 → Tab.look x.dma.chans c = some k →
    (f.heap = false → s.sys.RunsPlain h c → k.reads = [] → Settles (.priTimeout h c) s (fun m => s.sys.Quiet m ∧
      s.sys.ChanEnds m h c (if k.done = 0 then 0x20 else 0x01) (f.opnd * 64 + 3) k.done f.va ∧ ∀ r ∈ (m.half h).xlt.pri, r.chan = c → r.retired)) ∧
    (f.heap → let live := x.obj.mems.any (fun o => o.kind == .alloc && o.ctx == k.ctx && o.owned && decide (o.va ≤ f.va) && decide (f.va < o.va + o.span))
      (live → Settles (.allocatorFaultAnswer h c) s (fun m => s.sys.Still m ∧ (m.chan h c).st = 5 ∧ (m.chan h c).disp = k.disp ∧
        Tab.look (m.chan h c).retries (f.va / 4096) = some (Tab.dflt k.retries (f.va / 4096) 0 + 1) ∧ m.blk.out = s.sys.blk.out)) ∧
      (live = false → s.sys.RunsPlain h c → k.reads = [] → Settles (.allocatorFaultAnswer h c) s (fun m => s.sys.Quiet m ∧
        s.sys.ChanEnds m h c (if k.done = 0 then 0x20 else 0x01) (f.opnd * 64 + 5) k.done f.va))))
  ∧ (∀ (s : State) (port vf : Nat), let h := HalfId.ofPort port
    Completes (.priEnableChange port vf) s (fun m => s.sys.Still m ∧ (m.half h).fn (port % 2) vf = { (s.sys.half h).fn (port % 2) vf with pri := true } ∧
      (port % 2 * 64 + vf) ∉ (m.half h).xlt.priFailed ∧ ∀ g, (m.half g).dma = (s.sys.half g).dma ∧ (m.half g).obj = (s.sys.half g).obj ∧
        ∀ r, r ∈ (m.half g).xlt.pri ↔ r ∈ (s.sys.half g).xlt.pri ∧ ¬ (r.port = port ∧ r.vf = vf ∧ r.retired)))

/-- Withdrawals (R181, R182, R186, R188, R189): a recalled holder acknowledges and is translated again; a complete invalidation ends its packet; the registers
withdraw a range; an ATS invalidation discards what the host gave. -/
def Obligations.WithdrawalsAct : Prop :=
  (∀ (s : State) (h : HalfId) (n : Nat) (d : Holder), let x := s.sys.half h
    x.xlt.holders = [(n, d)] → d.st = 2 → x.inUse d = false → (∀ j ∈ x.xlt.invs, j.foreign = false) →
    (∀ t, x.tlbHit d.span.ctx d.span.va d.write = some t → Settles (.holderRecallAck h n) s (fun m => s.sys.Inside m h ∧
      m.half h = { x with xlt := { x.xlt with holders := [(n, { d with span := t, st := 1, ats := [], atsOut := none })] } })) ∧
    (x.tlbHit d.span.ctx d.span.va d.write = none → Settles (.holderRecallAck h n) s (fun m => s.sys.Inside m h ∧ m.half h = { x with xlt := { x.xlt with
      holders := [(n, { d with span := { ctx := d.span.ctx, va := d.span.va, pages := 0 }, st := 0, stale := false, ats := [], atsOut := none })]
      queue := x.xlt.queue ++ [{
        ctx := d.span.ctx, va := d.span.va, write := d.write, cls := 1, part := ((x.ctx? d.span.ctx).map (·.part)).getD 0, who := .holder n }] } })))
  ∧ (∀ (s : State) (h : HalfId) (j : InvJob), let x := s.sys.half h
    x.xlt.invs = [j] → x.invReady j → x.tdm.st ≠ .paired →
    (∀ ref, j.what = .packet ref → (s.sys.blk.getQ ref.q).st ≠ .absent → Settles (.invalidationComplete h) s (fun m => s.sys.Still m ∧
      (m.half h).xlt.invs = [] ∧ (∃ r ∈ (m.blk.getQ ref.q).replies, r.ref = ref ∧ r.status = (if j.fenced.isSome then 0x32 else 0) ∧
        r.detail = j.fenced.getD 0) ∧ ∀ e ∈ (m.blk.getQ ref.q).inflight, e.ref.slot ≠ ref.slot)) ∧
    (j.what = .register → Settles (.invalidationComplete h) s (fun m => s.sys.Inside m h ∧ (m.half h).xlt = { x.xlt with invs := [] } ∧
      (m.half h).regFld 0x0100118 0 0 = 0 ∧ (m.half h).regFld 0x0100118 1 1 = 1 ∧
      (∀ p, j.fenced = some p → (m.half h).regFld 0x0100118 2 2 = 1 ∧ (m.half h).regFld 0x0100118 23 16 = p % 2 ^ 8) ∧
      ∀ r, r ≠ 0x0100118 → (m.half h).reg r = x.reg r)))
  ∧ (∀ (s : State) (via : Via) (h : HalfId), let x := s.sys.half h
    let base := x.regFld 0x0100100 56 12 * 4096
    let pages := x.regFld 0x0100108 35 0
    let ctx := x.regFld 0x0100110 19 0
    let lo := if pages = 0 then 0 else base
    let hi := if pages = 0 then vaTop else base + pages * 4096
    s.sys.Admits via h 0x0100118 →
    (x.regFld 0x0100118 0 0 = 1 → Settles (.registerInvalidate via h) s (fun m => m = s.sys)) ∧
    (x.regFld 0x0100118 0 0 = 0 → pages ≠ 0 → vaTop < base + pages * 4096 → Settles (.registerInvalidate via h) s (fun m => s.sys.Inside m h ∧
      (m.half h).regFld 0x0100118 3 3 = 1 ∧ (m.half h).xlt = x.xlt ∧ ∀ r, r ≠ 0x0100118 → (m.half h).reg r = x.reg r)) ∧
    (x.regFld 0x0100118 0 0 = 0 → x.regFld 0x0100110 32 32 = 0 → ctx = 0 ∨ x.ctx? ctx = none → Settles (.registerInvalidate via h) s (fun m =>
      s.sys.Inside m h ∧ (m.half h).regFld 0x0100118 3 3 = 1 ∧ (m.half h).xlt = x.xlt ∧ ∀ r, r ≠ 0x0100118 → (m.half h).reg r = x.reg r)) ∧
    (∀ c, x.regFld 0x0100118 0 0 = 0 → pages = 0 ∨ base + pages * 4096 ≤ vaTop → x.regFld 0x0100110 32 32 = 0 → ctx ≠ 0 → x.ctx? ctx = some c →
      c.st ≠ .destroyed → s.sys.WithdrawsAlone h ctx lo hi → Settles (.registerInvalidate via h) s (fun m => s.sys.Quiet m ∧
        x.Forgot (m.half h) ctx lo hi ∧ (m.half h).xlt.invs = [] ∧ (m.half h).regFld 0x0100118 0 0 = 0 ∧ (m.half h).regFld 0x0100118 1 1 = 1 ∧
        (m.half h).obj = x.obj ∧ ∀ r, r ≠ 0x0100118 → r ≠ 0x0580020 → (m.half h).reg r = x.reg r)) ∧
    (x.regFld 0x0100118 0 0 = 0 → pages = 0 ∨ base + pages * 4096 ≤ vaTop → x.regFld 0x0100110 32 32 = 1 → x.tdm.st ≠ .paired → x.xlt.holders = [] →
      x.xlt.invs = [] → x.chipsMeet ctx true lo hi = [] → Settles (.registerInvalidate via h) s (fun m => s.sys.Quiet m ∧
        (∀ p ∈ (m.half h).xlt.iotlb, p ∈ x.xlt.iotlb ∧ ¬ (p.va < hi ∧ lo < p.va + p.bytes)) ∧ (m.half h).xlt.invs = [] ∧
        (m.half h).regFld 0x0100118 0 0 = 0 ∧ (m.half h).regFld 0x0100118 1 1 = 1)))
  ∧ (∀ (s : State) (port tag a pages n : Nat) (pasid : Option Nat) (whole : Bool) (d : Holder), let h := HalfId.ofPort port
    let x := s.sys.half h
    let hit : Prop := d.st = 1 ∧ d.span.target = 1 ∧ (pasid = none ∨ whole ∨ pasid = some d.span.ctx) ∧
      d.span.frame < a / 4096 * 4096 + pages * 4096 ∧ a / 4096 * 4096 < d.span.frame + d.span.bytes
    x.tdm.st ≠ .paired → x.xlt.invs = [] → x.xlt.holders = [(n, d)] → d.st ≠ 2 → x.inUse d = false →
    Settles (.atsInvalidateRequest port tag pasid a pages whole) s (fun m => s.sys.Quiet m ∧ m.blk.out = .invalidateDone port tag :: s.sys.blk.out ∧
      (m.half h).regFld 0x0100140 31 0 = (x.regFld 0x0100140 31 0 + 1) % 2 ^ 32 ∧ (m.half h).xlt.iotlb = x.xlt.iotlb ∧
      (hit → (m.half h).xlt.holders = [(n, { d with ats := [], atsOut := none })]) ∧ (¬ hit → (m.half h).xlt.holders = x.xlt.holders) ∧
      (m.half h).xlt.invs = [] ∧ ∀ r, r ≠ 0x0100140 → (m.half h).reg r = x.reg r))

/-- The Ware board (R278 to R287): a lookup hits a line or starts a fill; a fill's data reaches the channel and is installed; the scrubber frees dead lines;
a prefetcher asks for its next line while it lies within DEPTH, and ends. -/
def Obligations.WareBoardActs : Prop :=
  (∀ (s : State) (h : HalfId) (c ctx part a n : Nat) (k : Chan), let x := s.sys.half h
    let line := a / 256 * 256
    Tab.look x.dma.chans c = some k →
    (∀ v, k.fabBytes (a, n) = some v → Settles (.wareLookup h c ctx part a n) s (fun m => m = s.sys)) ∧
    (∀ l, k.fabBytes (a, n) = none → x.lineAt ctx line = some l → Settles (.wareLookup h c ctx part a n) s (fun m => s.sys.Inside m h ∧
      m.chan h c = { k with fabBuf := k.fabBuf ++ [(a, (l.data.drop (a - line)).take n, false)] } ∧
      (m.half h).ware.lines = (if l.prefetched then x.ware.lines.erase l ++ [{ l with prefetched := false }] else l :: x.ware.lines.erase l) ∧
      (m.half h).regFld 0x0580010 47 0 = (x.regFld 0x0580010 47 0 + 1) % 2 ^ 48 ∧ ∀ r, r ≠ 0x0580010 → (m.half h).reg r = x.reg r)) ∧
    (k.fabBytes (a, n) = none → x.lineAt ctx line = none → (∀ f ∈ x.ware.fills, f.ctx ≠ ctx) → s.sys.CanAsk h (fabDst a) → fabDst line = fabDst a →
      let inst := x.wareOn && bitAt (x.reg 0x0580000).toNat 1
      let f : WFill := {
        addr := if inst then line else a, len := if inst then 256 else n, ctx := ctx, gen := (x.gens ctx).1, stable := false, install := inst, chans := [c] }
      Settles (.wareLookup h c ctx part a n) s (fun m => s.sys.Quiet m ∧ (m.half h).ware = { x.ware with fills := x.ware.fills ++ [f] } ∧
        (m.half h).dma = x.dma ∧ s.sys.Asks m h { op := 0x10, addr := f.addr, len := f.len, ctx := ctx, part := part, dst := fabDst a, what := .fill } ∧
        (x.wareOn → (m.half h).regFld 0x0580018 47 0 = (x.regFld 0x0580018 47 0 + 1) % 2 ^ 48) ∧ ∀ r, r ≠ 0x0580018 → (m.half h).reg r = x.reg r)))
  ∧ (∀ (s : State) (h : HalfId) (tag c : Nat) (bs : List Byte) (poison : Bool) (r : FabReq) (f : WFill) (k : Chan), let x := s.sys.half h
    Tab.look x.fab.reqs tag = some r → r.what = .fill → x.fab.instant = [] → x.ware.fills = [f] → f.ctx = r.ctx → f.addr = r.addr → f.len = r.len →
    f.prefetch = none → f.chans = [c] → Tab.look x.dma.chans c = some k → Settles (.wareFillReturn h tag bs poison) s (fun m => s.sys.Quiet m ∧
      (m.half h).ware.fills = [] ∧ Tab.look (m.half h).fab.reqs tag = none ∧ m.chan h c = { k with fabBuf := k.fabBuf ++ [(f.addr, bs, poison)] } ∧
      (poison ∨ f.install = false ∨ x.wareOn = false → (m.half h).ware.lines = x.ware.lines) ∧
      (poison = false → f.install → x.wareOn → (m.half h).ware.lines.head? =
        some { addr := f.addr, ctx := f.ctx, gen := f.gen, stable := f.stable, prefetched := false, data := bs } ∧
        ∀ l ∈ (m.half h).ware.lines.tail, l ∈ x.ware.lines ∧ ¬ (l.addr = f.addr ∧ l.ctx = f.ctx)) ∧ (m.half h).regs = x.regs))
  ∧ (∀ (s : State) (h : HalfId), let x := s.sys.half h
    Completes (.wareScrub h) s (fun m => s.sys.Inside m h ∧ m.half h = { x with ware := { x.ware with
      lines := if x.wareOn then x.ware.lines.filter (fun l => l.gen == (if l.stable then (x.gens l.ctx).2 else (x.gens l.ctx).1)) else [], adv := [] } }) ∧
    Completes (.wareDisable h) s (fun m => s.sys.Inside m h ∧ (m.half h).ware = { x.ware with lines := [], adv := [] } ∧
      (m.half h).regFld 0x0580000 0 0 = 0 ∧ (m.half h).regFld 0x0580000 63 1 = x.regFld 0x0580000 63 1 ∧
      ∀ r, r ≠ 0x0580000 → (m.half h).reg r = x.reg r))
  ∧ (∀ (s : State) (h : HalfId) (p : Nat) (e : Prefetch), let x := s.sys.half h
    Tab.look x.ware.pf p = some e →
    (e.hi ≤ e.next ∨ e.read + e.depth ≤ e.next → Settles (.prefetchFill h p) s (fun m => m = s.sys)) ∧
    (∀ t, e.next < e.hi → e.next < e.read + e.depth → x.tlbHit e.ctx e.next false = some t → let a := t.phys e.next
      let line := a / 256 * 256
      let n := min (line + 256 - a) (e.hi - e.next)
      (t.target ≠ 2 → Settles (.prefetchFill h p) s (fun m => s.sys.Inside m h ∧ Tab.look (m.half h).ware.pf p = none ∧
        (∀ k, k ≠ p → Tab.look (m.half h).ware.pf k = Tab.look x.ware.pf k) ∧
        (m.half h).regFld 0x0580028 31 0 = (x.regFld 0x0580028 31 0 + 1) % 2 ^ 32 ∧ (m.half h).ware.fills = x.ware.fills)) ∧
      (t.target = 2 → x.wareOn → x.lineAt e.ctx line = none → x.ware.fills = [] → s.sys.CanAsk h (fabDst line) → Settles (.prefetchFill h p) s (fun m =>
        s.sys.Still m ∧ Tab.look (m.half h).ware.pf p = some { e with next := e.next + n } ∧
        (m.half h).ware.fills = [{
          addr := line, len := 256, ctx := e.ctx, gen := if e.stable then (x.gens e.ctx).2 else (x.gens e.ctx).1, stable := e.stable, prefetch := some p,
          install := true }] ∧
        s.sys.Asks m h { op := 0x10, addr := line, len := 256, ctx := e.ctx, part := e.part, dst := fabDst line, what := .fill })) ∧
      (t.target = 2 → x.wareOn = false ∨ (x.lineAt e.ctx line).isSome → Settles (.prefetchFill h p) s (fun m => s.sys.Inside m h ∧
        Tab.look (m.half h).ware.pf p = some { e with next := e.next + n } ∧ (m.half h).ware.fills = x.ware.fills ∧ (m.half h).regs = x.regs))) ∧
    Completes (.prefetchIdleEnd h p) s (fun m => s.sys.Inside m h ∧ Tab.look (m.half h).ware.pf p = none ∧
      (∀ k, k ≠ p → Tab.look (m.half h).ware.pf k = Tab.look x.ware.pf k) ∧ (m.half h).regs = x.regs ∧ (m.half h).ware.lines = x.ware.lines))

/-- Host links (R34, R210 to R213, R364, R381, R382): a link that goes down or is hot reset contains its port, stops its queues and resets its functions; REARM ends
the containment; the block asks for low-power states and accounts for them.
It rests on the model's choices of log entries 83, 85, 102. -/
def Obligations.HostLinksAct : Prop :=
  (∀ (s : State) (pp : Nat) (a : Bool), let h := HalfId.ofPort pp
    let k := s.sys.blk.hport pp
    Completes (.hlUp pp) s (fun m => s.sys.Inside m h ∧ m.half h = (s.sys.half h).updPort (pp % 2) (fun _ =>
      { k with up := true, retrain := false, lpState := 0, lpReq := none, lpSince := s.sys.clk.now h })) ∧
    Completes (.hlRetrain pp a) s (fun m => s.sys.Inside m h ∧ m.half h = (s.sys.half h).updPort (pp % 2) (fun _ => { k with retrain := a })))
  ∧ (∀ (s : State) (pp : Nat), let h := HalfId.ofPort pp
    let x := s.sys.half h
    let k := s.sys.blk.hport pp
    let lost := s.sys.blk.markedCtxs pp
    x.boot.inReset = false → k.contained = false → (∀ g, (s.sys.half g).dma.chans = []) → x.coh.txns = [] → x.coh.hrd = [] → x.obj.windows = [] →
    x.hasRoom (pp % 2) →
    let entered (up retrain : Bool) (bit : Nat) (m : Mach) : Prop := s.sys.Quiet m ∧
      m.blk.hport pp = { k with up := up, retrain := retrain, contained := true, lostCtx := min 65535 lost.length, lpReq := none,
                                dropped := (x.msgs.filter (fun e => e.1 / 2 ^ 17 == pp % 2)).length } ∧
      (m.half h).regFld (containOff (pp % 2)) bit bit = 1 ∧ (∀ e ∈ (m.half h).msgs, e.1 / 2 ^ 17 ≠ pp % 2) ∧
      x.Reported (m.half h) (pp % 2) (mkErr x (pp % 2) 0 0x44 3 11 0 none (pp % 2)) ∧
      (s.sys.blk.primaryPort pp = false → (m.half h).fn (pp % 2) 0 = {}) ∧
      (s.sys.blk.primaryPort pp → (m.half h).fn (pp % 2) 0 = { vfEnable := false } ∧ ∀ v, 0 < v → v < 64 → (m.half h).fn (pp % 2) v = {} ∧ v ∈ m.blk.flrQ)
    (lost = [] → let stops (m : Mach) : Prop := ∀ q, let r := s.sys.blk.getQ q
        m.blk.getQ q = if r.st = .running ∧ s.sys.blk.ringPort q = pp then { r with st := .stopped, stopCause := 4, fetching := none } else r
      Settles (.hlDown pp) s (fun m => entered false false 1 m ∧ stops m) ∧
      Settles (.hlHotReset pp) s (fun m => entered k.up k.retrain 2 m ∧ stops m)) ∧
    (∀ id c, lost = [id] → x.ctx? id = some c → c.st = .created ∨ c.st = .active → s.sys.blk.ctxQueues h id = [] → x.obj.streams = [] → x.obj.mems = [] →
      s.sys.WithdrawsAlone h id 0 vaTop → (s.sys.half h.other).xlt.holders = [] → x.regFld 0x0900400 7 0 = 0 →
      Settles (.hlDown pp) s (fun m => entered false false 1 m ∧ x.Forgot (m.half h) id 0 vaTop ∧
        ∃ e, (m.half h).ctx? id = some e ∧ e.st = .faulted ∧ e.lossCause = 3)))
  ∧ (∀ (s : State) (via : Via) (pp : Nat) (d : Bool), let h := HalfId.ofPort pp
    let x := s.sys.half h
    let k := s.sys.blk.hport pp
    s.sys.Admits via h (containOff (pp % 2)) →
    (k.contained = false ∨ k.up = false ∨ (x.fn (pp % 2) 0).bme = false → Settles (.containRearm via pp d) s (fun m => m = s.sys)) ∧
    (k.contained → k.up → (x.fn (pp % 2) 0).bme → (∀ q, s.sys.blk.ringPort q = pp → (s.sys.blk.getQ q).st = .absent) →
      Settles (.containRearm via pp d) s (fun m => s.sys.Inside m h ∧ m.half h = x.updPort (pp % 2) (fun _ => { k with contained := false }))) ∧
    (k.contained → k.up → (x.fn (pp % 2) 0).bme → Settles (.containRearm via pp true) s (fun m => m.clk = s.sys.clk ∧
      (m.blk.hport pp).contained = false ∧ m.mem.dev = s.sys.mem.dev ∧
      ∀ q, s.sys.blk.ringPort q = pp → (s.sys.blk.getQ q).st ≠ .absent → ∀ r ∈ (m.blk.getQ q).replies, r.waitAck.isSome)))
  ∧ (∀ (s : State) (pp st : Nat), let h := HalfId.ofPort pp
    let x := s.sys.half h
    let k := s.sys.blk.hport pp
    let us := (s.sys.clk.now h - k.lpSince) / 1000
    let off := 0x0600098 + 8 * (pp % 2)
    Completes (.hlLpStateChange pp st) s (fun m => s.sys.Inside m h ∧ m.blk.hport pp = { k with
        lpState := st % 4, lpSince := s.sys.clk.now h, lpReq := if k.lpReq = some (st % 4) then none else k.lpReq } ∧
      (k.lpState = 2 → (m.half h).regFld off 63 32 = min (2 ^ 32 - 1) (x.regFld off 63 32 + us) ∧ (m.half h).regFld off 31 0 = x.regFld off 31 0) ∧
      (k.lpState = 1 → (m.half h).regFld off 31 0 = min (2 ^ 32 - 1) (x.regFld off 31 0 + us) ∧ (m.half h).regFld off 63 32 = x.regFld off 63 32) ∧
      (k.lpState = 0 → (m.half h).regs = x.regs) ∧ ∀ r, r ≠ off → (m.half h).reg r = x.reg r))
  ∧ (∀ (s : State) (pp : Nat), let h := HalfId.ofPort pp
    let x := s.sys.half h
    let k := s.sys.blk.hport pp
    let may (en : Nat) : Prop := x.boot.inReset = false ∧ bitAt (x.regFld 0x0600090 1 0) en ∧ x.anyStrict = false ∧ k.up ∧ k.contained = false ∧ k.lpReq = none
    let asks (st : Nat) (m : Mach) : Prop := s.sys.Still m ∧ m.half h = x.updPort (pp % 2) (fun _ => { k with lpReq := some st }) ∧
      m.half h.other = s.sys.half h.other ∧ m.blk.out = .linkReq pp st :: s.sys.blk.out
    (may 0 → k.lpState = 0 → Completes (.linkL0pRequest pp) s (asks 1)) ∧
    (¬ may 0 ∨ k.lpState ≠ 0 → Completes (.linkL0pRequest pp) s (fun m => m = s.sys)) ∧
    (may 1 → k.lpState ≠ 2 → (x.fn (pp % 2) 0).aspmL1 → s.sys.blk.portIdle pp → Completes (.linkL1Request pp) s (asks 2)) ∧
    (¬ may 1 ∨ k.lpState = 2 ∨ (x.fn (pp % 2) 0).aspmL1 = false ∨ s.sys.blk.portIdle pp = false → Completes (.linkL1Request pp) s (fun m => m = s.sys)) ∧
    (k.lpReq.isSome → x.hasRoom (pp % 2) → Completes (.linkPowerRequestTimeout pp) s (fun m => s.sys.Inside m h ∧ (m.half h).regs = x.regs ∧
      m.blk.hport pp = { k with lpReq := none } ∧ x.Reported (m.half h) (pp % 2) (mkErr x (pp % 2) 0 0x43 0 11 0 none (pp % 2)))) ∧
    (k.lpReq = none → Completes (.linkPowerRequestTimeout pp) s (fun m => m = s.sys)))

/-- Functions and time (R363, R379, R380, R455, R504): Bus Master Enable and D3hot gate a function; companion bits are written by the primary and kept while
a queue needs them; PTM steps or slews block time and is lost after three missed answers.
It rests on the model's choices of log entries 29, 94. -/
def Obligations.FunctionsAndTimeAct : Prop :=
  (∀ (s : State) (pp vf : Nat), let h := HalfId.ofPort pp
    let x := s.sys.half h
    let f := x.fn (pp % 2) vf
    let only (g : Fn) (m : Mach) : Prop := m.half h = x.updFn (pp % 2) vf (fun _ => g) ∧ m.half h.other = s.sys.half h.other ∧ s.sys.Quiet m
    let idle : Prop := (∀ q, s.sys.blk.ringPort q = pp → (s.sys.blk.getQ q).part = vf → (s.sys.blk.getQ q).replies = [] ∧ (s.sys.blk.getQ q).idxDirty = false) ∧
      ∀ e ∈ x.msgs, e.1 / 2 ^ 11 ≠ pp % 2 * 64 + vf
    Completes (.busMasterEnableClear pp vf) s (fun m => only { f with bme := false } m ∧ m.blk.out = s.sys.blk.out) ∧
    (idle → Settles (.busMasterEnableSet pp vf) s (fun m => only { f with bme := true } m ∧ m.blk.out = s.sys.blk.out)) ∧
    (idle → Settles (.d0Return pp vf) s (fun m => only { f with d3hot := false } m ∧ m.blk.out = s.sys.blk.out)) ∧
    Completes (.d3hotEntry pp vf) s (fun m => only { f with d3hot := true } m ∧
      m.blk.out = if f.pmeEn ∧ ∃ e ∈ x.msgs, e.1 / 2 ^ 11 = pp % 2 * 64 + vf then .pme pp vf :: s.sys.blk.out else s.sys.blk.out))
  ∧ (∀ (s : State) (h : HalfId) (port rid v : Nat), let x := s.sys.half h
    let old := x.regFld 0x0600010 3 1
    let needed (i : Nat) : Prop := ∃ e ∈ x.obj.queues, e.2.st ≠ .absent ∧ e.2.ringPort = i + 1
    let keeps (i : Nat) : Prop := bitAt old i ∧ bitAt v (i + 1) = false ∧ needed i
    s.sys.Admits (.fn port 0 rid) h 0x0600010 → s.sys.blk.primaryPort port → s.sys.blk.linked = false →
    Completes (.bondWrite (.fn port 0 rid) h v) s (fun m => s.sys.Inside m h ∧ (m.half h).obj = x.obj ∧
      (∀ i, i < 3 → (bitAt ((m.half h).regFld 0x0600010 3 1) i ↔ bitAt v (i + 1) ∨ keeps i)) ∧
      ((∃ i, i < 3 ∧ keeps i) → (m.half h).regFld 0x0600010 8 8 = 1) ∧
      ((∀ i, i < 3 → ¬ keeps i) → (m.half h).regFld 0x0600010 8 8 = if bitAt v 8 then 0 else x.regFld 0x0600010 8 8) ∧
      ∀ r, r ≠ 0x0600010 → (m.half h).reg r = x.reg r))
  ∧ (∀ (s : State) (h : HalfId), let x := s.sys.half h
    (s.sys.blk.runsPtm h → Completes (.ptmExchange h) s (fun m => s.sys.Still m ∧ m.blk.out = .ptmRequest (s.sys.blk.ptmPort h) :: s.sys.blk.out ∧
      m.half h = { x with ptm := { x.ptm with outstanding := true, missed := if x.ptm.outstanding then x.ptm.missed + 1 else x.ptm.missed } })) ∧
    (s.sys.blk.runsPtm h = false → Completes (.ptmExchange h) s (fun m => m = s.sys)) ∧
    (∀ t, s.sys.blk.runsPtm h → x.ptm.outstanding → let now := s.sys.clk.now h
      let lim := x.regFld 0x0600078 31 16 * 1000
      ∃ m, exec (.ptmResponse h t) s = .next { s with sys := m } ∧ m.mem = s.sys.mem ∧
        m.half h.other = s.sys.half h.other ∧ (m.half h).regs = x.regs ∧ (m.half h).ptm.outstanding = false ∧ (m.half h).ptm.missed = 0 ∧
        (m.half h).ptm.exchanges = (x.ptm.exchanges + 1) % 2 ^ 32 ∧ (m.half h).ptm.offset = (t : Int) - now ∧
        (now + lim < t → m.clk = s.sys.clk.stepTo h t ∧ (m.half h).tdm.slew = 0) ∧
        (t ≤ now + lim → m.clk = s.sys.clk ∧ (m.half h).tdm.slew = (t : Int) - now) ∧
        ((m.half h).ptm.backward ↔ t + lim < now) ∧ ((m.half h).ptm.synced ↔ now ≤ t + lim)) ∧
    (s.sys.blk.runsPtm h → 3 ≤ x.ptm.missed + b2n x.ptm.outstanding → x.hasRoom (s.sys.blk.ptmPort h % 2) → Completes (.ptmSyncLost h) s (fun m =>
      s.sys.Inside m h ∧ (m.half h).ptm = { x.ptm with synced := false, outstanding := false, missed := 0 } ∧ (m.half h).regs = x.regs ∧
      x.Reported (m.half h) (s.sys.blk.ptmPort h % 2) (mkErr x (s.sys.blk.ptmPort h % 2) 0 0x42 2 11 0 none (s.sys.blk.ptmPort h % 2)))) ∧
    (x.ptm.missed + b2n x.ptm.outstanding < 3 → Completes (.ptmSyncLost h) s (fun m => m = s.sys)))

/-- Memory Windows (R363, R367 to R375, R408, R419): the host reaches its partition's memory and a peer the regions registered for it; what neither may reach is
dropped or refused, counted and reported, and a checker denial loses the region's context.
It rests on the model's choices of log entries 55, 86. -/
def Obligations.MemoryWindowsAct : Prop :=
  (∀ (s : State) (pp part rid tag off n v : Nat) (pasid : Option Nat) (bs : List Byte), let h := HalfId.ofPort pp
    let x := s.sys.half h
    let via : Via := .fn pp part rid
    let open_ : Prop := x.boot.inReset = false ∧ (x.fn (pp % 2) part).d3hot = false ∧ s.sys.blk.unbonded pp part = false ∧ (x.part part).st ≠ .resetting ∧
      x.tdm.st ≠ .fenced
    let reach (a k ctx : Nat) (priv : Bool) : Prop := x.devOk a ∧ x.checkOk a ctx part priv ∧ x.checkOk (a + max k 1 - 1) ctx part priv ∧
      s.sys.blk.toHome h a k = false
    let host (k : Nat) : Prop := x.hostRid rid ∧ s.sys.blk.mwView pp part off (max k 1) = some v ∧ reach (viewLocal v) k 0 (part == 0) ∧
      x.sealedAt (viewLocal v) = false ∧ x.sealedAt (viewLocal v + max k 1 - 1) = false
    let peer (k : Nat) (w z : Bool) : Prop := x.hostRid rid = false ∧ s.sys.blk.mwView pp part off (max k 1) = some v ∧
      ∃ r, x.regionFor part rid v k pasid w z = some r ∧ r.sealed = false ∧ reach (viewLocal v) k r.ctx false
    open_ →
    (host bs.length ∨ peer bs.length true false → Settles (.memoryWindowWrite via pasid tag off bs false) s (fun m => m.clk = s.sys.clk ∧ m.blk = s.sys.blk ∧
      m.mem.host = s.sys.mem.host ∧ (∀ i, i < bs.length → memGet m.mem.dev (viewLocal v + i) = bs.getD i 0) ∧
      ∀ a, a < viewLocal v ∨ viewLocal v + bs.length ≤ a → memGet m.mem.dev a = memGet s.sys.mem.dev a)) ∧
    (host n ∨ peer n false false → Settles (.memoryWindowRead via pasid tag off n) s (fun m => s.sys.Still m ∧ m.blk = { s.sys.blk with
      out := .completion pp 0 (s.sys.mem.readDev (viewLocal v) n) (s.sys.mem.poisoned (viewLocal v) n) :: s.sys.blk.out })) ∧
    (host 0 ∨ peer 0 false true → Completes (.peerZeroLengthRead via pasid off) s (fun m => s.sys.Still m ∧ m.blk = { s.sys.blk with
      out := .completion pp 0 [] false :: s.sys.blk.out })))
  ∧ (∀ (b : Blk) (pp part off n v : Nat), b.mwView pp part off n = some v → let x := b.half (HalfId.ofPort pp)
    (part ≠ 0 → v = (x.part part).memBase + off ∧ off + n ≤ (x.part part).memSize) ∧
    (part = 0 → v < 2 ^ 41 ∧ v % 2 ^ 40 + n ≤ dieBytes ∧ off + n ≤ 2 ^ 41 ∧ off ≤ v))
  ∧ (∀ (s : State) (pp part rid tag off n : Nat) (pasid : Option Nat) (bs : List Byte), let h := HalfId.ofPort pp
    let x := s.sys.half h
    let via : Via := .fn pp part rid
    let peer := !x.hostRid rid
    let cnt : Nat := if peer then 0x0600068 else 0x0600060
    let who : Option Nat := if part = 0 then none else some part
    let kind : Nat := if peer then 0x41 else 0x40
    let counted (hi lo acc : Nat) (m : Mach) : Prop := s.sys.Quiet m ∧ (m.half h).regFld cnt hi lo = (x.regFld cnt hi lo + 1) % 2 ^ 32 ∧
      x.Reported (m.half h) (pp % 2) (mkErr x (pp % 2) 0 kind 0 acc off who (pp % 2)) ∧ (∀ r, r ≠ cnt → (m.half h).reg r = x.reg r) ∧
      (m.half h).obj = x.obj ∧ m.half h.other = s.sys.half h.other ∧ m.blk.lossQ = s.sys.blk.lossQ
    x.boot.inReset = false → (x.fn (pp % 2) part).d3hot = false → s.sys.blk.unbonded pp part = false → x.hasRoom (pp % 2) →
    (((x.part part).st = .resetting ∨ (x.tdm.st ≠ .fenced ∧ s.sys.blk.mwView pp part off (max bs.length 1) = none)) →
      Settles (.memoryWindowWrite via pasid tag off bs false) s (fun m => counted 31 0 2 m ∧ m.blk.out = s.sys.blk.out)) ∧
    (((x.part part).st = .resetting ∨ s.sys.blk.mwView pp part off (max n 1) = none) →
      Settles (.memoryWindowRead via pasid tag off n) s (fun m => counted 63 32 1 m ∧ m.blk.out = .completion pp 4 [] false :: s.sys.blk.out)) ∧
    (∀ v, (x.part part).st ≠ .resetting → peer → s.sys.blk.mwView pp part off (max n 1) = some v → x.devOk (viewLocal v) →
      x.sealedAt (viewLocal v) = false → x.sealedAt (viewLocal v + max n 1 - 1) = false → x.regionFor part rid v n pasid false false = none →
      Settles (.memoryWindowRead via pasid tag off n) s (fun m => counted 63 32 1 m ∧ m.blk.out = .completion pp 4 [] false :: s.sys.blk.out)) ∧
    (∀ v, (x.part part).st ≠ .resetting → peer → s.sys.blk.mwView pp part off 1 = some v → x.devOk (viewLocal v) →
      x.sealedAt (viewLocal v) = false → x.regionFor part rid v 0 pasid false true = none →
      Completes (.peerZeroLengthRead via pasid off) s (fun m => counted 63 32 1 m ∧ m.blk.out = .completion pp 4 [] false :: s.sys.blk.out)) ∧
    (∀ v r, (x.part part).st ≠ .resetting → x.tdm.st ≠ .fenced → peer → s.sys.blk.mwView pp part off (max bs.length 1) = some v → x.devOk (viewLocal v) →
      x.regionFor part rid v bs.length pasid true false = some r → r.sealed = false → x.checkOk (viewLocal v) r.ctx part false = false →
      Settles (.memoryWindowWrite via pasid tag off bs false) s (fun m => s.sys.Quiet m ∧ m.blk.out = s.sys.blk.out ∧
        (m.half h).regFld 0x0600068 31 0 = (x.regFld 0x0600068 31 0 + 1) % 2 ^ 32 ∧ m.blk.lossQ = s.sys.blk.lossQ ++ [{
          ctx := r.ctx, cause := 1, master := 2 ^ 15 + part % 64 * 512, access := 2, addr := viewLocal v, half := h }])))

/-- Identity and sessions (R403 to R406, R415): certificates, challenges and measurements are answered by their slot's key; sessions open, live and end, and
staged keys end with them. What the signatures hold is a free value of Config.
It rests on the model's choices of log entry 16. -/
def Obligations.IdentityIsAnswered : Prop :=
  ∀ (s : State) (h : HalfId) (via : Transport), let x := s.sys.half h
    let answers (code : Nat) (bs : List Byte) (m : Mach) : Prop := s.sys.Still m ∧ (∀ g, m.half g = s.sys.half g) ∧ m.blk.out = .spdm h via code bs :: s.sys.blk.out
    let has (slot : Nat) : Prop := slot = 0 ∧ x.fuse.identityValid ∨ slot = 1 ∧ x.sec.alias_
    x.boot.inReset = false → 1 ≤ x.boot.stage →
    (∀ slot, (has slot → Completes (.spdmGetCertificate h via slot) s
        (answers 1 (Config.certChain h.num slot (if slot = 1 then x.boot.measured else 0)))) ∧
      (¬ has slot → Completes (.spdmGetCertificate h via slot) s (answers 0xFF []))) ∧
    (∀ slot nonce, (has slot → Completes (.spdmChallenge h via slot nonce) s (answers 2 (Config.sign h.num slot nonce))) ∧
      (¬ has slot → Completes (.spdmChallenge h via slot nonce) s (answers 0xFF []))) ∧
    (∀ i nonce, (1 ≤ i → i ≤ 9 → Completes (.spdmMeasurements h via i false nonce) s (answers 3 (s.sys.blk.measureBlock h via i))) ∧
      (1 ≤ i → i ≤ 9 → x.sec.alias_ → Completes (.spdmMeasurements h via i true nonce) s (answers 3
        (s.sys.blk.measureBlock h via i ++ Config.sign h.num 1 (nonce ++ s.sys.blk.measureBlock h via i)))) ∧
      (x.sec.alias_ = false → Completes (.spdmMeasurements h via i true nonce) s (answers 0xFF []))) ∧
    s.sys.blk.measureBlock h via 7 = leBytes 48 x.fuse.build ∧
    (∀ pp vf, via = .doe pp vf → s.sys.blk.measureBlock h via 9 = leBytes 4 vf) ∧ (s.sys.blk.measureBlock h via 8).length = 64 * 16 ∧
    ((∀ e ∈ x.sec.sessions, e.2.via ≠ via) → x.fuse.identityValid → ∀ n, Tab.free x.sec.sessions 0 16 = some n →
      Completes (.spdmKeyExchange h via) s (fun m => s.sys.Still m ∧ m.half h = { x with sec := { x.sec with
          sessions := Tab.put x.sec.sessions n { via := via, beat := s.sys.clk.now h } } } ∧ m.half h.other = s.sys.half h.other ∧
        m.blk.out = .spdm h via 4 (leBytes 1 n) :: s.sys.blk.out)) ∧
    ((∃ e ∈ x.sec.sessions, e.2.via = via) ∨ x.fuse.identityValid = false ∨ Tab.free x.sec.sessions 0 16 = none →
      Completes (.spdmKeyExchange h via) s (answers 0xFF [])) ∧
    (∀ n u, Tab.look x.sec.sessions n = some u → u.via = via →
      Completes (.spdmKeyUpdate h n) s (fun m => s.sys.Still m ∧ m.half h = { x with sec := { x.sec with
          sessions := Tab.put x.sec.sessions n { u with updates := u.updates + 1, beat := s.sys.clk.now h } } } ∧
        m.blk.out = .spdm h via 5 [] :: s.sys.blk.out) ∧
      Completes (.spdmHeartbeat h n) s (fun m => s.sys.Still m ∧ m.half h = { x with sec := { x.sec with
          sessions := Tab.put x.sec.sessions n { u with beat := s.sys.clk.now h } } } ∧ m.blk.out = .spdm h via 6 [] :: s.sys.blk.out) ∧
      (let gone (m : Mach) : Prop := s.sys.Still m ∧ Tab.look (m.half h).sec.sessions n = none ∧
         (∀ k, k ≠ n → Tab.look (m.half h).sec.sessions k = Tab.look x.sec.sessions k) ∧
         (∀ e, e ∈ (m.half h).obj.staged ↔ e ∈ x.obj.staged ∧ ¬ (e.2.half = h ∧ e.2.session = n))
       Completes (.spdmEndSession h n) s (fun m => gone m ∧ m.blk.out = .spdm h via 7 [] :: s.sys.blk.out) ∧
       (x.hasRoom 12 → Completes (.spdmHeartbeatTimeout h n) s (fun m => gone m ∧ m.blk.out = s.sys.blk.out ∧
         x.Reported (m.half h) 12 (mkErr x 12 0 0x75 0)))) ∧
      (∀ pp vf c ctx epoch key k, via = .doe pp vf → vf ≠ 0 → x.ctx? ctx = some c → c.part = vf → c.st ≠ .destroyed → ctx < 2 ^ 20 → 1 ≤ epoch →
        epoch ≤ 0xFFFFFFFE → Tab.free x.obj.staged 0 256 = some k → Completes (.keyStage h n ctx epoch key) s (fun m => s.sys.Still m ∧
          (m.half h).obj = { x.obj with staged := Tab.put x.obj.staged k { ctx := ctx, epoch := epoch, key := key, half := h, session := n } } ∧
          m.blk.out = .spdm h via 8 (leBytes 1 k) :: s.sys.blk.out)) ∧
      (∀ ctx epoch key, x.mayStage u ctx = false ∨ epoch = 0 ∨ 0xFFFFFFFE < epoch ∨ Tab.free x.obj.staged 0 256 = none →
        Completes (.keyStage h n ctx epoch key) s (fun m => s.sys.Still m ∧ (m.half h).obj = x.obj ∧ m.blk.out = .spdm h via 0xFF [] :: s.sys.blk.out)))

/-- Debug (R405, R420, R421): a nonce serves one attempt by an MCTP session; an accepted token sets the level, which a lock, or RELOCK, takes back; leaving level
2 taints the half. Whether a signature is valid is a free value of Config.
It rests on the model's choices of log entries 16, 87. -/
def Obligations.DebugIsAuthenticated : Prop :=
  ∀ (s : State) (h : HalfId), let x := s.sys.half h
    let now := s.sys.clk.now h
    let level (n : Nat) (z : Half) : Prop := z.sec.debugLevel = n ∧ z.sec.tainted = (x.sec.tainted || (x.sec.debugLevel == 2 && n == 0)) ∧
      (n ≠ x.sec.debugLevel → z.sec.everUnlocked = (x.sec.everUnlocked || decide (n ≠ 0)) ∧ x.Reported z 12 (mkErr x 12 0 0x73 0)) ∧ z.regs = x.regs
    (∀ n u e, Tab.look x.sec.sessions n = some u → u.via = .mctp e →
      Completes (.debugNonce h n) s (fun m => s.sys.Still m ∧ ∃ bs, bs.length = 32 ∧ (m.half h).sec = { x.sec with nonce := some (leNat bs, now) } ∧
        m.blk.out = .spdm h (.mctp e) 9 bs :: s.sys.blk.out) ∧
      (∀ tok, x.fuse.debugFusedOff = false → x.tokenOk tok → s.sys.blk.a.confActive = false → s.sys.blk.b.confActive = false → x.hasRoom 12 →
        Completes (.debugUnlock h n tok) s (fun m => s.sys.Quiet m ∧ (m.half h).sec.nonce = none ∧ level (byteFld tok 44 44) (m.half h) ∧
          m.blk.out = .spdm h (.mctp e) 10 [] :: s.sys.blk.out)) ∧
      (∀ tok, x.fuse.debugFusedOff ∨ x.tokenOk tok = false ∨ s.sys.blk.a.confActive ∨ s.sys.blk.b.confActive → x.hasRoom 12 →
        Completes (.debugUnlock h n tok) s (fun m => s.sys.Still m ∧ (m.half h).sec = { x.sec with nonce := none } ∧
          x.Reported (m.half h) 12 (mkErr x 12 0 0x74 0) ∧ m.blk.out = .spdm h (.mctp e) 0xFF [] :: s.sys.blk.out)) ∧
      (x.hasRoom 12 → Completes (.debugLock h n) s (fun m => s.sys.Quiet m ∧ level 0 (m.half h) ∧ (m.half h).sec.nonce = x.sec.nonce ∧
        m.blk.out = .spdm h (.mctp e) 11 [] :: s.sys.blk.out))) ∧
    (∀ tok, x.tokenOk tok → tok.length = 144 ∧ byteFld tok 3 0 = 1 ∧ byteFld tok 11 4 = x.fuse.serial ∧ (∃ t, x.sec.nonce = some (byteFld tok 43 12, t)) ∧
      (byteFld tok 44 44 = 1 ∨ byteFld tok 44 44 = 2)) ∧
    Completes (.debugNonceLapse h) s (fun m => s.sys.Inside m h ∧ m.half h = { x with sec := { x.sec with nonce := none } }) ∧
    (∀ via, s.sys.Admits via h 0x0800008 → x.hasRoom 12 → Completes (.debugRelock via h) s (fun m => s.sys.Inside m h ∧ level 0 (m.half h)))

/-- Requests of other packages (R327, R332, R333, R335, R337 to R343, R358): one that a grant lets through is done on this package's memory and answered by the
route of its package; one that fails a check is answered NACK, counted and reported; one for another package passes on.
It rests on the model's choices of log entry 38. -/
def Obligations.FabricRequestsAreServed : Prop :=
  (∀ (s : State) (h : HalfId) (pkt p : FabPkt) (l part o : Nat) (c : Instr), let x := s.sys.half h
    let answers (r : FabRes) (m : Mach) : Prop := m.clk = s.sys.clk ∧ m.blk = { s.sys.blk with out := .fabric o (respPkt p r) :: s.sys.blk.out }
    let kept (n : Nat) (m : Mach) : Prop := m.mem.host = s.sys.mem.host ∧ ∀ a, a < p.addr ∨ p.addr + n ≤ a → memGet m.mem.dev a = memGet s.sys.mem.dev a
    x.obj.join.isSome → x.responsePort s.sys.blk p.src p.tag = some o →
    (c = .ping h pkt → p = { pkt with ty := 4 } → Settles c s (fun m => answers .pong m ∧ m.mem = s.sys.mem)) ∧
    (x.inboundCheck p = (0, l, part) → s.sys.blk.toHome (homeOf p.addr) p.addr (max p.len 8) = false →
      let old := s.sys.mem.word false p.addr
      let a := leNat (p.payload.take 8)
      let b := leNat ((p.payload.drop 8).take 8)
      (c = .rdReq h pkt → p = { pkt with ty := 1 } → Settles c s (fun m => m.mem = s.sys.mem ∧
        answers (.data (s.sys.mem.readDev p.addr p.len) (s.sys.mem.poisoned p.addr p.len)) m)) ∧
      (c = .wrReq h pkt → p = { pkt with ty := 2 } → p.payload.length = p.len → Settles c s (fun m => answers .ack m ∧ kept p.len m ∧
        ∀ i, i < p.len → memGet m.mem.dev (p.addr + i) = p.payload.getD i 0)) ∧
      (c = .atFetchAdd h pkt → p = { pkt with ty := 3, code := 1 } → s.sys.mem.poisoned p.addr 8 = false → Settles c s (fun m =>
        answers (.atomic old 0 false) m ∧ kept 8 m ∧ memRead m.mem.dev p.addr 8 = leBytes 8 ((old + a) % 2 ^ 64))) ∧
      (c = .atCompareSwap h pkt → p = { pkt with ty := 3, code := 2 } → s.sys.mem.poisoned p.addr 8 = false → Settles c s (fun m =>
        answers (.atomic old 0 false) m ∧ kept 8 m ∧ memRead m.mem.dev p.addr 8 = leBytes 8 (if old = a then b else old))) ∧
      (c = .atFenceSignal h pkt → p = { pkt with ty := 3, code := 3 } → let fh := s.sys.blk.fenceHome p.addr
        let ab := (((s.sys.half fh).obj.mems.find? (fun o => o.kind == .fenceArea && o.holds p.addr)).map (·.abandoned)).getD 0
        (s.sys.half fh).waiters = [] → bitAt old 63 = false ∨ ab = 0 → old % 2 ^ 63 ≤ a % 2 ^ 63 → a < 2 ^ 64 → Settles c s (fun m =>
          answers (.atomic a 0 false) m ∧ kept 8 m ∧ memRead m.mem.dev p.addr 8 = leBytes 8 a))) ∧
    (∀ k, k ≠ 0 → (x.inboundCheck p).1 = k → x.hasRoom 10 → (c = .rdReq h pkt ∧ p = { pkt with ty := 1 }) ∨ (c = .wrReq h pkt ∧ p = { pkt with ty := 2 }) ∨
        (c = .atFetchAdd h pkt ∧ p = { pkt with ty := 3, code := 1 }) ∨ (c = .atCompareSwap h pkt ∧ p = { pkt with ty := 3, code := 2 }) ∨
        (c = .atFenceSignal h pkt ∧ p = { pkt with ty := 3, code := 3 }) →
      Settles c s (fun m => s.sys.Quiet m ∧ m.blk.out = .fabric o (respPkt p (.nack k)) :: s.sys.blk.out ∧
        (k = 3 → (m.half h).regFld 0x0500048 63 32 = (x.regFld 0x0500048 63 32 + 1) % 2 ^ 32 ∧
          x.Reported (m.half h) 10 (mkErr x 10 0 0x36 0 10 p.addr)) ∧
        (k ≠ 3 → (m.half h).regFld 0x0500048 31 0 = (x.regFld 0x0500048 31 0 + 1) % 2 ^ 32 ∧
          x.Reported (m.half h) 10 (mkErr x 10 0 0x35 0 10 p.addr)) ∧ (∀ r, r ≠ 0x0500048 → (m.half h).reg r = x.reg r) ∧ (m.half h).obj = x.obj)))
  ∧ (∀ (x : Half) (p : FabPkt) (l part : Nat), x.inboundCheck p = (0, l, part) → ∃ g ∈ x.obj.grants, ∃ c, x.ctx? l = some c ∧ c.part = part ∧
    c.st = .active ∧ c.fabric ∧ bits g.2 19 0 = l ∧ bits g.2 51 40 = p.src ∧ bits g.2 39 20 = p.ctx ∧ bitAt g.2 63 ∧
    bitAt g.2 (if p.ty = 1 then 60 else if p.ty = 2 then 61 else 62) ∧ x.devOk p.addr ∧ x.checkOk p.addr l part false ∧
    (p.ty = 3 → p.code = 3 → p.addr % 8 = 0 ∧ (x.areaAt part p.addr).isSome))
  ∧ (∀ (s : State) (h : HalfId) (pkt : FabPkt) (o : Nat), let x := s.sys.half h
    x.obj.join = none → x.responsePort s.sys.blk pkt.src pkt.tag = some o → Settles (.ping h pkt) s (fun m => s.sys.Still m ∧
      m.blk.out = .fabric o (respPkt { pkt with ty := 4 } (.nack 4)) :: s.sys.blk.out ∧ ∀ g, m.half g = s.sys.half g))
  ∧ (∀ (s : State) (h : HalfId) (port : Nat) (p : FabPkt), let x := s.sys.half h
    let isReq : Prop := 1 ≤ p.ty ∧ p.ty ≤ 4
    let isRsp : Prop := (0x11 ≤ p.ty ∧ p.ty ≤ 0x14) ∨ p.ty = 0x1F
    let emits (o : Nat) (q : FabPkt) (m : Mach) : Prop := s.sys.Still m ∧ m.blk = { s.sys.blk with out := .fabric o q :: s.sys.blk.out }
    (∀ o, p.hop ≠ 7 → x.obj.join.isSome → (isReq ∧ x.requestPort s.sys.blk p.dst p.addr = some o) ∨ (isRsp ∧ x.responsePort s.sys.blk p.dst p.tag = some o) →
      Completes (.packetForward h port p) s (emits o { p with hop := p.hop + 1 })) ∧
    (∀ o, p.hop ≠ 7 → isReq → x.obj.join = none ∨ x.requestPort s.sys.blk p.dst p.addr = none → x.responsePort s.sys.blk p.src p.tag = some o →
      Completes (.packetForward h port p) s (emits o (respPkt p (.nack 4)))) ∧
    (∀ o, p.hop = 7 → isReq → x.responsePort s.sys.blk p.src p.tag = some o → x.hasRoom 10 → Completes (.packetForward h port p) s (fun m => s.sys.Still m ∧
      m.blk.out = .fabric o (respPkt p (.nack 6)) :: s.sys.blk.out ∧ x.Reported (m.half h) 10 (mkErr x 10 0 0x38 2 10 p.addr))) ∧
    (p.hop = 7 → isRsp → Completes (.packetForward h port p) s (fun m => s.sys.Inside m h ∧
      m.half h = { x with fab := { x.fab with discarded := x.fab.discarded + 1 } })) ∧
    (¬ isReq → ¬ isRsp → Completes (.packetForward h port p) s (fun m => s.sys.Inside m h ∧
      m.half h = x.updFabPort port (fun q => { q with replays := min 65535 (q.replays + 1) }))))

/-- Answers to this package's requests (R336, R345, R346, R352, Table 12-6): each reaches its requester; an unknown tag is counted and reported; a NACK or a
timeout may change the route or mark the package, which a PONG restores. -/
def Obligations.FabricAnswersAct : Prop :=
  (∀ (s : State) (h : HalfId) (tag : Nat) (r : FabReq), let x := s.sys.half h
    Tab.look x.fab.reqs tag = some r → x.fab.instant = [] → let taken (m : Mach) : Prop := Tab.look (m.half h).fab.reqs tag = none ∧
      (∀ k, k ≠ tag → Tab.look (m.half h).fab.reqs k = Tab.look x.fab.reqs k) ∧ (m.half h).fab.instant = []
    (∀ port bs po, r.what = .chip port → r.op / 16 ≠ 2 → Settles (.rdData h tag bs po) s (fun m => s.sys.Still m ∧ taken m ∧
      m.blk.out = .chipData h port bs po :: s.sys.blk.out)) ∧
    (∀ q slot n c, r.what = .write q slot n → x.chanOf q slot = some c → let k := s.sys.chan h c
      Settles (.wrAck h tag) s (fun m => s.sys.Still m ∧ taken m ∧ m.chan h c = { k with acks := k.acks - 1 } ∧ (m.half h).obj = x.obj) ∧
      (∀ why, k.disp.pkt.op ≠ 0x21 → k.ends = none → why = 1 ∨ why = 2 ∨ why = 3 ∨ why = 7 → Settles (.nack h tag why) s (fun m => s.sys.Still m ∧ taken m ∧
        m.chan h c = { k with acks := k.acks - 1, done := min k.done r.pre, ends := some (0x21, refuseDetail why, min k.done r.pre, r.va) } ∧
        m.blk.lossQ = (if why = 3 ∧ r.ctx ≠ 0 then s.sys.blk.lossQ ++ [{
          ctx := r.ctx, cause := 1, master := 2 ^ 15 + r.part % 64 * 512, access := 2, addr := r.addr, half := h, ref := some (q, slot) }] else s.sys.blk.lossQ)))) ∧
    (∀ ref old, r.what = .fence ref → r.err = false → (s.sys.blk.getQ ref.q).st ≠ .absent → x.tdm.st ≠ .paired →
      ∀ code, code = 0 ∨ code = 1 → Settles (.atRsp h tag old code false) s (fun m => s.sys.Still m ∧ taken m ∧
        (m.blk.getQ ref.q).replies = (s.sys.blk.getQ ref.q).replies ++ [{ ref := ref, status := if code = 0 then 0 else 0x31, half := h }])) ∧
    (r.what = .ping → x.tdm.st ≠ .paired → Settles (.pong h tag) s (fun m => s.sys.Still m ∧ taken m ∧ r.dst ∉ (m.half h).obj.unreach ∧
      r.dst ∉ (m.half h).fab.switched ∧ ∀ d, d ≠ r.dst → (d ∈ (m.half h).obj.unreach ↔ d ∈ x.obj.unreach))) ∧
    (r.what = .loss → let alt := (Tab.dflt x.obj.routes r.dst {}).alternate
      (alt ≠ 0 → r.dst ∉ x.fab.switched → Settles (.nack h tag 4) s (fun m => s.sys.Still m ∧ taken m ∧ (m.half h).fab.switched = r.dst :: x.fab.switched ∧
        r.dst ∈ (m.half h).fab.drains ∧ (m.half h).obj = x.obj)) ∧
      (alt = 0 → x.tdm.st ≠ .paired → r.dst ∉ x.obj.unreach → x.hasRoom 10 → x.reqsTo r.dst = [tag] → Settles (.nack h tag 4) s (fun m => s.sys.Still m ∧
        taken m ∧ r.dst ∈ (m.half h).obj.unreach ∧ x.Reported (m.half h) 10 (mkErr x 10 0 0x34 2 11)))))
  ∧ (∀ (s : State) (h : HalfId) (tag : Nat) (bs : List Byte) (po : Bool) (old code : Nat) (c : Instr), let x := s.sys.half h
    Tab.look x.fab.reqs tag = none → x.fab.instant = [] → x.hasRoom 10 →
    c = .rdData h tag bs po ∨ c = .wrAck h tag ∨ c = .atRsp h tag old code po ∨ c = .pong h tag ∨ c = .nack h tag code →
    Settles c s (fun m => s.sys.Inside m h ∧ (m.half h).regFld 0x0500050 63 32 = (x.regFld 0x0500050 63 32 + 1) % 2 ^ 32 ∧ (m.half h).fab = x.fab ∧
      x.Reported (m.half h) 10 (mkErr x 10 0 0x3B 0) ∧ ∀ r, r ≠ 0x0500050 → (m.half h).reg r = x.reg r))
  ∧ (∀ (s : State) (h : HalfId) (tag : Nat) (r : FabReq), let x := s.sys.half h
    let n := Tab.dflt x.fab.misses r.dst 0 + 1
    Tab.look x.fab.reqs tag = some r → x.hasRoom 10 → n < x.regFld 0x0500000 27 24 → Settles (.fabricReqTimeout h tag) s (fun m => s.sys.Inside m h ∧
      (m.half h).fab = { x.fab with retired := (tag, s.sys.clk.now h + 2000 * x.regFld 0x0500000 15 0) :: x.fab.retired
                                    misses := Tab.put x.fab.misses r.dst n, instant := x.fab.instant ++ [(tag, .unreachable)] } ∧
      (m.half h).regFld 0x0500050 31 0 = (x.regFld 0x0500050 31 0 + 1) % 2 ^ 32 ∧ x.Reported (m.half h) 10 (mkErr x 10 0 0x37 2 0 r.addr) ∧
      (m.half h).obj = x.obj ∧ ∀ k, k ≠ 0x0500050 → (m.half h).reg k = x.reg k))
  ∧ (∀ (s : State) (h : HalfId) (d a tag : Nat) (j : JoinRec), let x := s.sys.half h
    let rt := Tab.dflt x.obj.routes d {}
    x.obj.join = some j → x.freeTag (s.sys.clk.now h) = some tag →
    (d ∈ x.obj.unreach → s.sys.blk.pickPort h rt.primary d 0 h.num = some a → s.sys.blk.pickPort h rt.alternate d 0 h.num = none →
      let q : FabReq := { op := 0x40, dst := d, start := s.sys.clk.now h, port := a, what := .ping }
      Settles (.unreachPing h d) s (fun m => s.sys.Still m ∧ (m.half h).fab = { x.fab with reqs := Tab.put x.fab.reqs tag q } ∧
        m.blk.out = .fabric a (q.pkt tag j.pkg h.num) :: s.sys.blk.out)) ∧
    (∀ r, d ∈ x.fab.drains → x.reqsTo d = [] → x.fab.waiting = [r] → r.dst = d → d ≠ j.pkg → d ∉ x.obj.unreach → x.requestPort s.sys.blk d r.addr = some a →
      Settles (.pathDrainEnd h d) s (fun m => s.sys.Still m ∧ (m.half h).fab = { x.fab with
          drains := x.fab.drains.filter (· != d), waiting := [], reqs := Tab.put x.fab.reqs tag { r with start := s.sys.clk.now h, port := a } } ∧
        m.blk.out = .fabric a (r.pkt tag j.pkg h.num) :: s.sys.blk.out)) ∧
    (d ∈ x.fab.drains → x.reqsTo d ≠ [] → Settles (.pathDrainEnd h d) s (fun m => m = s.sys)))

/-- Ports and lanes of the Peloton fabric (R40, R41, R330, R333, R334, R347 to R349, R351): LINK_HELLO, credits, flits, the loss of a port, health records, and
the exchange that replaces a lane.
It rests on the model's choices of log entries 19, 104. -/
def Obligations.LinksAndLanesAct : Prop :=
  ∀ (s : State) (h : HalfId) (p : Nat), p < 16 → let x := s.sys.half h
    let q := x.fabPort p
    let pp := 16 * h.num + p
    let tells (pkts : List Output) (f : FabPort → FabPort) (m : Mach) : Prop := m = { s.sys with blk :=
      { s.sys.blk.upd h (fun k => k.updFabPort p f) with out := pkts ++ s.sys.blk.out } }
    (∀ pkg dom : Nat, (∃ c, x.obj.joinCmd = some c ∧ c.pkg = pkg ∧ c.domain = dom) ∨ (x.obj.joinCmd = none ∧ ∃ j, x.obj.join = some j ∧ j.pkg = pkg ∧ j.domain = dom) →
      ((Tab.look x.obj.neigh pp).isSome → q.carries = false → Completes (.linkHelloSend h p) s (tells
        [.fabric pp { ty := 0x20, src := pkg, len := 8, addr := pkg + dom * 2 ^ 16 + pp * 2 ^ 32 }] (fun k => { k with st := if k.st = 0 then 1 else k.st }))) ∧
      (∀ want, Tab.look x.obj.neigh pp = some want → q.carries = false → q.st ≠ 4 → x.obj.joinCmd = none →
        (Settles (.linkHello h p want dom false) s (fun m => s.sys.Still m ∧ m.half h.other = (s.sys.blk.drainsFor pp).half h.other ∧
          (m.half h).fabPort p = { q with st := 2, neighbour := want, replays := 0 } ∧ (m.half h).obj = x.obj ∧
          ∀ d ∈ x.routedBy pp, x.reqsTo d ≠ [] → d ∈ (m.half h).fab.drains)) ∧
        (∀ pkg' dom', pkg' ≠ want ∨ dom' ≠ dom → x.hasRoom 10 → Settles (.linkHello h p pkg' dom' false) s (fun m => s.sys.Still m ∧
          (m.half h).fabPort p = { q with st := 4, neighbour := pkg' } ∧ x.Reported (m.half h) 10 (mkErr x 10 p 0x39 2 11) ∧ (m.half h).obj = x.obj)))) ∧
    (∀ c : JoinCmd, x.obj.joinCmd = some c → c.update = false → (s.sys.blk.getQ c.ref.q).st ≠ .absent → x.tdm.st ≠ .paired → s.sys.blk.linked = false →
      let rep (m : Mach) (st res : Nat) : Prop := (m.blk.getQ c.ref.q).replies = (s.sys.blk.getQ c.ref.q).replies ++
        [{ ref := c.ref, status := st, half := h, result := res }]
      (s.sys.blk.portsUp ≠ 0 → Settles (.fabricJoinLimitExpiry h) s (fun m => s.sys.Still m ∧ rep m 0 (s.sys.blk.portsUp % 2 ^ 64) ∧
        (m.half h).obj.join = some { pkg := c.pkg, domain := c.domain } ∧ (m.half h).obj.joinCmd = none ∧ (m.half h).obj.routes = x.obj.routes)) ∧
      (s.sys.blk.portsUp = 0 → Settles (.fabricJoinLimitExpiry h) s (fun m => s.sys.Still m ∧ rep m 0x32 0 ∧ (m.half h).obj.join = x.obj.join ∧
        (m.half h).obj.joinCmd = none ∧ (m.half h).obj.routes = [] ∧ (m.half h).obj.neigh = [] ∧ ∀ g, ∀ e ∈ (m.half g).fab.ports, e.2.st = 0))) ∧
    (∀ cls vc n, cls < 2 → vc < 8 → Completes (.credit h p cls vc n) s (tells [] (fun k =>
      { k with credits := Tab.put k.credits (cls * 8 + vc) (Tab.dflt k.credits (cls * 8 + vc) 0 + n) }))) ∧
    (∀ again, (again = false ∨ q.fails + 1 < 8) → Settles (.flitCrcFail h p again) s (fun m => s.sys.Inside m h ∧ (m.half h).fabPort p =
      { q with replays := min 65535 (q.replays + 1), fails := (if again then q.fails else 0) + 1 } ∧ (m.half h).regs = x.regs ∧ (m.half h).obj = x.obj ∧
      ∀ k, k ≠ p → (m.half h).fabPort k = x.fabPort k)) ∧
    (q.carries → Completes (.idleFlit h p) s (fun m => m = { s.sys with blk := { s.sys.blk with out := .idleFlit h p :: s.sys.blk.out } })) ∧
    (∀ tags, q.st ≠ 0 → x.hasRoom 10 → x.fab.instant = [] → x.obj.routes = [] → (∀ t ∈ tags, (Tab.look x.fab.reqs t).isSome) →
      let gone (ts : List Nat) (n : Nat) (m : Mach) : Prop := s.sys.Still m ∧ m.blk.out = s.sys.blk.out ∧ (m.half h).fabPort p = { q with st := 0, replays := n, fails := 0, swap := none } ∧
        x.Reported (m.half h) 10 (mkErr x 10 p 0x33 2 11) ∧ (m.half h).fab.instant = ts.map (fun t => (t, .nack 4)) ∧ (m.half h).obj = x.obj
      Settles (.portDown h p tags) s (gone tags q.replays) ∧
      (7 ≤ q.fails → Settles (.flitCrcFail h p true) s (gone [] (min 65535 (q.replays + 1)))) ∧
      (∀ pkg dom, Settles (.linkHello h p pkg dom true) s (gone [] q.replays))) ∧
    (∀ lane rec, Completes (.laneHealthRecord h p lane rec) s (tells [] (fun k => { k with lanes := Tab.put k.lanes lane { Tab.dflt k.lanes lane {} with
      recs := ((bits rec 95 64, bits rec 63 32, bits rec 31 16, bits rec 15 0) :: (Tab.dflt k.lanes lane {}).recs).take 16, seen := s.sys.clk.now h } }))) ∧
    (∀ q', x.fab.ports = [(p, q)] → q' = { q with lanes := (List.range 18).map (fun l => (l, { Tab.dflt q.lanes l {} with
        st := judgeLane (Tab.dflt q.lanes l {}) (s.sys.clk.now h) (x.reg 0x0500030).toNat })) } → let eval := Instr.laneHealthEval h
      (q.carries = false ∨ q.swap.isSome ∨ q'.laneMove = .none → Completes eval s (tells [] (fun _ => q'))) ∧
      (q.carries → q.swap = none → ∀ l sp k, q'.laneMove = .swap l sp k → Completes eval s (tells [.fabric pp { ty := 0x21, addr := l + sp * 256 }]
        (fun _ => { q' with swap := some (l, sp, false, k) }))) ∧
      (q.carries → q.swap = none → q'.laneMove = .narrow → Completes eval s (tells [.fabric pp { ty := 0x21, addr := 18 }]
        (fun _ => { q' with swap := some (18, 18, false, 0x32) })))) ∧
    (∀ l sp, q.carries → q.swap = none → let map := q.newMap l sp
      Completes (.lswap h p l sp) s (tells [.laneMap h p map.1 (map.2.map (fun e => e.1 * 32 + e.2)), .fabric pp { ty := 0x22, addr := l }]
        (fun k => { k with swap := some (l, sp, true, if l = 18 then 0x32 else if (Tab.dflt q.lanes l {}).st = 2 then 0x31 else 0x30) }))) ∧
    (∀ l sp kind, let map := q.newMap l sp
      (q.swap = some (l, sp, false, kind) → Completes (.lswapAck h p) s (tells [.laneMap h p map.1 (map.2.map (fun e => e.1 * 32 + e.2))]
        (fun k => { k with swap := some (l, sp, true, kind) }))) ∧
      (q.swap = some (l, sp, true, kind) → x.hasRoom 10 → Completes (.laneMapConfirm h p) s (fun m => s.sys.Quiet m ∧ m.blk.out = s.sys.blk.out ∧
        (m.half h).fabPort p = { q with swap := none, mask := map.1, subst := map.2, st := if l = 18 then 3 else q.st } ∧
        x.Reported (m.half h) 10 (mkErr x 10 p kind (if l = 18 then 2 else 1) 11) ∧
        (m.half h).jnl = (x.journal (s.sys.clk.now h) fwOrigin 17 (p * 32 + l) l sp).jnl ∧ (∀ r, r ≠ 0x0500060 → (m.half h).reg r = x.reg r) ∧
        if l = 18 then (m.half h).regFld 0x0500060 63 32 = (x.regFld 0x0500060 63 32 + 1) % 2 ^ 32
        else (m.half h).regFld 0x0500060 31 0 = (x.regFld 0x0500060 31 0 + 1) % 2 ^ 32 ∧ m.half h.other = s.sys.half h.other))) ∧
    (∀ via v, s.sys.Admits via h 0x0500040 → s.sys.blk.linked = false → let n := x.selector via 0x0500038
      let old := Tab.dflt x.obj.grants n 0
      let w := Nat.land v 0xF00FFFFFFFFFFFFF
      let ok : Prop := (∃ c, x.ctx? (bits w 19 0) = some c ∧ (c.st = .created ∨ c.st = .active)) ∧
        ∀ g ∈ x.obj.grants, g.1 ≠ n → bitAt g.2 63 → bits g.2 51 20 ≠ bits w 51 20
      let puts (w : Nat) : Prop := w ≠ old → Completes (.fabGrantWrite via h v) s (fun m => s.sys.Inside m h ∧ m.half h =
        ({ x with obj := { x.obj with grants := if w = 0 then Tab.del x.obj.grants n else Tab.put x.obj.grants n w } }).journal (s.sys.clk.now h) via.origin 10 n old w)
      v < 2 ^ 64 → (bitAt w 63 → ok → puts w) ∧ (bitAt w 63 → ¬ ok → puts (w % 2 ^ 63)) ∧ (bitAt w 63 = false → puts w))

/-- Requests of chiplets (R294, R300, R303, R304, R307 to R309, R311, R312, Tables 11-6, 11-7 and 11-9): a REQ that passes is served from memory, waits for a
snoop or for its line, or is retried; one that fails a check is denied; data of WR_ONCE, credits, and reservations.
It rests on the model's choices of log entries 53, 106. -/
def Obligations.ChipletRequestsAct : Prop :=
  (∀ (s : State) (h : HalfId) (p op : Nat) (r : CohReq) (c : Instr), let x := s.sys.half h
    (c = .rdShared h p r ∧ op = 0x40) ∨ (c = .rdOwn h p r ∧ op = 0x41) ∨ (c = .upgrade h p r ∧ op = 0x42) ∨ (c = .rdOnce h p r ∧ op = 0x43) ∨
      (c = .wrOnce h p r ∧ op = 0x44) →
    let u := x.coh
    let ack : Output := .coh h p 0x3F 0 0 0 []
    let say (ty info : Nat) (bs : List Byte) : Output := .coh h p ty info r.tid r.line bs
    let t : CohTxn := { id := u.next, op := op, line := r.line, who := .chip p r, needData := op == 0x44 }
    let joins (t : CohTxn) : CohUnit := { u with txns := u.txns ++ [t], next := u.next + 1 }
    let tags := x.tagsOf r.line
    let acc := if op = 0x40 ∨ op = 0x43 then 1 else 2
    ∀ a b d, p < 8 → Tab.dflt u.cred p (0, 0, 0) = (a, b + 1, d + 1) →
    (s.sys.PassesReq h p op r → r.rcid = none → r.rtry < 8 → (u.txns.filter (fun k => !k.reserved)).length < 896 →
      ((x.openTxn r.line).isSome → Settles c s (fun m => s.sys.CohOnly m h (joins t) [ack])) ∧
      (x.openTxn r.line = none → (x.hrdOf r.line) = none → lineHost r.line = false → s.sys.mem.poisoned (lineOff r.line) 64 = false →
        (∀ k ∈ u.txns, k.id ≠ u.next) → let ends := joins { t with opened := true, alone := true, closing := true }
        let bs := s.sys.mem.readDev (lineOff r.line) 64
        let granted (rsp dat : Nat) : CohUnit := { ends with
          tags := Tab.put (u.setTag p r.line 0).tags (tagKey p r.line r.way) (r.line, 3), cred := Tab.put u.cred p (a, rsp, dat) }
        (tags = [] → op = 0x40 ∨ op = 0x41 ∨ op = 0x42 → Settles c s (fun m => s.sys.CohOnly m h (granted (b + 1) d) [say 0x78 3 bs, ack])) ∧
        (∀ k st, tags = [(k, st)] → tagPort k = p → st ≠ 0 → op = 0x42 → Settles c s (fun m => s.sys.CohOnly m h (granted b (d + 1)) [say 0x68 3 [], ack])) ∧
        (tags = [] → op = 0x43 → Settles c s (fun m => s.sys.CohOnly m h { ends with cred := Tab.put u.cred p (a, b + 1, d) } [say 0x79 0 bs, ack])) ∧
        (tags = [] → op = 0x44 → Settles c s (fun m => s.sys.CohOnly m h (joins { t with opened := true, alone := true }) [ack])) ∧
        (∀ k st sn cr, tags = [(k, st)] → tagPort k ≠ p → 1 ≤ st → st ≤ 4 → Tab.dflt u.cred (tagPort k) (0, 0, 0) = (sn + 1, cr) →
          ∀ ty, (op = 0x44 ∧ ty = 0x52) ∨ ((op = 0x41 ∨ op = 0x42) ∧ ty = (if st = 1 then 0x52 else 0x53)) ∨
            ((op = 0x40 ∨ op = 0x43) ∧ st ≠ 1 ∧ ty = (if st = 2 then 0x50 else 0x51)) →
          Settles c s (fun m => s.sys.CohOnly m h { joins { t with opened := true, snoops := [(tagPort k, ty, s.sys.clk.now h)] } with
            cred := Tab.put u.cred (tagPort k) (sn, cr) } [.coh h (tagPort k) ty 0 (u.next % 128) r.line [], ack])))) ∧
    (s.sys.PassesReq h p op r → r.rtry < 8 → ∀ k, u.resv.find? (fun k => k.port == p && k.tid == r.tid && k.rcid.isSome && k.rcid == r.rcid) = some k →
      (x.openTxn r.line).isSome → Settles c s (fun m => s.sys.CohOnly m h { joins { t with reserved := true } with resv := u.resv.erase k } [ack])) ∧
    (s.sys.PassesReq h p op r → r.rcid = none → r.rtry < 8 → 896 ≤ (u.txns.filter (fun k => !k.reserved)).length → Settles c s (fun m =>
      s.sys.Quiet m ∧ m.blk.out = [say 0x69 0 [], ack] ++ s.sys.blk.out ∧
      (m.half h).coh = { u with cred := Tab.put u.cred p (a, b, d + 1), resv := u.resv ++ [{ port := p, tid := r.tid, rtry := r.rtry }] } ∧
      (m.half h).regFld 0x0400040 31 0 = (x.regFld 0x0400040 31 0 + 1) % 2 ^ 32 ∧ ∀ k, k ≠ 0x0400040 → (m.half h).reg k = x.reg k)) ∧
    (let denied (why : Nat) (m : Mach) : Prop := s.sys.Quiet m ∧ m.blk.out = [say 0x6D why [], ack] ++ s.sys.blk.out
      let ok (c : Ctx) : Prop := x.ctx? r.ctx = some c ∧ c.st = .active ∧ bitAt c.dieAllow (h.num * 8 + p)
      let same (m : Mach) : Prop := (m.half h).coh = { u with cred := Tab.put u.cred p (a, b, d + 1) } ∧ (m.half h).obj = x.obj
      ((∀ k, ¬ ok k) → x.hasRoom 9 → Settles c s (fun m => denied 1 m ∧ same m ∧ m.blk.lossQ = s.sys.blk.lossQ ∧
        x.Reported (m.half h) 9 (mkErr x 9 p 0x22 0 acc (lineOff r.line) ((x.ctx? r.ctx).map (·.part)) (h.num * 8 + p)) ∧
        (m.half h).regFld 0x0100040 31 0 = (x.regFld 0x0100040 31 0 + 1) % 2 ^ 32 ∧ ∀ k, k ≠ 0x0100040 → (m.half h).reg k = x.reg k)) ∧
      (∀ k, ok k → (x.fenced p → Settles c s (fun m => denied 4 m ∧ same m ∧ (m.half h).regs = x.regs)) ∧
        (x.fenced p = false → x.lineWindow (some k.part) r.line = none → x.hasRoom 9 → Settles c s (fun m => denied 2 m ∧ same m ∧ (m.half h).regs = x.regs ∧
          m.blk.lossQ = s.sys.blk.lossQ ++ [{
            ctx := r.ctx, cause := 2, master := 2 ^ 15 + k.part * 512 + h.num * 8 + p, addr := lineOff r.line, half := h }] ∧
          x.Reported (m.half h) 9 (mkErr x 9 p 0x22 3 acc (lineOff r.line) (some k.part) (h.num * 8 + p)))) ∧
        (∀ w, x.fenced p = false → x.lineWindow (some k.part) r.line = some w →
          (w.2.disabling ∨ (w.2.kind = 2 ∧ (x.port w.2.port).contained) → Settles c s (fun m => denied 3 m ∧ same m ∧ (m.half h).regs = x.regs)) ∧
          (w.2.disabling = false → w.2.kind = 1 → x.breaches p op r → u.txns = [] → x.hasRoom 9 → Settles c s (fun m => m.clk = s.sys.clk ∧
            m.blk.out = [say 0x6D 5 [], ack] ++ s.sys.blk.out ∧ (m.half h).fenced p ∧ (m.half h).coh.tags = u.tags.filter (fun t => tagPort t.1 != p) ∧
            (∀ k ∈ (m.half h).coh.resv, k.port ≠ p) ∧ m.mem.dev = s.sys.mem.dev ∧ m.mem.host = s.sys.mem.host ∧
            (m.half h).regFld 0x0400038 31 0 = (x.regFld 0x0400038 31 0 + 1) % 2 ^ 32 ∧ (m.half h).regFld 0x0400038 39 32 = h.num * 8 + p))))))
  ∧ (∀ (s : State) (h : HalfId) (p tid mask : Nat) (bs : List Byte) (t : CohTxn) (r : CohReq) (a b d : Nat), let x := s.sys.half h
    x.fenced p = false → x.coh.txns = [t] → { t with needData := false }.Ready → t.needData → t.op = 0x44 → t.who = .chip p r → r.tid = tid → t.data = none →
    t.dirty = false → t.poison = false → lineHost t.line = false → Tab.dflt x.coh.cred p (0, 0, 0) = (a, b + 1, d) → bs.length = 64 → mask < 2 ^ 64 →
    s.sys.mem.poisoned (lineOff t.line) 64 = false → let off := lineOff t.line
    Settles (.datWr h p tid mask bs false) s (fun m => m.clk = s.sys.clk ∧ m.mem.host = s.sys.mem.host ∧
      m.blk.out = [.coh h p 0x6C 0 tid t.line [], .coh h p 0x3F 3 0 0 []] ++ s.sys.blk.out ∧
      (m.half h).coh.txns = [{ t with wdata := bs, mask := mask, needData := false, closing := true }] ∧ (m.half h).coh.tags = x.coh.tags ∧
      (∀ i, i < 64 → memGet m.mem.dev (off + i) = if bitAt mask i then bs.getD i 0 else memGet s.sys.mem.dev (off + i)) ∧
      ∀ k, k < off ∨ off + 64 ≤ k → memGet m.mem.dev k = memGet s.sys.mem.dev k))
  ∧ (∀ (s : State) (h : HalfId) (p snp rsp dat a b d : Nat), let u := (s.sys.half h).coh
    Tab.dflt u.cred p (0, 0, 0) = (a, b, d) →
    (Tab.dflt u.outq p [] = [] → Completes (.crd h p snp rsp dat) s (fun m => s.sys.CohOnly m h
      { u with cred := Tab.put u.cred p (a + snp, b + rsp, d + dat), outq := Tab.del u.outq p } [])) ∧
    (∀ o, Tab.dflt u.outq p [] = [o] → cohClass o.ty = 1 → 1 ≤ rsp → Completes (.crd h p snp rsp dat) s (fun m =>
      m.blk.out = .coh h p o.ty o.info o.tid o.line o.bs :: s.sys.blk.out ∧ (m.half h).coh.outq = Tab.del u.outq p ∧
      Tab.dflt (m.half h).coh.cred p (0, 0, 0) = (a + snp, b + rsp - 1, d + dat) ∧ s.sys.Still m)))
  ∧ (∀ (s : State) (h : HalfId) (k : Resv), let x := s.sys.half h
    let u := x.coh
    (∀ a b d, k.rcid = none → (u.txns.filter (·.reserved)).length < 128 → Tab.dflt u.cred k.port (0, 0, 0) = (a, b + 1, d) →
      let cred := Tab.put u.cred k.port (a, b, d)
      let say : Output := .coh h k.port 0x6A 0 (k.tid + 2 ^ 15) 0 []
      (u.resv = [k] → Completes (.reservationGrant h) s (fun m => s.sys.CohOnly m h { u with resv := [{ k with rcid := some 0 }], cred := cred } [say])) ∧
      (∀ j, u.resv = [j, k] → j.rcid = none → j.rtry < 8 → 8 ≤ k.rtry → Completes (.reservationGrant h) s (fun m =>
        s.sys.CohOnly m h { u with resv := [j, { k with rcid := some 0 }], cred := cred } [say]))) ∧
    (∀ n, k ∈ u.resv → k.rcid = some n → x.hasRoom 9 → Completes (.reservationExpiry h n) s (fun m => s.sys.Inside m h ∧
      (m.half h).coh = { u with resv := u.resv.filter (fun r => r.rcid != some n) } ∧ x.Reported (m.half h) 9 (mkErr x 9 0 0x23 0) ∧
      (m.half h).regFld 0x0400040 63 32 = (x.regFld 0x0400040 63 32 + 1) % 2 ^ 32 ∧ ∀ r, r ≠ 0x0400040 → (m.half h).reg r = x.reg r)))

/-- Answers of chiplets (R303 to R306, R310, R311, Tables 11-7, 11-10 and 11-14): snoop answers set the port's tag and let the grant go out; an eviction crossing
a snoop is awaited; evictions are written and acknowledged; a closed transaction lets the next open; a snoop timer's end fences the port.
It rests on the model's choices of log entry 50. -/
def Obligations.SnoopAnswersAndEvictionsAct : Prop :=
  (∀ (s : State) (h : HalfId) (p q tid key st0 ty when_ a b d : Nat) (r : CohReq) (t : CohTxn), let x := s.sys.half h
    let u := x.coh
    let off := lineOff t.line
    let ack (cls : Nat) : Output := .coh h q 0x3F cls 0 0 []
    let mem := s.sys.mem.readDev off 64
    p ≠ q → x.fenced q = false → u.txns = [t] → t.id % 128 = tid → t.snoops = [(q, ty, when_)] → { t with snoops := [] }.Ready → t.who = .chip p r →
    t.op = 0x40 ∨ t.op = 0x41 → t.alone = false → t.data = none → t.dirty = false → t.poison = false → lineHost t.line = false → x.hrdOf t.line = none →
    x.tagsOf t.line = [(key, st0)] → tagPort key = q → st0 ≠ 0 → s.sys.mem.poisoned off 64 = false → Tab.dflt u.cred p (0, 0, 0) = (a, b, d + 1) →
    let after (st g : Nat) (data : Option (List Byte)) (dirty : Bool) : CohUnit := { u with
      tags := Tab.put ((u.setTag q t.line st).setTag p t.line 0).tags (tagKey p t.line r.way) (t.line, g)
      txns := [{ t with snoops := [], data := data, dirty := dirty, closing := true }], cred := Tab.put u.cred p (a, b, d) }
    let grant (g : Nat) (bs : List Byte) : Output := .coh h p 0x78 g r.tid t.line bs
    let own := t.op = 0x41
    Settles (.rspI h q tid) s (fun m => s.sys.CohOnly m h (after 0 (if own then 3 else 2) none false) [grant (if own then 3 else 2) mem, ack 2]) ∧
    (t.op = 0x40 → Settles (.rspS h q tid) s (fun m => s.sys.CohOnly m h (after 1 2 none false) [grant 2 mem, ack 2])) ∧
    (∀ bs dirty, own → let g := if dirty then 4 else 3
      Settles (.datSnp h q tid 0 dirty false bs) s (fun m => s.sys.CohOnly m h (after 0 g (some bs) dirty) [grant g bs, ack 3])) ∧
    (∀ bs, t.op = 0x40 → Settles (.datSnp h q tid 1 false false bs) s (fun m => s.sys.CohOnly m h (after 1 2 (some bs) false) [grant 2 bs, ack 3])) ∧
    (∀ bs, t.op = 0x40 → bs.length = 64 → Settles (.datSnp h q tid 1 true false bs) s (fun m => m.clk = s.sys.clk ∧ m.mem.host = s.sys.mem.host ∧
      m.blk.out = [grant 2 bs, ack 3] ++ s.sys.blk.out ∧ (m.half h).coh = after 1 2 (some bs) true ∧ memRead m.mem.dev off 64 = bs ∧
      ∀ k, k < off ∨ off + 64 ≤ k → memGet m.mem.dev k = memGet s.sys.mem.dev k)) ∧
    Settles (.rspIEvicting h q tid) s (fun m => s.sys.CohOnly m h { u with txns := [{ t with snoops := [], evict := [q] }] } [ack 2]) ∧
    (own → u.tags = [(key, (t.line, st0))] → 3 ≤ st0 → Tab.dflt x.err.queues 9 [] = [] → Tab.dflt x.err.stalled 9 [] = [] → q < 8 →
      Settles (.snoopTimeout h q tid) s (fun m => m.clk = s.sys.clk ∧ m.blk.out = grant (3 + 128) mem :: s.sys.blk.out ∧ (m.half h).fenced q ∧
        m.mem = { s.sys.mem with poison := setAdd s.sys.mem.poison (off / 64) } ∧ (m.half h).coh.tags = [(tagKey p t.line r.way, (t.line, 3))] ∧
        Tab.dflt (m.half h).err.queues 9 [] = [{ mkErr x 9 q 0x20 3 with source := h.num * 2 ^ 11 + 9 * 2 ^ 7 + (h.num * 8 + q) }, mkErr x 9 0 0x26 2 1 off] ∧
        (m.half h).regFld 0x0400038 31 0 = (x.regFld 0x0400038 31 0 + 1) % 2 ^ 32 ∧ (m.half h).regFld 0x0400038 39 32 = h.num * 8 + q ∧
        ∀ k, k ≠ 0x0400038 → (m.half h).reg k = x.reg k)))
  ∧ (∀ (s : State) (h : HalfId) (p q tid line a b d : Nat) (bs : List Byte), let x := s.sys.half h
    let u := x.coh
    let off := lineOff line
    let acked (cls : Nat) : List Output := [.coh h q 0x6B 0 tid line [], .coh h q 0x3F cls 0 0 []]
    let gone : CohUnit := { u.setTag q line 0 with cred := Tab.put u.cred q (a, b, d) }
    x.fenced q = false → lineHost line = false → Tab.dflt u.cred q (0, 0, 0) = (a, b + 1, d) →
    (x.tagOf q line ≠ 0 → x.openTxn line = none →
      Settles (.evc h q tid line) s (fun m => s.sys.CohOnly m h gone (acked 2)) ∧
      (bs.length = 64 → Settles (.evd h q tid line false bs) s (fun m => m.clk = s.sys.clk ∧ m.mem.host = s.sys.mem.host ∧ (m.half h).coh = gone ∧
        m.blk.out = acked 3 ++ s.sys.blk.out ∧ memRead m.mem.dev off 64 = bs ∧
        ∀ k, k < off ∨ off + 64 ≤ k → memGet m.mem.dev k = memGet s.sys.mem.dev k))) ∧
    (x.tagOf q line = 0 → let same : CohUnit := { u with cred := Tab.put u.cred q (a, b, d) }
      Settles (.evc h q tid line) s (fun m => s.sys.CohOnly m h same (acked 2)) ∧
      (∀ po, Settles (.evd h q tid line po bs) s (fun m => s.sys.CohOnly m h same (acked 3)))) ∧
    (∀ t r a' b' d', u.txns = [t] → t.line = line → { t with evict := [] }.Ready → t.evict = [q] → t.op = 0x41 → t.who = .chip p r → p ≠ q →
      t.poison = false → x.tagOf q line ≠ 0 → x.hrdOf line = none → Tab.dflt u.cred p (0, 0, 0) = (a', b', d' + 1) →
      Settles (.evd h q tid line false bs) s (fun m => m.mem = s.sys.mem ∧ m.clk = s.sys.clk ∧
        m.blk.out = .coh h p 0x78 4 r.tid line bs :: acked 3 ++ s.sys.blk.out ∧
        (m.half h).coh.tags = Tab.put ((u.setTag q line 0).setTag p line 0).tags (tagKey p line r.way) (line, 4) ∧
        (m.half h).coh.txns = [{ t with evict := [], data := some bs, dirty := true, closing := true }])))
  ∧ (∀ (s : State) (h : HalfId) (t n : CohTxn), let x := s.sys.half h
    t.closing →
    (x.coh.txns = [t] → Settles (.cohTransactionClose h t.id) s (fun m => s.sys.CohOnly m h { x.coh with txns := [] } [])) ∧
    (x.coh.txns = [t, n] → n.id ≠ t.id → n.line = t.line → { n with opened := true, needData := false }.Ready → n.opened = false → n.needData → n.op = 0x44 →
      x.tagsOf t.line = [] → x.hrdOf t.line = none → Settles (.cohTransactionClose h t.id) s (fun m =>
        s.sys.CohOnly m h { x.coh with txns := [{ n with opened := true, alone := true }] } [])))

/-- Windows and the lines the host holds (R290 to R292, R304, R313 to R319, R408, Tables 11-2, 11-11 and 11-12): enable and disable; I/O and host requests; answers to
back-invalidates and their timeout; host snoops; the host's GO.
It rests on the model's choices of log entries 51, 52, 54, 105. -/
def Obligations.WindowsAndHostLinesAct : Prop :=
  (∀ (s : State) (via : Via), let h := s.sys.blk.viaHalf via
    let x := s.sys.half h
    let n := x.selector via 0x0400010 % 64
    let w := Tab.dflt x.obj.windows n {}
    s.sys.Admits via h 0x0400030 → s.sys.blk.linked = false →
    (x.obj.windows.any (fun k => k.2.busy) → Settles (.windowEnable via) s (fun m => m = s.sys) ∧ Settles (.windowDisable via) s (fun m => m = s.sys)) ∧
    (x.obj.windows.any (fun k => k.2.busy) = false → x.obj.mems = [] → x.obj.maps = [] → x.xlt.holders = [] → x.xlt.invs = [] →
      x.chipsMeet 0 true 0 vaTop = [] → x.tdm.st ≠ .paired →
      let done (w' : Window) (m : Mach) : Prop := s.sys.Quiet m ∧ m.blk.out = s.sys.blk.out ∧
        Tab.look (m.half h).obj.windows n = some w' ∧ (∀ k, k ≠ n → Tab.look (m.half h).obj.windows k = Tab.look x.obj.windows k) ∧
        (∀ p ∈ (m.half h).xlt.iotlb, ¬ (p.va < vaTop ∧ 0 < p.va + p.bytes)) ∧ (m.half h).coh = x.coh
      (∀ cause, (if w.enabled then some 8 else x.winRefuse s.sys.blk n w) = some cause → Settles (.windowEnable via) s (fun m => s.sys.Inside m h ∧ m.half h =
        { x with obj := { x.obj with windows := Tab.put x.obj.windows n { w with done := true, err := true, errCause := cause } } })) ∧
      (w.enabled = false → x.winRefuse s.sys.blk n w = none → Settles (.windowEnable via) s (fun m => done
        { w with enabled := true, busy := false, done := true, disabling := false, recalled := true } m ∧
        (m.half h).jnl = (x.journal (s.sys.clk.now h) via.origin 6 n 0 1).jnl)) ∧
      (w.enabled → w.disabling = false → w.half = h.num → x.coh.txns = [] →
        (x.coh.tags = [] → x.coh.hrd = [] → Settles (.windowDisable via) s (fun m => done
          { w with enabled := false, busy := false, done := true, disabling := false, recalled := true } m)) ∧
        (∀ k line st sn cr, x.coh.tags = [(k, (line, st))] → x.coh.hrd = [] → w.owns n line → Tab.dflt x.coh.cred (tagPort k) (0, 0, 0) = (sn + 1, cr) →
          Settles (.windowDisable via) s (fun m => s.sys.Still m ∧ m.blk.out = .coh h (tagPort k) 0x52 0 (x.coh.next % 128) line [] :: s.sys.blk.out ∧
            (m.half h).coh.txns = [{ id := x.coh.next, op := 0xA0, line := line, who := .recall n, opened := true,
                                     snoops := [(tagPort k, 0x52, s.sys.clk.now h)] }] ∧
            Tab.look (m.half h).obj.windows n = some { w with disabling := true, busy := true, done := false, recalled := false })))))
  ∧ (∀ (s : State) (h : HalfId) (tag line mask : Nat) (bs : List Byte), let x := s.sys.half h
    let u := x.coh
    let off := lineOff line
    let t : CohTxn := { id := u.next, line := line, who := .io tag, wdata := bs, mask := mask }
    let joins (t : CohTxn) : CohUnit := { u with txns := u.txns ++ [t], next := u.next + 1 }
    (∀ write, x.disablingAt line → Settles (.ioRequest h tag write line bs mask) s (fun m => s.sys.CohOnly m h
      (joins { t with op := if write then 0x81 else 0x80, way := some ioHold }) [])) ∧
    (x.disablingAt line = false → x.openTxn line = none → (∀ k ∈ u.txns, k.id ≠ u.next) → x.tagsOf line = [] → x.hrdOf line = none → lineHost line = false →
      s.sys.mem.poisoned off 64 = false →
      Settles (.ioRequest h tag false line bs mask) s (fun m => s.sys.CohOnly m h (joins { t with op := 0x80, opened := true, alone := true, closing := true })
        [.ioDone h tag (s.sys.mem.readDev off 64) false]) ∧
      (bs.length = 64 → mask < 2 ^ 64 → Settles (.ioRequest h tag true line bs mask) s (fun m => m.clk = s.sys.clk ∧ m.mem.host = s.sys.mem.host ∧
        m.blk.out = .ioDone h tag [] false :: s.sys.blk.out ∧ (m.half h).coh = joins { t with op := 0x81, opened := true, alone := true, closing := true } ∧
        (∀ i, i < 64 → memGet m.mem.dev (off + i) = if bitAt mask i then bs.getD i 0 else memGet s.sys.mem.dev (off + i)) ∧
        ∀ k, k < off ∨ off + 64 ≤ k → memGet m.mem.dev k = memGet s.sys.mem.dev k))))
  ∧ (∀ (s : State) (h : HalfId) (port kind line : Nat) (bs : List Byte), let x := s.sys.half h
    let u := x.coh
    let off := lineOff line
    let w0 := hrdSet line * 16
    let fetched := s.sys.mem.readDev off 64
    let t (kind : Nat) : CohTxn := { id := u.next, op := 0x90, line := line, who := .host port kind, opened := true, closing := true }
    port < 2 → lineHost line = false →
    (x.sealedAt off = false → s.sys.mem.poisoned off 64 = false → x.openTxn line = none → (∀ k ∈ u.txns, k.id ≠ u.next) → x.tagsOf line = [] → x.hrdOf line = none →
      (kind = 2 ∨ (kind < 2 ∧ x.lineWindow none line = none) → Settles (.hostMemRequest h port kind line bs) s (fun m => s.sys.CohOnly m h
        { u with txns := u.txns ++ [{ t 2 with alone := true }], next := u.next + 1 } [.memRsp (h.num * 2 + port) line 0 fetched false])) ∧
      (∀ w, kind < 2 → x.lineWindow none line = some w → w.2.hostShare → w.2.kind = 1 → Tab.look u.hrd w0 = none → u.txns = [] →
        (∀ e ∈ u.hrd, e.2.line ≠ line) → Settles (.hostMemRequest h port kind line bs) s (fun m => s.sys.Still m ∧
          m.blk.out = .memRsp (h.num * 2 + port) line (kind + 1) fetched false :: s.sys.blk.out ∧
          Tab.look (m.half h).coh.hrd w0 = some { line := line, st := kind + 1, ports := [port] } ∧ (m.half h).coh.txns = [t kind] ∧
          ∀ k, k ≠ w0 → Tab.look (m.half h).coh.hrd k = Tab.look u.hrd k))) ∧
    (∀ k e, x.sealedAt off = false → bs.length = 64 → u.hrd = [(k, e)] → Settles (.hostMemRequest h port 3 line bs) s (fun m => m.clk = s.sys.clk ∧
      m.blk.out = s.sys.blk.out ∧ m.mem.host = s.sys.mem.host ∧ memRead m.mem.dev off 64 = bs ∧
      (∀ k, k < off ∨ off + 64 ≤ k → memGet m.mem.dev k = memGet s.sys.mem.dev k) ∧
      (e.line ≠ line → (m.half h).coh = u) ∧ (e.line = line → e.ports = [port] → (m.half h).coh = { u with hrd := [] }) ∧
      (∀ q, e.line = line → e.ports = [port, q] → q ≠ port → (m.half h).coh = { u with hrd := [(k, { e with ports := [q] })] }))) ∧
    (x.sealedAt off → x.hasRoom port →
      (kind < 3 → ∃ v, v.length = 64 ∧ Settles (.hostMemRequest h port kind line bs) s (fun m => s.sys.Quiet m ∧
        m.blk.out = .memRsp (h.num * 2 + port) line 0 v true :: s.sys.blk.out ∧ (m.half h).coh = u ∧
        x.Reported (m.half h) port (mkErr x port 0 0x76 0 1 off none port) ∧
        (m.half h).regFld 0x0600060 63 32 = (x.regFld 0x0600060 63 32 + 1) % 2 ^ 32)) ∧
      Settles (.hostMemRequest h port 3 line bs) s (fun m => s.sys.Quiet m ∧ m.blk.out = s.sys.blk.out ∧ (m.half h).coh = u ∧
        x.Reported (m.half h) port (mkErr x port 0 0x76 0 2 off none port) ∧ (m.half h).regFld 0x0600060 31 0 = (x.regFld 0x0600060 31 0 + 1) % 2 ^ 32)))
  ∧ (∀ (s : State) (h : HalfId) (port line k : Nat) (e : HrdEnt) (bs : List Byte), let x := s.sys.half h
    let u := x.coh
    let off := lineOff line
    u.hrd = [(k, e)] → e.line = line → e.ports = [port] → lineHost line = false →
    (u.txns = [] → Settles (.birsp h port line none) s (fun m => s.sys.CohOnly m h { u with hrd := [] } []) ∧
      (bs.length = 64 → Settles (.birsp h port line (some bs)) s (fun m => m.clk = s.sys.clk ∧ m.mem.host = s.sys.mem.host ∧ m.blk.out = s.sys.blk.out ∧
        (m.half h).coh = { u with hrd := [] } ∧ memRead m.mem.dev off 64 = bs ∧
        ∀ a, a < off ∨ off + 64 ≤ a → memGet m.mem.dev a = memGet s.sys.mem.dev a)) ∧
      (x.hasRoom 9 → Settles (.biTimeout h port line) s (fun m => m.clk = s.sys.clk ∧ m.mem = { s.sys.mem with poison := setAdd s.sys.mem.poison (off / 64) } ∧
        (m.half h).coh = { u with hrd := [] } ∧ x.Reported (m.half h) 9 (mkErr x 9 0 0x24 3 6 off) ∧
        (m.half h).regFld 0x0400050 63 32 = (x.regFld 0x0400050 63 32 + 1) % 2 ^ 32 ∧ ∀ r, r ≠ 0x0400050 → (m.half h).reg r = x.reg r))) ∧
    (∀ t p r a b d, u.txns = [t] → t.line = line → t.bis = [port] → { t with bis := [] }.Ready → t.op = 0x41 → t.who = .chip p r → t.data = none → t.dirty = false →
      t.poison = false → x.tagsOf line = [] → Tab.dflt u.cred p (0, 0, 0) = (a, b, d + 1) → bs.length = 64 →
      Settles (.birsp h port line (some bs)) s (fun m => m.clk = s.sys.clk ∧ (m.half h).coh.hrd = [] ∧ memRead m.mem.dev off 64 = bs ∧
        m.blk.out = .coh h p 0x78 3 r.tid line bs :: s.sys.blk.out ∧ (m.half h).coh.txns = [{ t with bis := [], closing := true }])))
  ∧ (∀ (s : State) (h : HalfId) (port kind line key st : Nat), let x := s.sys.half h
    let u := x.coh
    let pp := h.num * 2 + port
    let counted (hi lo : Nat) (m : Mach) : Prop := (m.half h).regFld 0x0400060 hi lo = (x.regFld 0x0400060 hi lo + 1) % 2 ^ 32 ∧ s.sys.Quiet m ∧
      ∀ r, r ≠ 0x0400060 → (m.half h).reg r = x.reg r
    let waits (em : Bool) (q ty : Nat) : List CohTxn := u.txns ++ [{
      id := u.next, op := if kind = 0 then 0xB0 else 0xB1, line := line, who := .host port kind, opened := true, mask := b2n em,
      snoops := [(q, ty, s.sys.clk.now h)] }]
    (x.tagsOf line = [] → Settles (.hostSnoop h port kind line) s (fun m => counted 31 0 m ∧ m.blk.out = .d2hRsp pp 0 [] false :: s.sys.blk.out ∧
      (m.half h).coh = u)) ∧
    (x.tagsOf line = [(key, st)] → let q := tagPort key
      (st < 3 → kind ≠ 0 → Settles (.hostSnoop h port kind line) s (fun m => counted 31 0 m ∧ m.blk.out = .d2hRsp pp 3 [] false :: s.sys.blk.out ∧
        (m.half h).coh = u)) ∧
      (∀ sn cr, Tab.dflt u.cred q (0, 0, 0) = (sn + 1, cr) → (∀ k ∈ u.txns, k.id ≠ u.next) →
        (st < 3 → kind = 0 → Settles (.hostSnoop h port kind line) s (fun m => counted 63 32 m ∧ (m.half h).coh.txns = waits false q 0x52 ∧
          m.blk.out = [.d2hRsp pp 1 [] false, .coh h q 0x52 0 (u.next % 128) line []] ++ s.sys.blk.out)) ∧
        (3 ≤ st → let ty := if kind = 0 then 0x53 else 0x51
          Settles (.hostSnoop h port kind line) s (fun m => counted 63 32 m ∧ (m.half h).coh.txns = waits true q ty ∧
            m.blk.out = .coh h q ty 0 (u.next % 128) line [] :: s.sys.blk.out)))))
  ∧ (∀ (s : State) (h : HalfId) (p line st a b d : Nat) (bs : List Byte) (t : CohTxn) (r : CohReq), let x := s.sys.half h
    let u := x.coh
    u.txns = [t] → t.line = line → t.go → { t with go := false }.Ready → t.who = .chip p r → t.op = 0x40 ∨ t.op = 0x41 → t.alone → t.data = none → t.dirty = false →
    t.poison = false → lineHost line → Tab.dflt u.cred p (0, 0, 0) = (a, b, d + 1) → let g := if t.op = 0x40 ∧ st ≠ 2 then 2 else 3
    Settles (.cxlCacheGo h line st (some bs)) s (fun m => s.sys.CohOnly m h { u with
        tags := Tab.put (u.setTag p line 0).tags (tagKey p line r.way) (line, g), proxy := Tab.put u.proxy line (if t.op = 0x40 then st else 2)
        txns := [{ t with go := false, data := some bs, closing := true }], cred := Tab.put u.cred p (a, b, d) }
      [.coh h p 0x78 g r.tid line bs]))
end

