-- ==== Sys2Proof/Laws/State.lean ====
section
/-! SUPPORT. What each small update of a half leaves as it was: one lemma per field per update. -/
namespace Sys2Proof.Machine

variable (x : Half)
@[simp] theorem Half.setReg_id (off : Nat) (v : W64) : (x.setReg off v).id = x.id := (rfl)
@[simp] theorem Half.setReg_fuse (off : Nat) (v : W64) : (x.setReg off v).fuse = x.fuse := (rfl)
@[simp] theorem Half.setReg_pins (off : Nat) (v : W64) : (x.setReg off v).pins = x.pins := (rfl)
@[simp] theorem Half.setReg_strap (off : Nat) (v : W64) : (x.setReg off v).strap = x.strap := (rfl)
@[simp] theorem Half.setReg_latched (off : Nat) (v : W64) : (x.setReg off v).latched = x.latched := (rfl)
@[simp] theorem Half.setReg_selMctp (off : Nat) (v : W64) : (x.setReg off v).selMctp = x.selMctp := (rfl)
@[simp] theorem Half.setReg_err (off : Nat) (v : W64) : (x.setReg off v).err = x.err := (rfl)
@[simp] theorem Half.setReg_jnl (off : Nat) (v : W64) : (x.setReg off v).jnl = x.jnl := (rfl)
@[simp] theorem Half.setReg_isl (off : Nat) (v : W64) : (x.setReg off v).isl = x.isl := (rfl)
@[simp] theorem Half.setReg_quads (off : Nat) (v : W64) : (x.setReg off v).quads = x.quads := (rfl)
@[simp] theorem Half.setReg_cones (off : Nat) (v : W64) : (x.setReg off v).cones = x.cones := (rfl)
@[simp] theorem Half.setReg_pwr (off : Nat) (v : W64) : (x.setReg off v).pwr = x.pwr := (rfl)
@[simp] theorem Half.setReg_boot (off : Nat) (v : W64) : (x.setReg off v).boot = x.boot := (rfl)
@[simp] theorem Half.setReg_tdm (off : Nat) (v : W64) : (x.setReg off v).tdm = x.tdm := (rfl)
@[simp] theorem Half.setReg_qos (off : Nat) (v : W64) : (x.setReg off v).qos = x.qos := (rfl)
@[simp] theorem Half.setReg_msix (off : Nat) (v : W64) : (x.setReg off v).msix = x.msix := (rfl)
@[simp] theorem Half.setReg_msgs (off : Nat) (v : W64) : (x.setReg off v).msgs = x.msgs := (rfl)
@[simp] theorem Half.setReg_waiters (off : Nat) (v : W64) : (x.setReg off v).waiters = x.waiters := (rfl)
@[simp] theorem Half.setReg_lastPrio (off : Nat) (v : W64) : (x.setReg off v).lastPrio = x.lastPrio := (rfl)
@[simp] theorem Half.setReg_lastQ (off : Nat) (v : W64) : (x.setReg off v).lastQ = x.lastQ := (rfl)
@[simp] theorem Half.setReg_ports (off : Nat) (v : W64) : (x.setReg off v).ports = x.ports := (rfl)
@[simp] theorem Half.setReg_fns (off : Nat) (v : W64) : (x.setReg off v).fns = x.fns := (rfl)
@[simp] theorem Half.setReg_ptm (off : Nat) (v : W64) : (x.setReg off v).ptm = x.ptm := (rfl)
@[simp] theorem Half.setReg_sec (off : Nat) (v : W64) : (x.setReg off v).sec = x.sec := (rfl)
@[simp] theorem Half.setReg_xlt (off : Nat) (v : W64) : (x.setReg off v).xlt = x.xlt := (rfl)
@[simp] theorem Half.setReg_dma (off : Nat) (v : W64) : (x.setReg off v).dma = x.dma := (rfl)
@[simp] theorem Half.setReg_xfm (off : Nat) (v : W64) : (x.setReg off v).xfm = x.xfm := (rfl)
@[simp] theorem Half.setReg_ware (off : Nat) (v : W64) : (x.setReg off v).ware = x.ware := (rfl)
@[simp] theorem Half.setReg_fab (off : Nat) (v : W64) : (x.setReg off v).fab = x.fab := (rfl)
@[simp] theorem Half.setReg_coh (off : Nat) (v : W64) : (x.setReg off v).coh = x.coh := (rfl)
@[simp] theorem Half.setReg_dies (off : Nat) (v : W64) : (x.setReg off v).dies = x.dies := (rfl)
@[simp] theorem Half.setReg_obj (off : Nat) (v : W64) : (x.setReg off v).obj = x.obj := (rfl)
@[simp] theorem Half.setFld_id (off hi lo v : Nat) : (x.setFld off hi lo v).id = x.id := (rfl)
@[simp] theorem Half.setFld_fuse (off hi lo v : Nat) : (x.setFld off hi lo v).fuse = x.fuse := (rfl)
@[simp] theorem Half.setFld_pins (off hi lo v : Nat) : (x.setFld off hi lo v).pins = x.pins := (rfl)
@[simp] theorem Half.setFld_strap (off hi lo v : Nat) : (x.setFld off hi lo v).strap = x.strap := (rfl)
@[simp] theorem Half.setFld_latched (off hi lo v : Nat) : (x.setFld off hi lo v).latched = x.latched := (rfl)
@[simp] theorem Half.setFld_selMctp (off hi lo v : Nat) : (x.setFld off hi lo v).selMctp = x.selMctp := (rfl)
@[simp] theorem Half.setFld_err (off hi lo v : Nat) : (x.setFld off hi lo v).err = x.err := (rfl)
@[simp] theorem Half.setFld_jnl (off hi lo v : Nat) : (x.setFld off hi lo v).jnl = x.jnl := (rfl)
@[simp] theorem Half.setFld_isl (off hi lo v : Nat) : (x.setFld off hi lo v).isl = x.isl := (rfl)
@[simp] theorem Half.setFld_quads (off hi lo v : Nat) : (x.setFld off hi lo v).quads = x.quads := (rfl)
@[simp] theorem Half.setFld_cones (off hi lo v : Nat) : (x.setFld off hi lo v).cones = x.cones := (rfl)
@[simp] theorem Half.setFld_pwr (off hi lo v : Nat) : (x.setFld off hi lo v).pwr = x.pwr := (rfl)
@[simp] theorem Half.setFld_boot (off hi lo v : Nat) : (x.setFld off hi lo v).boot = x.boot := (rfl)
@[simp] theorem Half.setFld_tdm (off hi lo v : Nat) : (x.setFld off hi lo v).tdm = x.tdm := (rfl)
@[simp] theorem Half.setFld_qos (off hi lo v : Nat) : (x.setFld off hi lo v).qos = x.qos := (rfl)
@[simp] theorem Half.setFld_msix (off hi lo v : Nat) : (x.setFld off hi lo v).msix = x.msix := (rfl)
@[simp] theorem Half.setFld_msgs (off hi lo v : Nat) : (x.setFld off hi lo v).msgs = x.msgs := (rfl)
@[simp] theorem Half.setFld_waiters (off hi lo v : Nat) : (x.setFld off hi lo v).waiters = x.waiters := (rfl)
@[simp] theorem Half.setFld_lastPrio (off hi lo v : Nat) : (x.setFld off hi lo v).lastPrio = x.lastPrio := (rfl)
@[simp] theorem Half.setFld_lastQ (off hi lo v : Nat) : (x.setFld off hi lo v).lastQ = x.lastQ := (rfl)
@[simp] theorem Half.setFld_ports (off hi lo v : Nat) : (x.setFld off hi lo v).ports = x.ports := (rfl)
@[simp] theorem Half.setFld_fns (off hi lo v : Nat) : (x.setFld off hi lo v).fns = x.fns := (rfl)
@[simp] theorem Half.setFld_ptm (off hi lo v : Nat) : (x.setFld off hi lo v).ptm = x.ptm := (rfl)
@[simp] theorem Half.setFld_sec (off hi lo v : Nat) : (x.setFld off hi lo v).sec = x.sec := (rfl)
@[simp] theorem Half.setFld_xlt (off hi lo v : Nat) : (x.setFld off hi lo v).xlt = x.xlt := (rfl)
@[simp] theorem Half.setFld_dma (off hi lo v : Nat) : (x.setFld off hi lo v).dma = x.dma := (rfl)
@[simp] theorem Half.setFld_xfm (off hi lo v : Nat) : (x.setFld off hi lo v).xfm = x.xfm := (rfl)
@[simp] theorem Half.setFld_ware (off hi lo v : Nat) : (x.setFld off hi lo v).ware = x.ware := (rfl)
@[simp] theorem Half.setFld_fab (off hi lo v : Nat) : (x.setFld off hi lo v).fab = x.fab := (rfl)
@[simp] theorem Half.setFld_coh (off hi lo v : Nat) : (x.setFld off hi lo v).coh = x.coh := (rfl)
@[simp] theorem Half.setFld_dies (off hi lo v : Nat) : (x.setFld off hi lo v).dies = x.dies := (rfl)
@[simp] theorem Half.setFld_obj (off hi lo v : Nat) : (x.setFld off hi lo v).obj = x.obj := (rfl)
@[simp] theorem Half.bump_id (off hi lo n : Nat) : (x.bump off hi lo n).id = x.id := (rfl)
@[simp] theorem Half.bump_fuse (off hi lo n : Nat) : (x.bump off hi lo n).fuse = x.fuse := (rfl)
@[simp] theorem Half.bump_pins (off hi lo n : Nat) : (x.bump off hi lo n).pins = x.pins := (rfl)
@[simp] theorem Half.bump_strap (off hi lo n : Nat) : (x.bump off hi lo n).strap = x.strap := (rfl)
@[simp] theorem Half.bump_latched (off hi lo n : Nat) : (x.bump off hi lo n).latched = x.latched := (rfl)
@[simp] theorem Half.bump_selMctp (off hi lo n : Nat) : (x.bump off hi lo n).selMctp = x.selMctp := (rfl)
@[simp] theorem Half.bump_err (off hi lo n : Nat) : (x.bump off hi lo n).err = x.err := (rfl)
@[simp] theorem Half.bump_jnl (off hi lo n : Nat) : (x.bump off hi lo n).jnl = x.jnl := (rfl)
@[simp] theorem Half.bump_isl (off hi lo n : Nat) : (x.bump off hi lo n).isl = x.isl := (rfl)
@[simp] theorem Half.bump_quads (off hi lo n : Nat) : (x.bump off hi lo n).quads = x.quads := (rfl)
@[simp] theorem Half.bump_cones (off hi lo n : Nat) : (x.bump off hi lo n).cones = x.cones := (rfl)
@[simp] theorem Half.bump_pwr (off hi lo n : Nat) : (x.bump off hi lo n).pwr = x.pwr := (rfl)
@[simp] theorem Half.bump_boot (off hi lo n : Nat) : (x.bump off hi lo n).boot = x.boot := (rfl)
@[simp] theorem Half.bump_tdm (off hi lo n : Nat) : (x.bump off hi lo n).tdm = x.tdm := (rfl)
@[simp] theorem Half.bump_qos (off hi lo n : Nat) : (x.bump off hi lo n).qos = x.qos := (rfl)
@[simp] theorem Half.bump_msix (off hi lo n : Nat) : (x.bump off hi lo n).msix = x.msix := (rfl)
@[simp] theorem Half.bump_msgs (off hi lo n : Nat) : (x.bump off hi lo n).msgs = x.msgs := (rfl)
@[simp] theorem Half.bump_waiters (off hi lo n : Nat) : (x.bump off hi lo n).waiters = x.waiters := (rfl)
@[simp] theorem Half.bump_lastPrio (off hi lo n : Nat) : (x.bump off hi lo n).lastPrio = x.lastPrio := (rfl)
@[simp] theorem Half.bump_lastQ (off hi lo n : Nat) : (x.bump off hi lo n).lastQ = x.lastQ := (rfl)
@[simp] theorem Half.bump_ports (off hi lo n : Nat) : (x.bump off hi lo n).ports = x.ports := (rfl)
@[simp] theorem Half.bump_fns (off hi lo n : Nat) : (x.bump off hi lo n).fns = x.fns := (rfl)
@[simp] theorem Half.bump_ptm (off hi lo n : Nat) : (x.bump off hi lo n).ptm = x.ptm := (rfl)
@[simp] theorem Half.bump_sec (off hi lo n : Nat) : (x.bump off hi lo n).sec = x.sec := (rfl)
@[simp] theorem Half.bump_xlt (off hi lo n : Nat) : (x.bump off hi lo n).xlt = x.xlt := (rfl)
@[simp] theorem Half.bump_dma (off hi lo n : Nat) : (x.bump off hi lo n).dma = x.dma := (rfl)
@[simp] theorem Half.bump_xfm (off hi lo n : Nat) : (x.bump off hi lo n).xfm = x.xfm := (rfl)
@[simp] theorem Half.bump_ware (off hi lo n : Nat) : (x.bump off hi lo n).ware = x.ware := (rfl)
@[simp] theorem Half.bump_fab (off hi lo n : Nat) : (x.bump off hi lo n).fab = x.fab := (rfl)
@[simp] theorem Half.bump_coh (off hi lo n : Nat) : (x.bump off hi lo n).coh = x.coh := (rfl)
@[simp] theorem Half.bump_dies (off hi lo n : Nat) : (x.bump off hi lo n).dies = x.dies := (rfl)
@[simp] theorem Half.bump_obj (off hi lo n : Nat) : (x.bump off hi lo n).obj = x.obj := (rfl)
@[simp] theorem Half.bumpSat_id (off hi lo n : Nat) : (x.bumpSat off hi lo n).id = x.id := (rfl)
@[simp] theorem Half.bumpSat_fuse (off hi lo n : Nat) : (x.bumpSat off hi lo n).fuse = x.fuse := (rfl)
@[simp] theorem Half.bumpSat_pins (off hi lo n : Nat) : (x.bumpSat off hi lo n).pins = x.pins := (rfl)
@[simp] theorem Half.bumpSat_strap (off hi lo n : Nat) : (x.bumpSat off hi lo n).strap = x.strap := (rfl)
@[simp] theorem Half.bumpSat_latched (off hi lo n : Nat) : (x.bumpSat off hi lo n).latched = x.latched := (rfl)
@[simp] theorem Half.bumpSat_selMctp (off hi lo n : Nat) : (x.bumpSat off hi lo n).selMctp = x.selMctp := (rfl)
@[simp] theorem Half.bumpSat_err (off hi lo n : Nat) : (x.bumpSat off hi lo n).err = x.err := (rfl)
@[simp] theorem Half.bumpSat_jnl (off hi lo n : Nat) : (x.bumpSat off hi lo n).jnl = x.jnl := (rfl)
@[simp] theorem Half.bumpSat_isl (off hi lo n : Nat) : (x.bumpSat off hi lo n).isl = x.isl := (rfl)
@[simp] theorem Half.bumpSat_quads (off hi lo n : Nat) : (x.bumpSat off hi lo n).quads = x.quads := (rfl)
@[simp] theorem Half.bumpSat_cones (off hi lo n : Nat) : (x.bumpSat off hi lo n).cones = x.cones := (rfl)
@[simp] theorem Half.bumpSat_pwr (off hi lo n : Nat) : (x.bumpSat off hi lo n).pwr = x.pwr := (rfl)
@[simp] theorem Half.bumpSat_boot (off hi lo n : Nat) : (x.bumpSat off hi lo n).boot = x.boot := (rfl)
@[simp] theorem Half.bumpSat_tdm (off hi lo n : Nat) : (x.bumpSat off hi lo n).tdm = x.tdm := (rfl)
@[simp] theorem Half.bumpSat_qos (off hi lo n : Nat) : (x.bumpSat off hi lo n).qos = x.qos := (rfl)
@[simp] theorem Half.bumpSat_msix (off hi lo n : Nat) : (x.bumpSat off hi lo n).msix = x.msix := (rfl)
@[simp] theorem Half.bumpSat_msgs (off hi lo n : Nat) : (x.bumpSat off hi lo n).msgs = x.msgs := (rfl)
@[simp] theorem Half.bumpSat_waiters (off hi lo n : Nat) : (x.bumpSat off hi lo n).waiters = x.waiters := (rfl)
@[simp] theorem Half.bumpSat_lastPrio (off hi lo n : Nat) : (x.bumpSat off hi lo n).lastPrio = x.lastPrio := (rfl)
@[simp] theorem Half.bumpSat_lastQ (off hi lo n : Nat) : (x.bumpSat off hi lo n).lastQ = x.lastQ := (rfl)
@[simp] theorem Half.bumpSat_ports (off hi lo n : Nat) : (x.bumpSat off hi lo n).ports = x.ports := (rfl)
@[simp] theorem Half.bumpSat_fns (off hi lo n : Nat) : (x.bumpSat off hi lo n).fns = x.fns := (rfl)
@[simp] theorem Half.bumpSat_ptm (off hi lo n : Nat) : (x.bumpSat off hi lo n).ptm = x.ptm := (rfl)
@[simp] theorem Half.bumpSat_sec (off hi lo n : Nat) : (x.bumpSat off hi lo n).sec = x.sec := (rfl)
@[simp] theorem Half.bumpSat_xlt (off hi lo n : Nat) : (x.bumpSat off hi lo n).xlt = x.xlt := (rfl)
@[simp] theorem Half.bumpSat_dma (off hi lo n : Nat) : (x.bumpSat off hi lo n).dma = x.dma := (rfl)
@[simp] theorem Half.bumpSat_xfm (off hi lo n : Nat) : (x.bumpSat off hi lo n).xfm = x.xfm := (rfl)
@[simp] theorem Half.bumpSat_ware (off hi lo n : Nat) : (x.bumpSat off hi lo n).ware = x.ware := (rfl)
@[simp] theorem Half.bumpSat_fab (off hi lo n : Nat) : (x.bumpSat off hi lo n).fab = x.fab := (rfl)
@[simp] theorem Half.bumpSat_coh (off hi lo n : Nat) : (x.bumpSat off hi lo n).coh = x.coh := (rfl)
@[simp] theorem Half.bumpSat_dies (off hi lo n : Nat) : (x.bumpSat off hi lo n).dies = x.dies := (rfl)
@[simp] theorem Half.bumpSat_obj (off hi lo n : Nat) : (x.bumpSat off hi lo n).obj = x.obj := (rfl)
@[simp] theorem Half.setBit_id (off i : Nat) : (x.setBit off i).id = x.id := (rfl)
@[simp] theorem Half.setBit_fuse (off i : Nat) : (x.setBit off i).fuse = x.fuse := (rfl)
@[simp] theorem Half.setBit_pins (off i : Nat) : (x.setBit off i).pins = x.pins := (rfl)
@[simp] theorem Half.setBit_strap (off i : Nat) : (x.setBit off i).strap = x.strap := (rfl)
@[simp] theorem Half.setBit_latched (off i : Nat) : (x.setBit off i).latched = x.latched := (rfl)
@[simp] theorem Half.setBit_selMctp (off i : Nat) : (x.setBit off i).selMctp = x.selMctp := (rfl)
@[simp] theorem Half.setBit_err (off i : Nat) : (x.setBit off i).err = x.err := (rfl)
@[simp] theorem Half.setBit_jnl (off i : Nat) : (x.setBit off i).jnl = x.jnl := (rfl)
@[simp] theorem Half.setBit_isl (off i : Nat) : (x.setBit off i).isl = x.isl := (rfl)
@[simp] theorem Half.setBit_quads (off i : Nat) : (x.setBit off i).quads = x.quads := (rfl)
@[simp] theorem Half.setBit_cones (off i : Nat) : (x.setBit off i).cones = x.cones := (rfl)
@[simp] theorem Half.setBit_pwr (off i : Nat) : (x.setBit off i).pwr = x.pwr := (rfl)
@[simp] theorem Half.setBit_boot (off i : Nat) : (x.setBit off i).boot = x.boot := (rfl)
@[simp] theorem Half.setBit_tdm (off i : Nat) : (x.setBit off i).tdm = x.tdm := (rfl)
@[simp] theorem Half.setBit_qos (off i : Nat) : (x.setBit off i).qos = x.qos := (rfl)
@[simp] theorem Half.setBit_msix (off i : Nat) : (x.setBit off i).msix = x.msix := (rfl)
@[simp] theorem Half.setBit_msgs (off i : Nat) : (x.setBit off i).msgs = x.msgs := (rfl)
@[simp] theorem Half.setBit_waiters (off i : Nat) : (x.setBit off i).waiters = x.waiters := (rfl)
@[simp] theorem Half.setBit_lastPrio (off i : Nat) : (x.setBit off i).lastPrio = x.lastPrio := (rfl)
@[simp] theorem Half.setBit_lastQ (off i : Nat) : (x.setBit off i).lastQ = x.lastQ := (rfl)
@[simp] theorem Half.setBit_ports (off i : Nat) : (x.setBit off i).ports = x.ports := (rfl)
@[simp] theorem Half.setBit_fns (off i : Nat) : (x.setBit off i).fns = x.fns := (rfl)
@[simp] theorem Half.setBit_ptm (off i : Nat) : (x.setBit off i).ptm = x.ptm := (rfl)
@[simp] theorem Half.setBit_sec (off i : Nat) : (x.setBit off i).sec = x.sec := (rfl)
@[simp] theorem Half.setBit_xlt (off i : Nat) : (x.setBit off i).xlt = x.xlt := (rfl)
@[simp] theorem Half.setBit_dma (off i : Nat) : (x.setBit off i).dma = x.dma := (rfl)
@[simp] theorem Half.setBit_xfm (off i : Nat) : (x.setBit off i).xfm = x.xfm := (rfl)
@[simp] theorem Half.setBit_ware (off i : Nat) : (x.setBit off i).ware = x.ware := (rfl)
@[simp] theorem Half.setBit_fab (off i : Nat) : (x.setBit off i).fab = x.fab := (rfl)
@[simp] theorem Half.setBit_coh (off i : Nat) : (x.setBit off i).coh = x.coh := (rfl)
@[simp] theorem Half.setBit_dies (off i : Nat) : (x.setBit off i).dies = x.dies := (rfl)
@[simp] theorem Half.setBit_obj (off i : Nat) : (x.setBit off i).obj = x.obj := (rfl)
@[simp] theorem Half.journal_id (t : Nat) (o : Origin) (c ob a b : Nat) : (x.journal t o c ob a b).id = x.id := (rfl)
@[simp] theorem Half.journal_fuse (t : Nat) (o : Origin) (c ob a b : Nat) : (x.journal t o c ob a b).fuse = x.fuse := (rfl)
@[simp] theorem Half.journal_pins (t : Nat) (o : Origin) (c ob a b : Nat) : (x.journal t o c ob a b).pins = x.pins := (rfl)
@[simp] theorem Half.journal_strap (t : Nat) (o : Origin) (c ob a b : Nat) : (x.journal t o c ob a b).strap = x.strap := (rfl)
@[simp] theorem Half.journal_latched (t : Nat) (o : Origin) (c ob a b : Nat) : (x.journal t o c ob a b).latched = x.latched := (rfl)
@[simp] theorem Half.journal_regs (t : Nat) (o : Origin) (c ob a b : Nat) : (x.journal t o c ob a b).regs = x.regs := (rfl)
@[simp] theorem Half.journal_selMctp (t : Nat) (o : Origin) (c ob a b : Nat) : (x.journal t o c ob a b).selMctp = x.selMctp := (rfl)
@[simp] theorem Half.journal_err (t : Nat) (o : Origin) (c ob a b : Nat) : (x.journal t o c ob a b).err = x.err := (rfl)
@[simp] theorem Half.journal_isl (t : Nat) (o : Origin) (c ob a b : Nat) : (x.journal t o c ob a b).isl = x.isl := (rfl)
@[simp] theorem Half.journal_quads (t : Nat) (o : Origin) (c ob a b : Nat) : (x.journal t o c ob a b).quads = x.quads := (rfl)
@[simp] theorem Half.journal_cones (t : Nat) (o : Origin) (c ob a b : Nat) : (x.journal t o c ob a b).cones = x.cones := (rfl)
@[simp] theorem Half.journal_pwr (t : Nat) (o : Origin) (c ob a b : Nat) : (x.journal t o c ob a b).pwr = x.pwr := (rfl)
@[simp] theorem Half.journal_boot (t : Nat) (o : Origin) (c ob a b : Nat) : (x.journal t o c ob a b).boot = x.boot := (rfl)
@[simp] theorem Half.journal_tdm (t : Nat) (o : Origin) (c ob a b : Nat) : (x.journal t o c ob a b).tdm = x.tdm := (rfl)
@[simp] theorem Half.journal_qos (t : Nat) (o : Origin) (c ob a b : Nat) : (x.journal t o c ob a b).qos = x.qos := (rfl)
@[simp] theorem Half.journal_msix (t : Nat) (o : Origin) (c ob a b : Nat) : (x.journal t o c ob a b).msix = x.msix := (rfl)
@[simp] theorem Half.journal_msgs (t : Nat) (o : Origin) (c ob a b : Nat) : (x.journal t o c ob a b).msgs = x.msgs := (rfl)
@[simp] theorem Half.journal_waiters (t : Nat) (o : Origin) (c ob a b : Nat) : (x.journal t o c ob a b).waiters = x.waiters := (rfl)
@[simp] theorem Half.journal_lastPrio (t : Nat) (o : Origin) (c ob a b : Nat) : (x.journal t o c ob a b).lastPrio = x.lastPrio := (rfl)
@[simp] theorem Half.journal_lastQ (t : Nat) (o : Origin) (c ob a b : Nat) : (x.journal t o c ob a b).lastQ = x.lastQ := (rfl)
@[simp] theorem Half.journal_ports (t : Nat) (o : Origin) (c ob a b : Nat) : (x.journal t o c ob a b).ports = x.ports := (rfl)
@[simp] theorem Half.journal_fns (t : Nat) (o : Origin) (c ob a b : Nat) : (x.journal t o c ob a b).fns = x.fns := (rfl)
@[simp] theorem Half.journal_ptm (t : Nat) (o : Origin) (c ob a b : Nat) : (x.journal t o c ob a b).ptm = x.ptm := (rfl)
@[simp] theorem Half.journal_sec (t : Nat) (o : Origin) (c ob a b : Nat) : (x.journal t o c ob a b).sec = x.sec := (rfl)
@[simp] theorem Half.journal_xlt (t : Nat) (o : Origin) (c ob a b : Nat) : (x.journal t o c ob a b).xlt = x.xlt := (rfl)
@[simp] theorem Half.journal_dma (t : Nat) (o : Origin) (c ob a b : Nat) : (x.journal t o c ob a b).dma = x.dma := (rfl)
@[simp] theorem Half.journal_xfm (t : Nat) (o : Origin) (c ob a b : Nat) : (x.journal t o c ob a b).xfm = x.xfm := (rfl)
@[simp] theorem Half.journal_ware (t : Nat) (o : Origin) (c ob a b : Nat) : (x.journal t o c ob a b).ware = x.ware := (rfl)
@[simp] theorem Half.journal_fab (t : Nat) (o : Origin) (c ob a b : Nat) : (x.journal t o c ob a b).fab = x.fab := (rfl)
@[simp] theorem Half.journal_coh (t : Nat) (o : Origin) (c ob a b : Nat) : (x.journal t o c ob a b).coh = x.coh := (rfl)
@[simp] theorem Half.journal_dies (t : Nat) (o : Origin) (c ob a b : Nat) : (x.journal t o c ob a b).dies = x.dies := (rfl)
@[simp] theorem Half.journal_obj (t : Nat) (o : Origin) (c ob a b : Nat) : (x.journal t o c ob a b).obj = x.obj := (rfl)
@[simp] theorem Half.updIsland_id (i : Nat) (f : Island → Island) : (x.updIsland i f).id = x.id := (rfl)
@[simp] theorem Half.updIsland_fuse (i : Nat) (f : Island → Island) : (x.updIsland i f).fuse = x.fuse := (rfl)
@[simp] theorem Half.updIsland_pins (i : Nat) (f : Island → Island) : (x.updIsland i f).pins = x.pins := (rfl)
@[simp] theorem Half.updIsland_strap (i : Nat) (f : Island → Island) : (x.updIsland i f).strap = x.strap := (rfl)
@[simp] theorem Half.updIsland_latched (i : Nat) (f : Island → Island) : (x.updIsland i f).latched = x.latched := (rfl)
@[simp] theorem Half.updIsland_regs (i : Nat) (f : Island → Island) : (x.updIsland i f).regs = x.regs := (rfl)
@[simp] theorem Half.updIsland_selMctp (i : Nat) (f : Island → Island) : (x.updIsland i f).selMctp = x.selMctp := (rfl)
@[simp] theorem Half.updIsland_err (i : Nat) (f : Island → Island) : (x.updIsland i f).err = x.err := (rfl)
@[simp] theorem Half.updIsland_jnl (i : Nat) (f : Island → Island) : (x.updIsland i f).jnl = x.jnl := (rfl)
@[simp] theorem Half.updIsland_quads (i : Nat) (f : Island → Island) : (x.updIsland i f).quads = x.quads := (rfl)
@[simp] theorem Half.updIsland_cones (i : Nat) (f : Island → Island) : (x.updIsland i f).cones = x.cones := (rfl)
@[simp] theorem Half.updIsland_pwr (i : Nat) (f : Island → Island) : (x.updIsland i f).pwr = x.pwr := (rfl)
@[simp] theorem Half.updIsland_boot (i : Nat) (f : Island → Island) : (x.updIsland i f).boot = x.boot := (rfl)
@[simp] theorem Half.updIsland_tdm (i : Nat) (f : Island → Island) : (x.updIsland i f).tdm = x.tdm := (rfl)
@[simp] theorem Half.updIsland_qos (i : Nat) (f : Island → Island) : (x.updIsland i f).qos = x.qos := (rfl)
@[simp] theorem Half.updIsland_msix (i : Nat) (f : Island → Island) : (x.updIsland i f).msix = x.msix := (rfl)
@[simp] theorem Half.updIsland_msgs (i : Nat) (f : Island → Island) : (x.updIsland i f).msgs = x.msgs := (rfl)
@[simp] theorem Half.updIsland_waiters (i : Nat) (f : Island → Island) : (x.updIsland i f).waiters = x.waiters := (rfl)
@[simp] theorem Half.updIsland_lastPrio (i : Nat) (f : Island → Island) : (x.updIsland i f).lastPrio = x.lastPrio := (rfl)
@[simp] theorem Half.updIsland_lastQ (i : Nat) (f : Island → Island) : (x.updIsland i f).lastQ = x.lastQ := (rfl)
@[simp] theorem Half.updIsland_ports (i : Nat) (f : Island → Island) : (x.updIsland i f).ports = x.ports := (rfl)
@[simp] theorem Half.updIsland_fns (i : Nat) (f : Island → Island) : (x.updIsland i f).fns = x.fns := (rfl)
@[simp] theorem Half.updIsland_ptm (i : Nat) (f : Island → Island) : (x.updIsland i f).ptm = x.ptm := (rfl)
@[simp] theorem Half.updIsland_sec (i : Nat) (f : Island → Island) : (x.updIsland i f).sec = x.sec := (rfl)
@[simp] theorem Half.updIsland_xlt (i : Nat) (f : Island → Island) : (x.updIsland i f).xlt = x.xlt := (rfl)
@[simp] theorem Half.updIsland_dma (i : Nat) (f : Island → Island) : (x.updIsland i f).dma = x.dma := (rfl)
@[simp] theorem Half.updIsland_xfm (i : Nat) (f : Island → Island) : (x.updIsland i f).xfm = x.xfm := (rfl)
@[simp] theorem Half.updIsland_ware (i : Nat) (f : Island → Island) : (x.updIsland i f).ware = x.ware := (rfl)
@[simp] theorem Half.updIsland_fab (i : Nat) (f : Island → Island) : (x.updIsland i f).fab = x.fab := (rfl)
@[simp] theorem Half.updIsland_coh (i : Nat) (f : Island → Island) : (x.updIsland i f).coh = x.coh := (rfl)
@[simp] theorem Half.updIsland_dies (i : Nat) (f : Island → Island) : (x.updIsland i f).dies = x.dies := (rfl)
@[simp] theorem Half.updIsland_obj (i : Nat) (f : Island → Island) : (x.updIsland i f).obj = x.obj := (rfl)
@[simp] theorem Half.updQuad_id (q : Nat) (f : Quad → Quad) : (x.updQuad q f).id = x.id := (rfl)
@[simp] theorem Half.updQuad_fuse (q : Nat) (f : Quad → Quad) : (x.updQuad q f).fuse = x.fuse := (rfl)
@[simp] theorem Half.updQuad_pins (q : Nat) (f : Quad → Quad) : (x.updQuad q f).pins = x.pins := (rfl)
@[simp] theorem Half.updQuad_strap (q : Nat) (f : Quad → Quad) : (x.updQuad q f).strap = x.strap := (rfl)
@[simp] theorem Half.updQuad_latched (q : Nat) (f : Quad → Quad) : (x.updQuad q f).latched = x.latched := (rfl)
@[simp] theorem Half.updQuad_regs (q : Nat) (f : Quad → Quad) : (x.updQuad q f).regs = x.regs := (rfl)
@[simp] theorem Half.updQuad_selMctp (q : Nat) (f : Quad → Quad) : (x.updQuad q f).selMctp = x.selMctp := (rfl)
@[simp] theorem Half.updQuad_err (q : Nat) (f : Quad → Quad) : (x.updQuad q f).err = x.err := (rfl)
@[simp] theorem Half.updQuad_jnl (q : Nat) (f : Quad → Quad) : (x.updQuad q f).jnl = x.jnl := (rfl)
@[simp] theorem Half.updQuad_isl (q : Nat) (f : Quad → Quad) : (x.updQuad q f).isl = x.isl := (rfl)
@[simp] theorem Half.updQuad_cones (q : Nat) (f : Quad → Quad) : (x.updQuad q f).cones = x.cones := (rfl)
@[simp] theorem Half.updQuad_pwr (q : Nat) (f : Quad → Quad) : (x.updQuad q f).pwr = x.pwr := (rfl)
@[simp] theorem Half.updQuad_boot (q : Nat) (f : Quad → Quad) : (x.updQuad q f).boot = x.boot := (rfl)
@[simp] theorem Half.updQuad_tdm (q : Nat) (f : Quad → Quad) : (x.updQuad q f).tdm = x.tdm := (rfl)
@[simp] theorem Half.updQuad_qos (q : Nat) (f : Quad → Quad) : (x.updQuad q f).qos = x.qos := (rfl)
@[simp] theorem Half.updQuad_msix (q : Nat) (f : Quad → Quad) : (x.updQuad q f).msix = x.msix := (rfl)
@[simp] theorem Half.updQuad_msgs (q : Nat) (f : Quad → Quad) : (x.updQuad q f).msgs = x.msgs := (rfl)
@[simp] theorem Half.updQuad_waiters (q : Nat) (f : Quad → Quad) : (x.updQuad q f).waiters = x.waiters := (rfl)
@[simp] theorem Half.updQuad_lastPrio (q : Nat) (f : Quad → Quad) : (x.updQuad q f).lastPrio = x.lastPrio := (rfl)
@[simp] theorem Half.updQuad_lastQ (q : Nat) (f : Quad → Quad) : (x.updQuad q f).lastQ = x.lastQ := (rfl)
@[simp] theorem Half.updQuad_ports (q : Nat) (f : Quad → Quad) : (x.updQuad q f).ports = x.ports := (rfl)
@[simp] theorem Half.updQuad_fns (q : Nat) (f : Quad → Quad) : (x.updQuad q f).fns = x.fns := (rfl)
@[simp] theorem Half.updQuad_ptm (q : Nat) (f : Quad → Quad) : (x.updQuad q f).ptm = x.ptm := (rfl)
@[simp] theorem Half.updQuad_sec (q : Nat) (f : Quad → Quad) : (x.updQuad q f).sec = x.sec := (rfl)
@[simp] theorem Half.updQuad_xlt (q : Nat) (f : Quad → Quad) : (x.updQuad q f).xlt = x.xlt := (rfl)
@[simp] theorem Half.updQuad_dma (q : Nat) (f : Quad → Quad) : (x.updQuad q f).dma = x.dma := (rfl)
@[simp] theorem Half.updQuad_xfm (q : Nat) (f : Quad → Quad) : (x.updQuad q f).xfm = x.xfm := (rfl)
@[simp] theorem Half.updQuad_ware (q : Nat) (f : Quad → Quad) : (x.updQuad q f).ware = x.ware := (rfl)
@[simp] theorem Half.updQuad_fab (q : Nat) (f : Quad → Quad) : (x.updQuad q f).fab = x.fab := (rfl)
@[simp] theorem Half.updQuad_coh (q : Nat) (f : Quad → Quad) : (x.updQuad q f).coh = x.coh := (rfl)
@[simp] theorem Half.updQuad_dies (q : Nat) (f : Quad → Quad) : (x.updQuad q f).dies = x.dies := (rfl)
@[simp] theorem Half.updQuad_obj (q : Nat) (f : Quad → Quad) : (x.updQuad q f).obj = x.obj := (rfl)
@[simp] theorem Half.updPort_id (p : Nat) (f : HostPort → HostPort) : (x.updPort p f).id = x.id := (rfl)
@[simp] theorem Half.updPort_fuse (p : Nat) (f : HostPort → HostPort) : (x.updPort p f).fuse = x.fuse := (rfl)
@[simp] theorem Half.updPort_pins (p : Nat) (f : HostPort → HostPort) : (x.updPort p f).pins = x.pins := (rfl)
@[simp] theorem Half.updPort_strap (p : Nat) (f : HostPort → HostPort) : (x.updPort p f).strap = x.strap := (rfl)
@[simp] theorem Half.updPort_latched (p : Nat) (f : HostPort → HostPort) : (x.updPort p f).latched = x.latched := (rfl)
@[simp] theorem Half.updPort_regs (p : Nat) (f : HostPort → HostPort) : (x.updPort p f).regs = x.regs := (rfl)
@[simp] theorem Half.updPort_selMctp (p : Nat) (f : HostPort → HostPort) : (x.updPort p f).selMctp = x.selMctp := (rfl)
@[simp] theorem Half.updPort_err (p : Nat) (f : HostPort → HostPort) : (x.updPort p f).err = x.err := (rfl)
@[simp] theorem Half.updPort_jnl (p : Nat) (f : HostPort → HostPort) : (x.updPort p f).jnl = x.jnl := (rfl)
@[simp] theorem Half.updPort_isl (p : Nat) (f : HostPort → HostPort) : (x.updPort p f).isl = x.isl := (rfl)
@[simp] theorem Half.updPort_quads (p : Nat) (f : HostPort → HostPort) : (x.updPort p f).quads = x.quads := (rfl)
@[simp] theorem Half.updPort_cones (p : Nat) (f : HostPort → HostPort) : (x.updPort p f).cones = x.cones := (rfl)
@[simp] theorem Half.updPort_pwr (p : Nat) (f : HostPort → HostPort) : (x.updPort p f).pwr = x.pwr := (rfl)
@[simp] theorem Half.updPort_boot (p : Nat) (f : HostPort → HostPort) : (x.updPort p f).boot = x.boot := (rfl)
@[simp] theorem Half.updPort_tdm (p : Nat) (f : HostPort → HostPort) : (x.updPort p f).tdm = x.tdm := (rfl)
@[simp] theorem Half.updPort_qos (p : Nat) (f : HostPort → HostPort) : (x.updPort p f).qos = x.qos := (rfl)
@[simp] theorem Half.updPort_msix (p : Nat) (f : HostPort → HostPort) : (x.updPort p f).msix = x.msix := (rfl)
@[simp] theorem Half.updPort_msgs (p : Nat) (f : HostPort → HostPort) : (x.updPort p f).msgs = x.msgs := (rfl)
@[simp] theorem Half.updPort_waiters (p : Nat) (f : HostPort → HostPort) : (x.updPort p f).waiters = x.waiters := (rfl)
@[simp] theorem Half.updPort_lastPrio (p : Nat) (f : HostPort → HostPort) : (x.updPort p f).lastPrio = x.lastPrio := (rfl)
@[simp] theorem Half.updPort_lastQ (p : Nat) (f : HostPort → HostPort) : (x.updPort p f).lastQ = x.lastQ := (rfl)
@[simp] theorem Half.updPort_fns (p : Nat) (f : HostPort → HostPort) : (x.updPort p f).fns = x.fns := (rfl)
@[simp] theorem Half.updPort_ptm (p : Nat) (f : HostPort → HostPort) : (x.updPort p f).ptm = x.ptm := (rfl)
@[simp] theorem Half.updPort_sec (p : Nat) (f : HostPort → HostPort) : (x.updPort p f).sec = x.sec := (rfl)
@[simp] theorem Half.updPort_xlt (p : Nat) (f : HostPort → HostPort) : (x.updPort p f).xlt = x.xlt := (rfl)
@[simp] theorem Half.updPort_dma (p : Nat) (f : HostPort → HostPort) : (x.updPort p f).dma = x.dma := (rfl)
@[simp] theorem Half.updPort_xfm (p : Nat) (f : HostPort → HostPort) : (x.updPort p f).xfm = x.xfm := (rfl)
@[simp] theorem Half.updPort_ware (p : Nat) (f : HostPort → HostPort) : (x.updPort p f).ware = x.ware := (rfl)
@[simp] theorem Half.updPort_fab (p : Nat) (f : HostPort → HostPort) : (x.updPort p f).fab = x.fab := (rfl)
@[simp] theorem Half.updPort_coh (p : Nat) (f : HostPort → HostPort) : (x.updPort p f).coh = x.coh := (rfl)
@[simp] theorem Half.updPort_dies (p : Nat) (f : HostPort → HostPort) : (x.updPort p f).dies = x.dies := (rfl)
@[simp] theorem Half.updPort_obj (p : Nat) (f : HostPort → HostPort) : (x.updPort p f).obj = x.obj := (rfl)
@[simp] theorem Half.updFn_id (p v : Nat) (f : Fn → Fn) : (x.updFn p v f).id = x.id := (rfl)
@[simp] theorem Half.updFn_fuse (p v : Nat) (f : Fn → Fn) : (x.updFn p v f).fuse = x.fuse := (rfl)
@[simp] theorem Half.updFn_pins (p v : Nat) (f : Fn → Fn) : (x.updFn p v f).pins = x.pins := (rfl)
@[simp] theorem Half.updFn_strap (p v : Nat) (f : Fn → Fn) : (x.updFn p v f).strap = x.strap := (rfl)
@[simp] theorem Half.updFn_latched (p v : Nat) (f : Fn → Fn) : (x.updFn p v f).latched = x.latched := (rfl)
@[simp] theorem Half.updFn_regs (p v : Nat) (f : Fn → Fn) : (x.updFn p v f).regs = x.regs := (rfl)
@[simp] theorem Half.updFn_selMctp (p v : Nat) (f : Fn → Fn) : (x.updFn p v f).selMctp = x.selMctp := (rfl)
@[simp] theorem Half.updFn_err (p v : Nat) (f : Fn → Fn) : (x.updFn p v f).err = x.err := (rfl)
@[simp] theorem Half.updFn_jnl (p v : Nat) (f : Fn → Fn) : (x.updFn p v f).jnl = x.jnl := (rfl)
@[simp] theorem Half.updFn_isl (p v : Nat) (f : Fn → Fn) : (x.updFn p v f).isl = x.isl := (rfl)
@[simp] theorem Half.updFn_quads (p v : Nat) (f : Fn → Fn) : (x.updFn p v f).quads = x.quads := (rfl)
@[simp] theorem Half.updFn_cones (p v : Nat) (f : Fn → Fn) : (x.updFn p v f).cones = x.cones := (rfl)
@[simp] theorem Half.updFn_pwr (p v : Nat) (f : Fn → Fn) : (x.updFn p v f).pwr = x.pwr := (rfl)
@[simp] theorem Half.updFn_boot (p v : Nat) (f : Fn → Fn) : (x.updFn p v f).boot = x.boot := (rfl)
@[simp] theorem Half.updFn_tdm (p v : Nat) (f : Fn → Fn) : (x.updFn p v f).tdm = x.tdm := (rfl)
@[simp] theorem Half.updFn_qos (p v : Nat) (f : Fn → Fn) : (x.updFn p v f).qos = x.qos := (rfl)
@[simp] theorem Half.updFn_msix (p v : Nat) (f : Fn → Fn) : (x.updFn p v f).msix = x.msix := (rfl)
@[simp] theorem Half.updFn_msgs (p v : Nat) (f : Fn → Fn) : (x.updFn p v f).msgs = x.msgs := (rfl)
@[simp] theorem Half.updFn_waiters (p v : Nat) (f : Fn → Fn) : (x.updFn p v f).waiters = x.waiters := (rfl)
@[simp] theorem Half.updFn_lastPrio (p v : Nat) (f : Fn → Fn) : (x.updFn p v f).lastPrio = x.lastPrio := (rfl)
@[simp] theorem Half.updFn_lastQ (p v : Nat) (f : Fn → Fn) : (x.updFn p v f).lastQ = x.lastQ := (rfl)
@[simp] theorem Half.updFn_ports (p v : Nat) (f : Fn → Fn) : (x.updFn p v f).ports = x.ports := (rfl)
@[simp] theorem Half.updFn_ptm (p v : Nat) (f : Fn → Fn) : (x.updFn p v f).ptm = x.ptm := (rfl)
@[simp] theorem Half.updFn_sec (p v : Nat) (f : Fn → Fn) : (x.updFn p v f).sec = x.sec := (rfl)
@[simp] theorem Half.updFn_xlt (p v : Nat) (f : Fn → Fn) : (x.updFn p v f).xlt = x.xlt := (rfl)
@[simp] theorem Half.updFn_dma (p v : Nat) (f : Fn → Fn) : (x.updFn p v f).dma = x.dma := (rfl)
@[simp] theorem Half.updFn_xfm (p v : Nat) (f : Fn → Fn) : (x.updFn p v f).xfm = x.xfm := (rfl)
@[simp] theorem Half.updFn_ware (p v : Nat) (f : Fn → Fn) : (x.updFn p v f).ware = x.ware := (rfl)
@[simp] theorem Half.updFn_fab (p v : Nat) (f : Fn → Fn) : (x.updFn p v f).fab = x.fab := (rfl)
@[simp] theorem Half.updFn_coh (p v : Nat) (f : Fn → Fn) : (x.updFn p v f).coh = x.coh := (rfl)
@[simp] theorem Half.updFn_dies (p v : Nat) (f : Fn → Fn) : (x.updFn p v f).dies = x.dies := (rfl)
@[simp] theorem Half.updFn_obj (p v : Nat) (f : Fn → Fn) : (x.updFn p v f).obj = x.obj := (rfl)
@[simp] theorem Half.raise_id (i : Nat) (m : ErrMsg) : (x.raise i m).id = x.id := by
  unfold Half.raise
  generalize x.err.enter i m = e
  cases e with
  | some e => rfl
  | none => exact (Half.setBit_id _ _ _).trans (Half.bump_id _ _ _ _ _)
@[simp] theorem Half.raiseErr_id (i u k s : Nat) (a : Nat) (ad : Nat) (p : Option Nat) (g : Nat) :
    (x.raiseErr i u k s a ad p g).id = x.id := x.raise_id i _
@[simp] theorem Half.raise_fuse (i : Nat) (m : ErrMsg) : (x.raise i m).fuse = x.fuse := by
  unfold Half.raise
  generalize x.err.enter i m = e
  cases e with
  | some e => rfl
  | none => exact (Half.setBit_fuse _ _ _).trans (Half.bump_fuse _ _ _ _ _)
@[simp] theorem Half.raiseErr_fuse (i u k s : Nat) (a : Nat) (ad : Nat) (p : Option Nat) (g : Nat) :
    (x.raiseErr i u k s a ad p g).fuse = x.fuse := x.raise_fuse i _
@[simp] theorem Half.raise_pins (i : Nat) (m : ErrMsg) : (x.raise i m).pins = x.pins := by
  unfold Half.raise
  generalize x.err.enter i m = e
  cases e with
  | some e => rfl
  | none => exact (Half.setBit_pins _ _ _).trans (Half.bump_pins _ _ _ _ _)
@[simp] theorem Half.raiseErr_pins (i u k s : Nat) (a : Nat) (ad : Nat) (p : Option Nat) (g : Nat) :
    (x.raiseErr i u k s a ad p g).pins = x.pins := x.raise_pins i _
@[simp] theorem Half.raise_strap (i : Nat) (m : ErrMsg) : (x.raise i m).strap = x.strap := by
  unfold Half.raise
  generalize x.err.enter i m = e
  cases e with
  | some e => rfl
  | none => exact (Half.setBit_strap _ _ _).trans (Half.bump_strap _ _ _ _ _)
@[simp] theorem Half.raiseErr_strap (i u k s : Nat) (a : Nat) (ad : Nat) (p : Option Nat) (g : Nat) :
    (x.raiseErr i u k s a ad p g).strap = x.strap := x.raise_strap i _
@[simp] theorem Half.raise_latched (i : Nat) (m : ErrMsg) : (x.raise i m).latched = x.latched := by
  unfold Half.raise
  generalize x.err.enter i m = e
  cases e with
  | some e => rfl
  | none => exact (Half.setBit_latched _ _ _).trans (Half.bump_latched _ _ _ _ _)
@[simp] theorem Half.raiseErr_latched (i u k s : Nat) (a : Nat) (ad : Nat) (p : Option Nat) (g : Nat) :
    (x.raiseErr i u k s a ad p g).latched = x.latched := x.raise_latched i _
@[simp] theorem Half.raise_selMctp (i : Nat) (m : ErrMsg) : (x.raise i m).selMctp = x.selMctp := by
  unfold Half.raise
  generalize x.err.enter i m = e
  cases e with
  | some e => rfl
  | none => exact (Half.setBit_selMctp _ _ _).trans (Half.bump_selMctp _ _ _ _ _)
@[simp] theorem Half.raiseErr_selMctp (i u k s : Nat) (a : Nat) (ad : Nat) (p : Option Nat) (g : Nat) :
    (x.raiseErr i u k s a ad p g).selMctp = x.selMctp := x.raise_selMctp i _
@[simp] theorem Half.raise_jnl (i : Nat) (m : ErrMsg) : (x.raise i m).jnl = x.jnl := by
  unfold Half.raise
  generalize x.err.enter i m = e
  cases e with
  | some e => rfl
  | none => exact (Half.setBit_jnl _ _ _).trans (Half.bump_jnl _ _ _ _ _)
@[simp] theorem Half.raiseErr_jnl (i u k s : Nat) (a : Nat) (ad : Nat) (p : Option Nat) (g : Nat) :
    (x.raiseErr i u k s a ad p g).jnl = x.jnl := x.raise_jnl i _
@[simp] theorem Half.raise_isl (i : Nat) (m : ErrMsg) : (x.raise i m).isl = x.isl := by
  unfold Half.raise
  generalize x.err.enter i m = e
  cases e with
  | some e => rfl
  | none => exact (Half.setBit_isl _ _ _).trans (Half.bump_isl _ _ _ _ _)
@[simp] theorem Half.raiseErr_isl (i u k s : Nat) (a : Nat) (ad : Nat) (p : Option Nat) (g : Nat) :
    (x.raiseErr i u k s a ad p g).isl = x.isl := x.raise_isl i _
@[simp] theorem Half.raise_quads (i : Nat) (m : ErrMsg) : (x.raise i m).quads = x.quads := by
  unfold Half.raise
  generalize x.err.enter i m = e
  cases e with
  | some e => rfl
  | none => exact (Half.setBit_quads _ _ _).trans (Half.bump_quads _ _ _ _ _)
@[simp] theorem Half.raiseErr_quads (i u k s : Nat) (a : Nat) (ad : Nat) (p : Option Nat) (g : Nat) :
    (x.raiseErr i u k s a ad p g).quads = x.quads := x.raise_quads i _
@[simp] theorem Half.raise_cones (i : Nat) (m : ErrMsg) : (x.raise i m).cones = x.cones := by
  unfold Half.raise
  generalize x.err.enter i m = e
  cases e with
  | some e => rfl
  | none => exact (Half.setBit_cones _ _ _).trans (Half.bump_cones _ _ _ _ _)
@[simp] theorem Half.raiseErr_cones (i u k s : Nat) (a : Nat) (ad : Nat) (p : Option Nat) (g : Nat) :
    (x.raiseErr i u k s a ad p g).cones = x.cones := x.raise_cones i _
@[simp] theorem Half.raise_pwr (i : Nat) (m : ErrMsg) : (x.raise i m).pwr = x.pwr := by
  unfold Half.raise
  generalize x.err.enter i m = e
  cases e with
  | some e => rfl
  | none => exact (Half.setBit_pwr _ _ _).trans (Half.bump_pwr _ _ _ _ _)
@[simp] theorem Half.raiseErr_pwr (i u k s : Nat) (a : Nat) (ad : Nat) (p : Option Nat) (g : Nat) :
    (x.raiseErr i u k s a ad p g).pwr = x.pwr := x.raise_pwr i _
@[simp] theorem Half.raise_boot (i : Nat) (m : ErrMsg) : (x.raise i m).boot = x.boot := by
  unfold Half.raise
  generalize x.err.enter i m = e
  cases e with
  | some e => rfl
  | none => exact (Half.setBit_boot _ _ _).trans (Half.bump_boot _ _ _ _ _)
@[simp] theorem Half.raiseErr_boot (i u k s : Nat) (a : Nat) (ad : Nat) (p : Option Nat) (g : Nat) :
    (x.raiseErr i u k s a ad p g).boot = x.boot := x.raise_boot i _
@[simp] theorem Half.raise_tdm (i : Nat) (m : ErrMsg) : (x.raise i m).tdm = x.tdm := by
  unfold Half.raise
  generalize x.err.enter i m = e
  cases e with
  | some e => rfl
  | none => exact (Half.setBit_tdm _ _ _).trans (Half.bump_tdm _ _ _ _ _)
@[simp] theorem Half.raiseErr_tdm (i u k s : Nat) (a : Nat) (ad : Nat) (p : Option Nat) (g : Nat) :
    (x.raiseErr i u k s a ad p g).tdm = x.tdm := x.raise_tdm i _
@[simp] theorem Half.raise_qos (i : Nat) (m : ErrMsg) : (x.raise i m).qos = x.qos := by
  unfold Half.raise
  generalize x.err.enter i m = e
  cases e with
  | some e => rfl
  | none => exact (Half.setBit_qos _ _ _).trans (Half.bump_qos _ _ _ _ _)
@[simp] theorem Half.raiseErr_qos (i u k s : Nat) (a : Nat) (ad : Nat) (p : Option Nat) (g : Nat) :
    (x.raiseErr i u k s a ad p g).qos = x.qos := x.raise_qos i _
@[simp] theorem Half.raise_msix (i : Nat) (m : ErrMsg) : (x.raise i m).msix = x.msix := by
  unfold Half.raise
  generalize x.err.enter i m = e
  cases e with
  | some e => rfl
  | none => exact (Half.setBit_msix _ _ _).trans (Half.bump_msix _ _ _ _ _)
@[simp] theorem Half.raiseErr_msix (i u k s : Nat) (a : Nat) (ad : Nat) (p : Option Nat) (g : Nat) :
    (x.raiseErr i u k s a ad p g).msix = x.msix := x.raise_msix i _
@[simp] theorem Half.raise_msgs (i : Nat) (m : ErrMsg) : (x.raise i m).msgs = x.msgs := by
  unfold Half.raise
  generalize x.err.enter i m = e
  cases e with
  | some e => rfl
  | none => exact (Half.setBit_msgs _ _ _).trans (Half.bump_msgs _ _ _ _ _)
@[simp] theorem Half.raiseErr_msgs (i u k s : Nat) (a : Nat) (ad : Nat) (p : Option Nat) (g : Nat) :
    (x.raiseErr i u k s a ad p g).msgs = x.msgs := x.raise_msgs i _
@[simp] theorem Half.raise_waiters (i : Nat) (m : ErrMsg) : (x.raise i m).waiters = x.waiters := by
  unfold Half.raise
  generalize x.err.enter i m = e
  cases e with
  | some e => rfl
  | none => exact (Half.setBit_waiters _ _ _).trans (Half.bump_waiters _ _ _ _ _)
@[simp] theorem Half.raiseErr_waiters (i u k s : Nat) (a : Nat) (ad : Nat) (p : Option Nat) (g : Nat) :
    (x.raiseErr i u k s a ad p g).waiters = x.waiters := x.raise_waiters i _
@[simp] theorem Half.raise_lastPrio (i : Nat) (m : ErrMsg) : (x.raise i m).lastPrio = x.lastPrio := by
  unfold Half.raise
  generalize x.err.enter i m = e
  cases e with
  | some e => rfl
  | none => exact (Half.setBit_lastPrio _ _ _).trans (Half.bump_lastPrio _ _ _ _ _)
@[simp] theorem Half.raiseErr_lastPrio (i u k s : Nat) (a : Nat) (ad : Nat) (p : Option Nat) (g : Nat) :
    (x.raiseErr i u k s a ad p g).lastPrio = x.lastPrio := x.raise_lastPrio i _
@[simp] theorem Half.raise_lastQ (i : Nat) (m : ErrMsg) : (x.raise i m).lastQ = x.lastQ := by
  unfold Half.raise
  generalize x.err.enter i m = e
  cases e with
  | some e => rfl
  | none => exact (Half.setBit_lastQ _ _ _).trans (Half.bump_lastQ _ _ _ _ _)
@[simp] theorem Half.raiseErr_lastQ (i u k s : Nat) (a : Nat) (ad : Nat) (p : Option Nat) (g : Nat) :
    (x.raiseErr i u k s a ad p g).lastQ = x.lastQ := x.raise_lastQ i _
@[simp] theorem Half.raise_ports (i : Nat) (m : ErrMsg) : (x.raise i m).ports = x.ports := by
  unfold Half.raise
  generalize x.err.enter i m = e
  cases e with
  | some e => rfl
  | none => exact (Half.setBit_ports _ _ _).trans (Half.bump_ports _ _ _ _ _)
@[simp] theorem Half.raiseErr_ports (i u k s : Nat) (a : Nat) (ad : Nat) (p : Option Nat) (g : Nat) :
    (x.raiseErr i u k s a ad p g).ports = x.ports := x.raise_ports i _
@[simp] theorem Half.raise_fns (i : Nat) (m : ErrMsg) : (x.raise i m).fns = x.fns := by
  unfold Half.raise
  generalize x.err.enter i m = e
  cases e with
  | some e => rfl
  | none => exact (Half.setBit_fns _ _ _).trans (Half.bump_fns _ _ _ _ _)
@[simp] theorem Half.raiseErr_fns (i u k s : Nat) (a : Nat) (ad : Nat) (p : Option Nat) (g : Nat) :
    (x.raiseErr i u k s a ad p g).fns = x.fns := x.raise_fns i _
@[simp] theorem Half.raise_ptm (i : Nat) (m : ErrMsg) : (x.raise i m).ptm = x.ptm := by
  unfold Half.raise
  generalize x.err.enter i m = e
  cases e with
  | some e => rfl
  | none => exact (Half.setBit_ptm _ _ _).trans (Half.bump_ptm _ _ _ _ _)
@[simp] theorem Half.raiseErr_ptm (i u k s : Nat) (a : Nat) (ad : Nat) (p : Option Nat) (g : Nat) :
    (x.raiseErr i u k s a ad p g).ptm = x.ptm := x.raise_ptm i _
@[simp] theorem Half.raise_sec (i : Nat) (m : ErrMsg) : (x.raise i m).sec = x.sec := by
  unfold Half.raise
  generalize x.err.enter i m = e
  cases e with
  | some e => rfl
  | none => exact (Half.setBit_sec _ _ _).trans (Half.bump_sec _ _ _ _ _)
@[simp] theorem Half.raiseErr_sec (i u k s : Nat) (a : Nat) (ad : Nat) (p : Option Nat) (g : Nat) :
    (x.raiseErr i u k s a ad p g).sec = x.sec := x.raise_sec i _
@[simp] theorem Half.raise_xlt (i : Nat) (m : ErrMsg) : (x.raise i m).xlt = x.xlt := by
  unfold Half.raise
  generalize x.err.enter i m = e
  cases e with
  | some e => rfl
  | none => exact (Half.setBit_xlt _ _ _).trans (Half.bump_xlt _ _ _ _ _)
@[simp] theorem Half.raiseErr_xlt (i u k s : Nat) (a : Nat) (ad : Nat) (p : Option Nat) (g : Nat) :
    (x.raiseErr i u k s a ad p g).xlt = x.xlt := x.raise_xlt i _
@[simp] theorem Half.raise_dma (i : Nat) (m : ErrMsg) : (x.raise i m).dma = x.dma := by
  unfold Half.raise
  generalize x.err.enter i m = e
  cases e with
  | some e => rfl
  | none => exact (Half.setBit_dma _ _ _).trans (Half.bump_dma _ _ _ _ _)
@[simp] theorem Half.raiseErr_dma (i u k s : Nat) (a : Nat) (ad : Nat) (p : Option Nat) (g : Nat) :
    (x.raiseErr i u k s a ad p g).dma = x.dma := x.raise_dma i _
@[simp] theorem Half.raise_xfm (i : Nat) (m : ErrMsg) : (x.raise i m).xfm = x.xfm := by
  unfold Half.raise
  generalize x.err.enter i m = e
  cases e with
  | some e => rfl
  | none => exact (Half.setBit_xfm _ _ _).trans (Half.bump_xfm _ _ _ _ _)
@[simp] theorem Half.raiseErr_xfm (i u k s : Nat) (a : Nat) (ad : Nat) (p : Option Nat) (g : Nat) :
    (x.raiseErr i u k s a ad p g).xfm = x.xfm := x.raise_xfm i _
@[simp] theorem Half.raise_ware (i : Nat) (m : ErrMsg) : (x.raise i m).ware = x.ware := by
  unfold Half.raise
  generalize x.err.enter i m = e
  cases e with
  | some e => rfl
  | none => exact (Half.setBit_ware _ _ _).trans (Half.bump_ware _ _ _ _ _)
@[simp] theorem Half.raiseErr_ware (i u k s : Nat) (a : Nat) (ad : Nat) (p : Option Nat) (g : Nat) :
    (x.raiseErr i u k s a ad p g).ware = x.ware := x.raise_ware i _
@[simp] theorem Half.raise_fab (i : Nat) (m : ErrMsg) : (x.raise i m).fab = x.fab := by
  unfold Half.raise
  generalize x.err.enter i m = e
  cases e with
  | some e => rfl
  | none => exact (Half.setBit_fab _ _ _).trans (Half.bump_fab _ _ _ _ _)
@[simp] theorem Half.raiseErr_fab (i u k s : Nat) (a : Nat) (ad : Nat) (p : Option Nat) (g : Nat) :
    (x.raiseErr i u k s a ad p g).fab = x.fab := x.raise_fab i _
@[simp] theorem Half.raise_coh (i : Nat) (m : ErrMsg) : (x.raise i m).coh = x.coh := by
  unfold Half.raise
  generalize x.err.enter i m = e
  cases e with
  | some e => rfl
  | none => exact (Half.setBit_coh _ _ _).trans (Half.bump_coh _ _ _ _ _)
@[simp] theorem Half.raiseErr_coh (i u k s : Nat) (a : Nat) (ad : Nat) (p : Option Nat) (g : Nat) :
    (x.raiseErr i u k s a ad p g).coh = x.coh := x.raise_coh i _
@[simp] theorem Half.raise_dies (i : Nat) (m : ErrMsg) : (x.raise i m).dies = x.dies := by
  unfold Half.raise
  generalize x.err.enter i m = e
  cases e with
  | some e => rfl
  | none => exact (Half.setBit_dies _ _ _).trans (Half.bump_dies _ _ _ _ _)
@[simp] theorem Half.raiseErr_dies (i u k s : Nat) (a : Nat) (ad : Nat) (p : Option Nat) (g : Nat) :
    (x.raiseErr i u k s a ad p g).dies = x.dies := x.raise_dies i _
@[simp] theorem Half.raise_obj (i : Nat) (m : ErrMsg) : (x.raise i m).obj = x.obj := by
  unfold Half.raise
  generalize x.err.enter i m = e
  cases e with
  | some e => rfl
  | none => exact (Half.setBit_obj _ _ _).trans (Half.bump_obj _ _ _ _ _)
@[simp] theorem Half.raiseErr_obj (i u k s : Nat) (a : Nat) (ad : Nat) (p : Option Nat) (g : Nat) :
    (x.raiseErr i u k s a ad p g).obj = x.obj := x.raise_obj i _

end Sys2Proof.Machine
end

