-- ==== Sys2Proof/Laws/Ops.lean ====
section
/-! SUPPORT. What the shared operations over a block do: reading back a half that was rewritten, and what sending, drawing and mirroring leave
as they were. -/
namespace Sys2Proof.Machine

variable (b : Blk) (h : HalfId) (f : Half → Half)

@[simp] theorem HalfId.other_other : h.other.other = h := by cases h <;> rfl
@[simp] theorem HalfId.other_ne : h.other ≠ h := by cases h <;> simp [HalfId.other]
@[simp] theorem HalfId.ne_other : h ≠ h.other := by cases h <;> simp [HalfId.other]
theorem HalfId.eq_or_other (g : HalfId) : g = h ∨ g = h.other := by cases g <;> cases h <;> simp [HalfId.other]

@[simp] theorem Blk.upd_half : (b.upd h f).half h = f (b.half h) := by cases h <;> rfl
@[simp] theorem Blk.upd_half_other : (b.upd h f).half h.other = b.half h.other := by cases h <;> rfl
@[simp] theorem Blk.upd_other_half : (b.upd h.other f).half h = b.half h := by cases h <;> rfl
theorem Blk.upd_half_ne (g : HalfId) (hg : g ≠ h) : (b.upd h f).half g = b.half g := by cases h <;> cases g <;> simp_all [Blk.upd, Blk.half]
@[simp] theorem Blk.upd_out : (b.upd h f).out = b.out := by cases h <;> rfl
@[simp] theorem Blk.upd_lossQ : (b.upd h f).lossQ = b.lossQ := by cases h <;> rfl
@[simp] theorem Blk.upd_flrQ : (b.upd h f).flrQ = b.flrQ := by cases h <;> rfl
@[simp] theorem Blk.upd_free : (b.upd h f).free = b.free := by cases h <;> rfl
@[simp] theorem Blk.upd_upd (g : Half → Half) : (b.upd h f).upd h g = b.upd h (fun x => g (f x)) := by cases h <;> rfl
/-- Rewriting a half is putting what it becomes. -/
theorem Blk.upd_const : b.upd h f = b.upd h (fun _ => f (b.half h)) := by cases h <;> rfl
theorem Blk.upd_id : b.upd h (fun x => x) = b := by cases h <;> rfl
theorem Blk.ext_halves (c : Blk) (ha : b.half h = c.half h) (hb : b.half h.other = c.half h.other) (ho : b.out = c.out)
    (hl : b.lossQ = c.lossQ) (hf : b.flrQ = c.flrQ) (hd : b.free = c.free) : b = c := by
  cases b; cases c; cases h <;> simp_all [Blk.half, HalfId.other]

variable (o : Output)

@[simp] theorem Blk.emit_half : (b.emit o).half h = b.half h := by cases h <;> rfl
@[simp] theorem Blk.emit_out : (b.emit o).out = o :: b.out := rfl
@[simp] theorem Blk.emit_lossQ : (b.emit o).lossQ = b.lossQ := rfl
@[simp] theorem Blk.emit_flrQ : (b.emit o).flrQ = b.flrQ := rfl
@[simp] theorem Blk.emit_free : (b.emit o).free = b.free := rfl

@[simp] theorem Blk.draw_half : b.draw.1.half h = b.half h := by cases h <;> rfl
@[simp] theorem Blk.draw_out : b.draw.1.out = b.out := rfl
@[simp] theorem Blk.draw_val : b.draw.2 = b.free := rfl
@[simp] theorem Blk.draw_free : b.draw.1.free = b.free + 1 := rfl

/-- A frame leaves the halves as they were. -/
@[simp] theorem Blk.sendFrame_half (g : HalfId) (fr : TdmFrame) : (b.sendFrame g fr).half h = b.half h := by
  unfold Blk.sendFrame; split <;> simp

/-- A frame is sent where the link is up. -/
theorem Blk.sendFrame_up (fr : TdmFrame) (hu : (b.half h).linkUp = true) : b.sendFrame h fr = b.emit (.tandem h fr) := by
  simp [Blk.sendFrame, hu]

end Sys2Proof.Machine
end

