-- ==== Sys2Proof/Laws/Tab.lean ====
section
/-! SUPPORT. Tables: reading back what was put, and what a put, a deletion or a rewrite leaves as it was. They hold of every list of pairs, in
rising order or not. -/
namespace Sys2Proof.Machine

variable {α : Type} (t : Tab α)

@[simp] theorem Tab.look_nil (i : Nat) : Tab.look ([] : Tab α) i = none := rfl

@[simp] theorem Tab.look_put (i : Nat) (x : α) : Tab.look (Tab.put t i x) i = some x := by
  induction t with
  | nil => simp [Tab.put, Tab.look]
  | cons e t ih =>
    obtain ⟨k, v⟩ := e
    simp only [Tab.put]
    split
    · simp [Tab.look]
    · split
      · simp [Tab.look]
      · have : k ≠ i := by omega
        simp [Tab.look, this, ih]

theorem Tab.look_put_ne {i j : Nat} (x : α) (h : j ≠ i) : Tab.look (Tab.put t i x) j = Tab.look t j := by
  induction t with
  | nil => simp [Tab.put, Tab.look, Ne.symm h]
  | cons e t ih =>
    obtain ⟨k, v⟩ := e
    simp only [Tab.put]
    split
    · simp [Tab.look, Ne.symm h]
    · split
      · subst_vars; simp [Tab.look, Ne.symm h]
      · simp only [Tab.look]; split <;> simp_all

@[simp] theorem Tab.dflt_put (i : Nat) (x d : α) : Tab.dflt (Tab.put t i x) i d = x := by simp [Tab.dflt]

theorem Tab.dflt_put_ne {i j : Nat} (x d : α) (h : j ≠ i) : Tab.dflt (Tab.put t i x) j d = Tab.dflt t j d := by
  simp [Tab.dflt, Tab.look_put_ne t x h]

@[simp] theorem Tab.dflt_upd (i : Nat) (d : α) (f : α → α) : Tab.dflt (Tab.upd t i d f) i d = f (Tab.dflt t i d) := by
  simp [Tab.upd]

theorem Tab.dflt_upd_ne {i j : Nat} (d : α) (f : α → α) (h : j ≠ i) : Tab.dflt (Tab.upd t i d f) j d = Tab.dflt t j d := by
  simp [Tab.upd, Tab.dflt_put_ne t _ d h]

@[simp] theorem Tab.look_del (i : Nat) : Tab.look (Tab.del t i) i = none := by
  induction t with
  | nil => rfl
  | cons e t ih =>
    obtain ⟨k, v⟩ := e
    by_cases hk : k = i
    · simpa [Tab.del, hk] using ih
    · simp only [Tab.del, List.filter_cons, bne_iff_ne, ne_eq, hk, not_false_eq_true, if_true, Tab.look, if_false]; exact ih

theorem Tab.look_del_ne {i j : Nat} (h : j ≠ i) : Tab.look (Tab.del t i) j = Tab.look t j := by
  induction t with
  | nil => rfl
  | cons e t ih =>
    obtain ⟨k, v⟩ := e
    by_cases hk : k = i
    · subst hk; simp only [Tab.look, if_neg (Ne.symm h)]; simpa [Tab.del] using ih
    · simp only [Tab.del, List.filter_cons, bne_iff_ne, ne_eq, hk, not_false_eq_true, if_true, Tab.look]
      split
      · rfl
      · exact ih

theorem Tab.look_modify (i j : Nat) (f : α → α) :
    Tab.look (Tab.modify t i f) j = if j = i then (Tab.look t j).map f else Tab.look t j := by
  induction t with
  | nil => simp [Tab.modify]
  | cons e t ih =>
    obtain ⟨k, v⟩ := e
    simp only [Tab.modify, List.map_cons] at ih ⊢
    by_cases hk : k = i <;> by_cases hj : k = j <;> simp_all [Tab.look]

end Sys2Proof.Machine
end

