-- ==== Sys2Proof/Laws/Regs.lean ====
section
/-! SUPPORT. Register fields: a field written reads back cut to its width, and leaves every field apart from it as it was. -/
namespace Sys2Proof.Machine

theorem bits_lt (v hi lo : Nat) : bits v hi lo < 2 ^ (hi + 1 - lo) := Nat.mod_lt _ (Nat.two_pow_pos _)

/-- A number as what lies above a field, the field, and what lies below it. -/
theorem bits_split (v hi lo : Nat) (h : lo ≤ hi + 1) :
    v = v / 2 ^ (hi + 1) * 2 ^ (hi + 1) + bits v hi lo * 2 ^ lo + v % 2 ^ lo := by
  have e : 2 ^ (hi + 1) = 2 ^ lo * 2 ^ (hi + 1 - lo) := by rw [← Nat.pow_add]; congr 1; omega
  have h1 : v / 2 ^ lo = v / 2 ^ (hi + 1) * 2 ^ (hi + 1 - lo) + v / 2 ^ lo % 2 ^ (hi + 1 - lo) := by
    rw [e, ← Nat.div_div_eq_div_mul]; exact (Nat.div_add_mod' _ _).symm
  have h2 : v = v / 2 ^ lo * 2 ^ lo + v % 2 ^ lo := (Nat.div_add_mod' _ _).symm
  simp only [bits, Nat.shiftRight_eq_div_pow]
  generalize v / 2 ^ lo % 2 ^ (hi + 1 - lo) = m at *
  generalize v / 2 ^ (hi + 1) = q at *
  rw [h2, h1]; simp only [Nat.add_mul, e]
  rw [Nat.mul_assoc q, Nat.mul_comm (2 ^ (hi + 1 - lo)) (2 ^ lo)]
  have : (q * (2 ^ lo * 2 ^ (hi + 1 - lo)) + m * 2 ^ lo + v % 2 ^ lo) % 2 ^ lo = v % 2 ^ lo := by
    rw [Nat.add_mod, Nat.add_mod (q * _), show q * (2 ^ lo * 2 ^ (hi + 1 - lo)) = q * 2 ^ (hi + 1 - lo) * 2 ^ lo by
      rw [Nat.mul_assoc, Nat.mul_comm (2 ^ lo)]]
    simp
  omega

/-- A number with a field replaced, in the same three parts. -/
theorem putBits_eq (v hi lo x : Nat) (h : lo ≤ hi + 1) :
    putBits v hi lo x = v / 2 ^ (hi + 1) * 2 ^ (hi + 1) + x % 2 ^ (hi + 1 - lo) * 2 ^ lo + v % 2 ^ lo := by
  have := bits_split v hi lo h
  unfold putBits
  omega

/-- A bit of a number with a field replaced. -/
theorem testBit_putBits (v hi lo x i : Nat) (h : lo ≤ hi) :
    (putBits v hi lo x).testBit i = if lo ≤ i ∧ i ≤ hi then x.testBit (i - lo) else v.testBit i := by
  have hw : x % 2 ^ (hi + 1 - lo) * 2 ^ lo + v % 2 ^ lo < 2 ^ (hi + 1) := by
    have h1 : x % 2 ^ (hi + 1 - lo) < 2 ^ (hi + 1 - lo) := Nat.mod_lt _ (Nat.two_pow_pos _)
    have h2 : v % 2 ^ lo < 2 ^ lo := Nat.mod_lt _ (Nat.two_pow_pos _)
    have e : 2 ^ (hi + 1) = 2 ^ (hi + 1 - lo) * 2 ^ lo := by rw [← Nat.pow_add]; congr 1; omega
    have h3 := Nat.mul_le_mul_right (2 ^ lo) (Nat.succ_le_of_lt h1)
    rw [e]; rw [Nat.succ_mul] at h3; omega
  rw [putBits_eq v hi lo x (by omega), Nat.add_assoc, Nat.mul_comm, Nat.testBit_two_pow_mul_add _ hw, Nat.mul_comm (x % _),
    Nat.testBit_two_pow_mul_add _ (Nat.mod_lt _ (Nat.two_pow_pos _))]
  simp only [Nat.testBit_mod_two_pow, Nat.testBit_div_two_pow]
  by_cases h1 : i < lo
  · simp [h1, show i < hi + 1 by omega, show ¬ lo ≤ i by omega]
  · by_cases h2 : i ≤ hi
    · simp [h1, h2, show i < hi + 1 by omega, show lo ≤ i by omega, show i - lo < hi + 1 - lo by omega]
    · simp [h2, show ¬ i < hi + 1 by omega, show i - (hi + 1) + (hi + 1) = i by omega]

/-- A bit of a register with a field replaced. -/
theorem testBit_putFld (v : W64) (hi lo x i : Nat) (h : lo ≤ hi) (hi64 : hi < 64) :
    (putFld v hi lo x).toNat.testBit i = if lo ≤ i ∧ i ≤ hi then x.testBit (i - lo) else v.toNat.testBit i := by
  have : (putFld v hi lo x).toNat = (putBits v.toNat hi lo x) % 2 ^ 64 := by simp [putFld]
  rw [this, Nat.testBit_mod_two_pow, testBit_putBits _ _ _ _ _ h]
  by_cases hi' : i < 64
  · simp [hi']
  · have : v.toNat.testBit i = false := Nat.testBit_lt_two_pow (Nat.lt_of_lt_of_le v.isLt (Nat.pow_le_pow_right (by omega) (by omega)))
    simp [hi', show ¬ (lo ≤ i ∧ i ≤ hi) by omega, this]

/-- Bits of a field. -/
theorem testBit_fld (v : W64) (hi lo i : Nat) : (fld v hi lo).testBit i = (decide (i < hi + 1 - lo) && v.toNat.testBit (i + lo)) := by
  simp [fld, bits, Nat.testBit_mod_two_pow, Nat.testBit_shiftRight, Nat.add_comm]

/-- A field written reads back, cut to its width. -/
@[simp] theorem fld_putFld (v : W64) (hi lo x : Nat) (h : lo ≤ hi) (hi64 : hi < 64) :
    fld (putFld v hi lo x) hi lo = x % 2 ^ (hi + 1 - lo) := by
  apply Nat.eq_of_testBit_eq; intro i
  rw [testBit_fld, testBit_putFld v hi lo x _ h hi64, Nat.testBit_mod_two_pow]
  by_cases hi' : i < hi + 1 - lo
  · simp [hi', show i + lo ≤ hi by omega]
  · simp [hi']

/-- A field apart from the one written reads as before. -/
theorem fld_putFld_apart (v : W64) (hi lo x h2 l2 : Nat) (h : lo ≤ hi) (hi64 : hi < 64) (hd : hi < l2 ∨ h2 < lo) :
    fld (putFld v hi lo x) h2 l2 = fld v h2 l2 := by
  apply Nat.eq_of_testBit_eq; intro i
  rw [testBit_fld, testBit_fld, testBit_putFld v hi lo x _ h hi64]
  by_cases hi' : i < h2 + 1 - l2
  · simp [hi', show ¬ (lo ≤ i + l2 ∧ i + l2 ≤ hi) by omega]
  · simp [hi']

variable (x : Half)

@[simp] theorem Half.reg_setReg (o : Nat) (v : W64) : (x.setReg o v).reg o = v := by
  unfold Half.setReg Half.reg
  by_cases hv : v = resetValue o
  · simp [hv]
  · simp [hv]

theorem Half.reg_setReg_ne {o p : Nat} (v : W64) (h : p ≠ o) : (x.setReg o v).reg p = x.reg p := by
  unfold Half.setReg Half.reg
  by_cases hv : v = resetValue o
  · simp [hv, Tab.look_del_ne _ h]
  · simp [hv, Tab.look_put_ne _ _ h]

@[simp] theorem Half.reg_setFld (o hi lo a : Nat) : (x.setFld o hi lo a).reg o = putFld (x.reg o) hi lo a := by
  simp [Half.setFld]
theorem Half.reg_setFld_ne {o p : Nat} (hi lo a : Nat) (h : p ≠ o) : (x.setFld o hi lo a).reg p = x.reg p := x.reg_setReg_ne _ h
@[simp] theorem Half.regFld_setFld (o hi lo a : Nat) (h : lo ≤ hi) (h64 : hi < 64) :
    (x.setFld o hi lo a).regFld o hi lo = a % 2 ^ (hi + 1 - lo) := by simp [Half.regFld, h, h64]
theorem Half.regFld_bump (o hi lo n : Nat) (h : lo ≤ hi) (h64 : hi < 64) :
    (x.bump o hi lo n).regFld o hi lo = (x.regFld o hi lo + n) % 2 ^ (hi + 1 - lo) := by simp [Half.bump, h, h64]
theorem Half.reg_bump_ne {o p : Nat} (hi lo n : Nat) (h : p ≠ o) : (x.bump o hi lo n).reg p = x.reg p := x.reg_setReg_ne _ h
theorem Half.reg_setBit (o i j : Nat) (h : i < 64) :
    ((x.setBit o i).reg o).toNat.testBit j = (decide (j = i) || (x.reg o).toNat.testBit j) := by
  simp only [Half.setBit, Half.reg_setFld, testBit_putFld _ i i 1 j (Nat.le_refl i) h]
  by_cases hj : j = i
  · subst hj; simp
  · simp [hj, show ¬ (i ≤ j ∧ j ≤ i) by omega]
theorem Half.reg_setBit_ne {o p : Nat} (i : Nat) (h : p ≠ o) : (x.setBit o i).reg p = x.reg p := x.reg_setReg_ne _ h

/-- What a message may change of the registers is the drop count of its island's queue (R26). -/
theorem Half.reg_raise_ne {i p : Nat} (m : ErrMsg) (h : p ≠ 0x0900300 + 8 * i) : (x.raise i m).reg p = x.reg p := by
  unfold Half.raise
  generalize x.err.enter i m = e
  cases e with
  | some e => rfl
  | none => exact (Half.reg_setBit_ne _ _ h).trans (Half.reg_bump_ne _ _ _ _ h)

end Sys2Proof.Machine
end

