-- ==== Sys2Proof/Laws/Access.lean ====
section
/-! SUPPORT. What an admitted register access does, and a message that finds room in its error queue. -/
namespace Sys2Proof.Machine

/-- An admitted access has its effect. -/
theorem Mach.viaAt_admits (m : Mach) (via : Via) (h : HalfId) (off : Nat) (f : Mach → Mach) (ha : m.Admits via h off) :
    m.viaAt via h off f = f m := by
  obtain ⟨h0, h1⟩ := ha
  have h0' : (m.blk.half h).boot.inReset = false := h0
  unfold Mach.viaAt
  rw [h0']
  cases via with
  | mctp e => simp only [] at h1; simp [h1]
  | fn port part rid =>
    simp only [] at h1
    obtain ⟨hp, hg, hr⟩ := h1
    subst hp
    simp only [Mach.viaGate, hg, ne_eq, not_true_eq_false, if_false, if_true]
    rcases hr with hr | hr
    · simp [hr]
    · simp [hr]

/-- A message that finds room enters its island's queue, and registers stay as they are. -/
theorem Half.raise_room (x : Half) (i : Nat) (m : ErrMsg) (hr : x.hasRoom i) :
    x.raise i m = { x with err := { x.err with queues := Tab.put x.err.queues i (Tab.dflt x.err.queues i [] ++ [m]) } } := by
  obtain ⟨h1, h2⟩ := hr
  have hl : lowFree (Tab.dflt x.err.queues i []) = true := by simp only [lowFree, decide_eq_true_eq]; omega
  have : x.err.enter i m = some { x.err with queues := Tab.put x.err.queues i (Tab.dflt x.err.queues i [] ++ [m]) } := by
    unfold ErrUnit.enter
    simp only [h2, hl, List.isEmpty_nil, and_true, show (Tab.dflt x.err.queues i []).length < 8 by omega, if_true]
    split <;> rfl
  simp only [Half.raise, this]

theorem Half.raise_reported (x : Half) (i : Nat) (m : ErrMsg) (hr : x.hasRoom i) : x.Reported (x.raise i m) i m := by
  simp [Half.Reported, x.raise_room i m hr]

end Sys2Proof.Machine
end

