-- ==== Sys2Proof/Laws/Memory.lean ====
section
/-! SUPPORT. Memory reads back what was written and nothing else changes, and every memory operation keeps the canonical form. -/
namespace Sys2Proof.Machine

variable (m : List Host.Cell)

theorem memGet_put (a c : Nat) (b : Byte) : memGet (memPut m a b) c = if c = a then b else memGet m c := by
  induction m with
  | nil =>
    by_cases h : c = a
    · simp [memPut, memGet, h]
    · simp [memPut, memGet, h, Ne.symm h]
  | cons e t ih =>
    obtain ⟨k, v⟩ := e
    unfold memPut
    split
    · by_cases h : c = a
      · simp [memGet, h]
      · simp [memGet, h, Ne.symm h]
    · split
      · rename_i hk; subst hk
        by_cases h : c = a
        · simp [memGet, h]
        · simp [memGet, h, Ne.symm h]
      · rename_i hlt hne
        by_cases hc : k = c
        · subst hc
          simp [memGet, Ne.symm hne]
        · simp [memGet, hc, ih]

theorem memGet_drop (a c : Nat) : memGet (m.filter (fun e => e.1 != a)) c = if c = a then unlisted else memGet m c := by
  induction m with
  | nil => simp [memGet]
  | cons e t ih =>
    obtain ⟨k, v⟩ := e
    by_cases hk : k = a
    · subst hk
      simp only [List.filter_cons, bne_self_eq_false, Bool.false_eq_true, if_false, ih]
      by_cases h : c = k
      · simp [h]
      · simp [memGet, h, Ne.symm h]
    · have : (k != a) = true := by simp [hk]
      simp only [List.filter_cons, this, if_true]
      by_cases hc : k = c
      · subst hc; simp [memGet, hk]
      · simp [memGet, hc, ih]

/-- A byte written reads back, and every other byte is as it was, whatever the list. -/
theorem memGet_set (a c : Nat) (b : Byte) : memGet (memSet m a b) c = if c = a then b else memGet m c := by
  unfold memSet
  split
  · rename_i hb; subst hb; exact memGet_drop m a c
  · exact memGet_put m a c b

theorem memGet_write_apart (bs : List Byte) : ∀ (m : List Host.Cell) (a c : Nat), c < a ∨ a + bs.length ≤ c →
    memGet (memWrite m a bs) c = memGet m c := by
  induction bs with
  | nil => intros; rfl
  | cons b t ih =>
    intro m a c h
    simp only [List.length_cons] at h
    rw [memWrite, ih _ _ _ (by omega), memGet_set, if_neg (by omega)]

theorem memGet_write_head (bs : List Byte) (m : List Host.Cell) (a : Nat) (b : Byte) : memGet (memWrite m a (b :: bs)) a = b := by
  rw [memWrite, memGet_write_apart _ _ _ _ (by omega), memGet_set, if_pos rfl]

/-- Bytes written read back. -/
theorem memRead_write (bs : List Byte) : ∀ (m : List Host.Cell) (a : Nat), memRead (memWrite m a bs) a bs.length = bs := by
  induction bs with
  | nil => intros; rfl
  | cons b t ih =>
    intro m a
    rw [List.length_cons, memRead, memGet_write_head, memWrite, ih]

theorem memWfFrom_mono : ∀ (m : List Host.Cell) (lo lo' : Nat), lo' ≤ lo → memWfFrom lo m → memWfFrom lo' m
  | [], _, _, _, _ => rfl
  | (k, v) :: t, lo, lo', h, hw => by
    simp only [memWfFrom, Bool.and_eq_true, decide_eq_true_eq] at hw ⊢
    exact ⟨⟨by omega, hw.1.2⟩, hw.2⟩

theorem memWf_drop : ∀ (m : List Host.Cell) (lo a : Nat), memWfFrom lo m → memWfFrom lo (m.filter (fun e => e.1 != a))
  | [], _, _, _ => rfl
  | (k, v) :: t, lo, a, hw => by
    simp only [memWfFrom, Bool.and_eq_true, decide_eq_true_eq] at hw
    have ih := memWf_drop t (k + 1) a hw.2
    simp only [List.filter_cons]
    split
    · simp only [memWfFrom, Bool.and_eq_true, decide_eq_true_eq]; exact ⟨hw.1, ih⟩
    · exact memWfFrom_mono _ _ _ (by omega) ih

theorem memWf_put : ∀ (m : List Host.Cell) (lo a : Nat) (b : Byte), b ≠ unlisted → lo ≤ a → memWfFrom lo m → memWfFrom lo (memPut m a b)
  | [], lo, a, b, hb, hl, _ => by simp [memPut, memWfFrom, hb, hl]
  | (k, v) :: t, lo, a, b, hb, hl, hw => by
    simp only [memWfFrom, Bool.and_eq_true, decide_eq_true_eq] at hw
    unfold memPut
    split
    · simp only [memWfFrom, Bool.and_eq_true, decide_eq_true_eq]
      exact ⟨⟨hl, hb⟩, ⟨by omega, hw.1.2⟩, hw.2⟩
    · split
      · rename_i hk; subst hk
        simp only [memWfFrom, Bool.and_eq_true, decide_eq_true_eq]; exact ⟨⟨hl, hb⟩, hw.2⟩
      · simp only [memWfFrom, Bool.and_eq_true, decide_eq_true_eq]
        exact ⟨hw.1, memWf_put t (k + 1) a b hb (by omega) hw.2⟩

/-- Writing a byte keeps the canonical form. -/
theorem memWf_set (a : Nat) (b : Byte) (h : memWf m) : memWf (memSet m a b) := by
  unfold memSet
  split
  · exact memWf_drop m 0 a h
  · exact memWf_put m 0 a b (by assumption) (Nat.zero_le _) h

theorem memWf_write (bs : List Byte) : ∀ (m : List Host.Cell) (a : Nat), memWf m → memWf (memWrite m a bs) := by
  induction bs with
  | nil => intro m a h; exact h
  | cons b t ih => intro m a h; exact ih _ _ (memWf_set m a b h)

theorem mem_setAdd : ∀ (l : List Nat) (a x : Nat), x ∈ setAdd l a ↔ x = a ∨ x ∈ l
  | [], a, x => by simp [setAdd]
  | k :: t, a, x => by
    unfold setAdd
    split
    · simp
    · split
      · rename_i h; subst h; simp
      · simp only [List.mem_cons, mem_setAdd t a x]
        constructor
        · rintro (h | h | h) <;> simp [h]
        · rintro (h | h | h) <;> simp [h]

theorem setAdd_rising : ∀ (l : List Nat) (a : Nat), l.Pairwise (· < ·) → (setAdd l a).Pairwise (· < ·)
  | [], a, _ => by simp [setAdd]
  | k :: t, a, h => by
    have hk := List.pairwise_cons.mp h
    unfold setAdd
    split
    · rename_i hl
      refine List.pairwise_cons.mpr ⟨?_, h⟩
      intro x hx
      rcases List.mem_cons.mp hx with rfl | hx
      · exact hl
      · exact Nat.lt_trans hl (hk.1 x hx)
    · split
      · exact h
      · rename_i h1 h2
        refine List.pairwise_cons.mpr ⟨?_, setAdd_rising t a hk.2⟩
        intro x hx
        rcases (mem_setAdd t a x).mp hx with rfl | hx
        · omega
        · exact hk.1 x hx

theorem setAdds_rising (ks : List Nat) : ∀ (l : List Nat), l.Pairwise (· < ·) → (ks.foldl setAdd l).Pairwise (· < ·) := by
  induction ks with
  | nil => intro l h; exact h
  | cons k t ih => intro l h; exact ih _ (setAdd_rising l k h)

namespace MemSys

/-- A device write keeps the canonical form. -/
theorem wf_writeDev (s : MemSys) (a : Nat) (bs : List Byte) (p : Bool) (h : s.wf) : (s.writeDev a bs p).wf := by
  simp only [wf, Bool.and_eq_true, decide_eq_true_eq] at h ⊢
  refine ⟨⟨memWf_write _ _ _ h.1.1, h.1.2⟩, ?_⟩
  have hf := List.Pairwise.filter (fun b => !((beats a bs.length).filter (fun b => decide (a ≤ b * 64) && decide (b * 64 + 64 ≤ a + bs.length))).contains b) h.2
  cases p
  · exact hf
  · exact setAdds_rising _ _ hf

/-- A host write keeps the canonical form. -/
theorem wf_writeHost (s : MemSys) (a : Nat) (bs : List Byte) (h : s.wf) : (s.writeHost a bs).wf := by
  simp only [wf, Bool.and_eq_true, decide_eq_true_eq] at h ⊢
  exact ⟨⟨h.1.1, memWf_write _ _ _ h.1.2⟩, h.2⟩

/-- A word write keeps the canonical form. -/
theorem wf_setWord (s : MemSys) (host : Bool) (a v : Nat) (h : s.wf) : (s.setWord host a v).wf := by
  cases host
  · exact wf_writeDev s a _ false h
  · exact wf_writeHost s a _ h

/-- Memory after reset is in canonical form. -/
theorem wf_reset : (({} : MemSys)).wf = true := rfl

/-- A device write is read back, and leaves host memory and every other device byte as they were. -/
theorem readDev_writeDev (s : MemSys) (a : Nat) (bs : List Byte) (p : Bool) : (s.writeDev a bs p).readDev a bs.length = bs := memRead_write _ _ _
@[simp] theorem host_writeDev (s : MemSys) (a : Nat) (bs : List Byte) (p : Bool) : (s.writeDev a bs p).host = s.host := rfl
theorem dev_writeDev_apart (s : MemSys) (a c : Nat) (bs : List Byte) (p : Bool) (h : c < a ∨ a + bs.length ≤ c) :
    memGet (s.writeDev a bs p).dev c = memGet s.dev c := memGet_write_apart _ _ _ _ h
/-- A host write is read back, and leaves device memory and every other host byte as they were. -/
theorem readHost_writeHost (s : MemSys) (a : Nat) (bs : List Byte) : (s.writeHost a bs).readHost a bs.length = bs := memRead_write _ _ _
@[simp] theorem dev_writeHost (s : MemSys) (a : Nat) (bs : List Byte) : (s.writeHost a bs).dev = s.dev := rfl
theorem host_writeHost_apart (s : MemSys) (a c : Nat) (bs : List Byte) (h : c < a ∨ a + bs.length ≤ c) :
    memGet (s.writeHost a bs).host c = memGet s.host c := memGet_write_apart _ _ _ _ h

end MemSys

end Sys2Proof.Machine
end

