-- ==== Sys2Proof/Laws/Queues.lean ====
section
/-! SUPPORT. Queues read back at their home: what rewriting one, sending, mirroring and updates elsewhere do to them. -/
namespace Sys2Proof.Machine

variable (b : Blk) (h : HalfId) (q : Nat)

/-- What says where queues are and which half carries them: the tables of queues, the pairing states and the resets. -/
def Half.SameQueues (x y : Half) : Prop :=
  y.obj.queues = x.obj.queues ∧ y.tdm.st = x.tdm.st ∧ y.tdm.silentAt = x.tdm.silentAt ∧ y.boot.inReset = x.boot.inReset

theorem Half.SameQueues.refl (x : Half) : x.SameQueues x := ⟨rfl, rfl, rfl, rfl⟩
theorem Half.SameQueues.serves {x y : Half} (e : x.SameQueues y) : y.serves = x.serves := by
  obtain ⟨_, h2, _, h4⟩ := e; simp [Half.serves, h2, h4]
theorem Half.SameQueues.queue {x y : Half} (e : x.SameQueues y) : y.queue q = x.queue q := by simp [Half.queue, e.1]

/-- Two blocks with the same queues find them at the same home. -/
def Blk.SameQueues (b c : Blk) : Prop := ∀ h, (b.half h).SameQueues (c.half h)

theorem Blk.SameQueues.queueHome {b c : Blk} (e : b.SameQueues c) : c.queueHome q = b.queueHome q := by
  have ea := e .A; have eb := e .B
  simp only [Blk.half] at ea eb
  simp only [Blk.queueHome, ea.serves, ea.queue, eb.queue]

theorem Blk.SameQueues.getQ {b c : Blk} (e : b.SameQueues c) : c.getQ q = b.getQ q := by
  simp only [Blk.getQ, e.queueHome, (e _).queue]

theorem Blk.SameQueues.linked {b c : Blk} (e : b.SameQueues c) : c.linked = b.linked := by
  have ea := e .A; have eb := e .B
  simp only [Blk.half] at ea eb
  obtain ⟨_, a2, a3, _⟩ := ea; obtain ⟨_, b2, b3, _⟩ := eb
  simp [Blk.linked, a2, a3, b2, b3]

theorem Blk.sameQueues_emit (o : Output) : b.SameQueues (b.emit o) := fun g => by simp [Half.SameQueues]

theorem Blk.sameQueues_upd (f : Half → Half) (hf : (b.half h).SameQueues (f (b.half h))) : b.SameQueues (b.upd h f) := fun g => by
  rcases HalfId.eq_or_other h g with rfl | rfl
  · simpa using hf
  · simpa using Half.SameQueues.refl _

theorem Blk.sameQueues_mirror (r : MirrorRec) : b.SameQueues (b.mirror h r) := by
  unfold Blk.mirror
  split
  · intro g
    rcases HalfId.eq_or_other h g with rfl | rfl <;> simp [Half.SameQueues]
  · exact fun g => Half.SameQueues.refl _

theorem Blk.sameQueues_sendFrame (f : TdmFrame) : b.SameQueues (b.sendFrame h f) := fun g => by simp [Half.SameQueues]

/-- A queue that is not absent stands in its table. -/
theorem Half.queue_look (x : Half) (hp : (x.queue q).st ≠ .absent) : Tab.look x.obj.queues q = some (x.queue q) := by
  unfold Half.queue Tab.dflt at *
  cases hl : Tab.look x.obj.queues q with
  | none => simp [hl] at hp
  | some r => rfl

/-- A half's queue after its table entry was rewritten. -/
theorem Half.queue_modify (x : Half) (f : Queue → Queue) (hp : (x.queue q).st ≠ .absent) :
    Tab.dflt (Tab.modify x.obj.queues q f) q {} = f (x.queue q) := by
  simp [Tab.dflt, Tab.look_modify, Half.queue_look q x hp]

/-- A half of a block whose objects were rewritten. -/
theorem Blk.updObj_half (f : Obj → Obj) :
    (b.updObj h f).half h = { b.half h with obj := f (b.half h).obj } := by
  have hl : ((b.upd h (fun x => { x with obj := f x.obj }))).half h = { b.half h with obj := f (b.half h).obj } := by simp
  unfold Blk.updObj
  split
  · rw [Blk.upd_other_half, hl]
  · exact hl

theorem Blk.updObj_other (f : Obj → Obj) :
    (b.updObj h f).half h.other = if b.linked then { b.half h.other with obj := f (b.half h.other).obj } else b.half h.other := by
  unfold Blk.updObj
  split <;> simp_all

@[simp] theorem Blk.updObj_out (f : Obj → Obj) : (b.updObj h f).out = b.out := by unfold Blk.updObj; split <;> simp
@[simp] theorem Blk.updObj_free (f : Obj → Obj) : (b.updObj h f).free = b.free := by unfold Blk.updObj; split <;> simp
@[simp] theorem Blk.updObj_lossQ (f : Obj → Obj) : (b.updObj h f).lossQ = b.lossQ := by unfold Blk.updObj; split <;> simp

theorem absent_bne {s t : QState} (e : s = .absent ↔ t = .absent) : (s != .absent) = (t != .absent) := by
  revert e; cases s <;> cases t <;> decide

/-- Rewriting a queue that exists, without moving or removing it, rewrites exactly what is read at its home. -/
theorem Blk.getQ_modQ (f : Queue → Queue) (hp : (b.getQ q).st ≠ .absent)
    (hf : ∀ k, (f k).home = k.home ∧ ((f k).st = .absent ↔ k.st = .absent)) :
    (b.modQ q f).queueHome q = b.queueHome q ∧ (b.modQ q f).getQ q = f (b.getQ q) := by
  have hq : ∀ x : Half, ({ x with obj := { x.obj with queues := Tab.modify x.obj.queues q f } } : Half).queue q = x.queue q ∨
      ({ x with obj := { x.obj with queues := Tab.modify x.obj.queues q f } } : Half).queue q = f (x.queue q) := by
    intro x
    simp only [Half.queue, Tab.dflt, Tab.look_modify]
    cases Tab.look x.obj.queues q <;> simp
  have key : ∀ g, ((b.modQ q f).half g).serves = (b.half g).serves ∧
      (((b.modQ q f).half g).queue q = (b.half g).queue q ∨ ((b.modQ q f).half g).queue q = f ((b.half g).queue q)) := by
    intro g
    rcases HalfId.eq_or_other (b.queueHome q) g with rfl | rfl
    · simp only [Blk.modQ, Blk.updQueue, Blk.updObj_half]
      exact ⟨rfl, hq _⟩
    · simp only [Blk.modQ, Blk.updQueue, Blk.updObj_other]
      split
      · exact ⟨rfl, hq _⟩
      · exact ⟨rfl, Or.inl rfl⟩
  have same : ∀ g, (((b.modQ q f).half g).queue q).home = ((b.half g).queue q).home ∧
      ((((b.modQ q f).half g).queue q).st = .absent ↔ ((b.half g).queue q).st = .absent) := by
    intro g
    rcases (key g).2 with e | e <;> rw [e]
    · exact ⟨rfl, Iff.rfl⟩
    · exact hf _
  have hh : (b.modQ q f).queueHome q = b.queueHome q := by
    have ha := same .A; have hb := same .B; have sa := (key .A).1
    simp only [Blk.half] at ha hb sa
    simp only [Blk.queueHome, ha.1, hb.1, sa, absent_bne ha.2, absent_bne hb.2]
  refine ⟨hh, ?_⟩
  unfold Blk.getQ
  rw [hh]
  have : (b.modQ q f).half (b.queueHome q) =
      { b.half (b.queueHome q) with obj := { (b.half (b.queueHome q)).obj with queues := Tab.modify (b.half (b.queueHome q)).obj.queues q f } } := by
    simp only [Blk.modQ, Blk.updQueue, Blk.updObj_half]
  rw [this]
  exact Half.queue_modify q _ f hp

end Sys2Proof.Machine
end

