-- ==== Sys2Proof/WellFormed.lean ====
section
/-! DEFINITION. Which commands can be spelled: every operand within what its port, field or table admits. -/
namespace Sys2Proof

open Sys2Proof.Machine

def okVia : Via → Bool
  | .fn port part rid => decide (port < 4) && decide (part < 64) && decide (rid < 2 ^ 16)
  | .mctp _ => true
def okOff (v : Nat) : Bool := decide (v < 2 ^ 26)
def okW64 (v : Nat) : Bool := decide (v < 2 ^ 64)
def okW32 (v : Nat) : Bool := decide (v < 2 ^ 32)
def okW96 (v : Nat) : Bool := decide (v < 2 ^ 96)
/-- Islands 0 to 13 (Table 01-1). -/
def okIsland (v : Nat) : Bool := decide (v < 14)
def okQuad (v : Nat) : Bool := decide (v < 4)
/-- Issue ramp groups: quads 0 to 3, and 4 the DMA engines (R450). -/
def okGroup (v : Nat) : Bool := decide (v < 5)
def okPair (v : Nat) : Bool := decide (v < 4)
def okPort (v : Nat) : Bool := decide (v < 2)
def okDie (v : Nat) : Bool := decide (v < 8)
def okOpt (v : Nat) : Bool := decide (v < 16)
/-- Lanes of an optical port: 16 data lanes and the spares (R347). -/
def okLane (v : Nat) : Bool := decide (v < 18)
def okChan (v : Nat) : Bool := decide (v < 128)
def okEng (v : Nat) : Bool := decide (v < 16)
def okSpoke (v : Nat) : Bool := decide (v < 32)
def okCtx (v : Nat) : Bool := decide (v < 2 ^ 20)
def okPart (v : Nat) : Bool := decide (v < 64)
def okQueue (v : Nat) : Bool := decide (v < 2 ^ 14)
def okVec (v : Nat) : Bool := decide (v < 2 ^ 11)
def okPkg (v : Nat) : Bool := decide (v < 2 ^ 12)
def okPoint (v : Nat) : Bool := decide (v < 16)
/-- A line by CADDR bits [46:6] (R289). -/
def okLine (v : Nat) : Bool := decide (v < 2 ^ 41)
def okTid (v : Nat) : Bool := decide (v < 2 ^ 8)
def okLine64 (bs : List Byte) : Bool := decide (bs.length = 64)
/-- A supervisor frame: TYPE, SEQ, VALUE and CRC (Table 02-8). -/
def okFrame (v : Nat) : Bool := decide (v < 2 ^ 32)
/-- Sixteen quad sensors and eight others (R451). -/
def okTemps (l : List Nat) : Bool := decide (l.length = 24)
/-- A batch covers at most 32 cycles of one island (R486). -/
def okOccs (l : List PmcOcc) : Bool := l.all (fun e => decide (e.n ≤ 32))
def Machine.Hdr.ok (e : Hdr) : Bool :=
  fits e.flags 1 && fits e.len 2 && okCtx e.ctx && okPart e.part && fits e.tag 8 && decide (e.payload.length ≤ 448) &&
  (match e.trailer with
   | none => true
   | some t => okW64 t.1 && okW64 t.2)
def Machine.CohReq.ok (r : CohReq) : Bool := decide (r.way < 16) && okTid r.tid && decide (r.rcid.getD 0 < 128) && okCtx r.ctx && okLine r.line
def Machine.FabPkt.ok (p : FabPkt) : Bool :=
  okPkg p.dst && okPkg p.src && okCtx p.ctx && decide (p.hop < 8) && decide (p.len ≤ 256) && decide (p.payload.length ≤ 256) && okW64 p.addr

/-- Well-formed commands. -/
def WellFormed (i : Instr) : Bool :=
  match i with
  | .registerWrite via off value _ => okVia via && okOff off && okW64 value
  | .misalignedRegisterAccess via off _ => okVia via && okOff off
  | .lockSet via _ => okVia via
  | .mctpRegisterMessage _ _ off _ => okOff off
  | .crossingEntryDelivery _ island => okIsland island
  | .islandClockGate _ island => okIsland island
  | .islandRetentionEntry _ island => okIsland island
  | .qosLeaseGrant _ cls point part => okPoint cls && okPoint point && okPart part
  | .qosRefillTick _ => true
  | .errorQueueEntryFreed _ island => okIsland island
  | .errorMessageAccept _ => true
  | .fatalHalfReset _ => true
  | .fatalNoticeReceive _ _ _ => true
  | .errorRecordClear via _ _ => okVia via
  | .errorLogStatusRead via _ => okVia via
  | .errorLogEntryRead via _ _ => okVia via
  | .errorInject via _ value => okVia via && okW64 value
  | .severeSourceClear via _ => okVia via
  | .kilnWatchdogExpiry _ _ => true
  | .sramEccError _ _ _ => true
  | .planMoveClockSwitch _ island => okIsland island
  | .planMoveVoltageStep _ island => okIsland island
  | .sprintRequest _ quad => okQuad quad
  | .loadStepAck _ frame => okFrame frame
  | .sprintEntry _ quad => okQuad quad
  | .sprintAckTimeout _ quad => okQuad quad
  | .sprintBudgetExpiry _ quad => okQuad quad
  | .sprintDwellExpiry _ quad => okQuad quad
  | .hlUp port => okPair port
  | .hlRetrain port _ => okPair port
  | .hlDown port => okPair port
  | .hlHotReset port => okPair port
  | .containRearm via port _ => okVia via && okPair port
  | .hlLpStateChange port _ => okPair port
  | .linkL0pRequest port => okPair port
  | .linkL1Request port => okPair port
  | .linkPowerRequestTimeout port => okPair port
  | .checkerAck _ => true
  | .checkerAckTimeout _ => true
  | .checkerViolationReport _ _ addr va ctx part _ => okW64 addr && okW64 va && okCtx ctx && okPart part
  | .laneHealthRecord _ port lane rec => okOpt port && okLane lane && okW96 rec
  | .laneHealthEval _ => true
  | .laneMapConfirm _ port => okOpt port
  | .lswap _ port lane spare => okOpt port && okLane lane && okLane spare
  | .lswapAck _ port => okOpt port
  | .brownoutHoldEntry _ => true
  | .brownoutHoldRelease _ => true
  | .pwrFail _ => true
  | .telemetryVoltage _ frame => okFrame frame
  | .telemetryCurrent _ frame => okFrame frame
  | .supervisorFrameDiscard _ frame _ => okFrame frame
  | .stageCurrentLimit _ frame => okFrame frame
  | .telemetryLoss _ => true
  | .issueRampStep _ group => okGroup group
  | .thermalSample _ temps => okTemps temps
  | .tapInstruction _ _ => true
  | .ucieLaneRepair _ port => okDie port
  | .blkRefclkLoss _ => true
  | .blkRefclkReturn _ => true
  | .logicPwrgoodFall _ => true
  | .logicPwrgoodRise _ => true
  | .pkgRstNAssert => true
  | .halfRstNAssert _ => true
  | .resetRelease _ => true
  | .bisqueServiceReady _ => true
  | .memoryTrainingComplete _ _ => true
  | .glazeServiceEntry _ _ => true
  | .helloSend _ => true
  | .hello _ _ => true
  | .helloAck _ _ => true
  | .pairingWindowClose _ => true
  | .heartbeatSend _ => true
  | .heartbeat _ time _ => okW64 time
  | .partnerSilent _ => true
  | .tdmPhyDown _ => true
  | .livenessWrite _ => true
  | .livenessProbeResult _ _ _ => true
  | .freewheelEntry _ => true
  | .mirror _ seq _ => okW32 seq
  | .mirrorAck _ seq => okW32 seq
  | .doorbellFwd _ queue pidx => okQueue queue && okW32 pidx
  | .xreq _ tag _ => okW32 tag
  | .xrsp _ tag data => okW32 tag && okW64 data
  | .inval _ seq _ ctx va pages => okW32 seq && okCtx ctx && okW64 va && okW64 pages
  | .invalAck _ seq _ _ _ => okW32 seq
  | .offline _ => true
  | .online _ => true
  | .halfOffline queue hdr body => okQueue queue && Hdr.ok hdr && HalfBody.ok body
  | .halfOfflineDrainExpiry _ => true
  | .halfOnline queue hdr => okQueue queue && Hdr.ok hdr
  | .queueRehome queue => okQueue queue
  | .pairReset via _ value => okVia via && okW64 value
  | .doorbell via queue value => okVia via && okQueue queue && okW32 value
  | .cqHeadWrite via queue value => okVia via && okQueue queue && okW32 value
  | .packetFetch queue => okQueue queue
  | .packetFetchComplete queue => okQueue queue
  | .fetchError queue _ => okQueue queue
  | .packetDispatch _ => true
  | .packetComplete queue slot => okQueue queue && okW32 slot
  | .signalTrailer queue slot => okQueue queue && okW32 slot
  | .replyWrite queue => okQueue queue
  | .indexWordWrite queue => okQueue queue
  | .msixSend port part vec => okPair port && okPart part && okVec vec
  | .msixHoldoffExpiry port part vec => okPair port && okPart part && okVec vec
  | .msixUnmask port part vec => okPair port && okPart part && okVec vec
  | .adminQueueEnable via _ => okVia via
  | .adminQueueDisable via _ => okVia via
  | .queueResume via queue => okVia via && okQueue queue
  | .nop queue hdr => okQueue queue && Hdr.ok hdr
  | .copy queue hdr body => okQueue queue && Hdr.ok hdr && CopyBody.ok body
  | .fill queue hdr body => okQueue queue && Hdr.ok hdr && FillBody.ok body
  | .writeInline queue hdr body => okQueue queue && Hdr.ok hdr && InlineBody.ok body
  | .copyTiled queue hdr body => okQueue queue && Hdr.ok hdr && TiledBody.ok body
  | .gather queue hdr body => okQueue queue && Hdr.ok hdr && IndexedBody.ok body
  | .scatter queue hdr body => okQueue queue && Hdr.ok hdr && IndexedBody.ok body
  | .fenceSignal queue hdr body => okQueue queue && Hdr.ok hdr && SignalBody.ok body
  | .fenceWait queue hdr body => okQueue queue && Hdr.ok hdr && WaitBody.ok body
  | .eventRaise queue hdr body => okQueue queue && Hdr.ok hdr && EventBody.ok body
  | .transform queue hdr body => okQueue queue && Hdr.ok hdr && TransformBody.ok body
  | .reduce queue hdr body => okQueue queue && Hdr.ok hdr && ReduceBody.ok body
  | .routeDispatch queue hdr body => okQueue queue && Hdr.ok hdr && RouteBody.ok body
  | .routeReturn queue hdr body => okQueue queue && Hdr.ok hdr && RouteBody.ok body
  | .routeCombine queue hdr body => okQueue queue && Hdr.ok hdr && RouteBody.ok body
  | .routeFenceSignal _ chan _ => okChan chan
  | .draftOpen queue hdr body => okQueue queue && Hdr.ok hdr && OpenBody.ok body
  | .draftSend queue hdr body => okQueue queue && Hdr.ok hdr && SendBody.ok body
  | .draftClose queue hdr body => okQueue queue && Hdr.ok hdr && CloseBody.ok body
  | .map queue hdr body => okQueue queue && Hdr.ok hdr && MapBody.ok body
  | .unmap queue hdr body => okQueue queue && Hdr.ok hdr && RangeBody.ok body
  | .invalidateRange queue hdr body => okQueue queue && Hdr.ok hdr && RangeBody.ok body
  | .pin queue hdr body => okQueue queue && Hdr.ok hdr && RangeBody.ok body
  | .unpin queue hdr body => okQueue queue && Hdr.ok hdr && RangeBody.ok body
  | .alloc queue hdr body => okQueue queue && Hdr.ok hdr && AllocBody.ok body
  | .free queue hdr body => okQueue queue && Hdr.ok hdr && FreeBody.ok body
  | .prefetchStream queue hdr body => okQueue queue && Hdr.ok hdr && PrefetchBody.ok body
  | .prefetchStreamStop queue hdr body => okQueue queue && Hdr.ok hdr && PrefetchBody.ok body
  | .queryCapability queue hdr body => okQueue queue && Hdr.ok hdr && QueryBody.ok body
  | .queryContext queue hdr body => okQueue queue && Hdr.ok hdr && QueryBody.ok body
  | .queryAllocator queue hdr body => okQueue queue && Hdr.ok hdr && QueryBody.ok body
  | .ctxCreate queue hdr body => okQueue queue && Hdr.ok hdr && CtxBody.ok body
  | .ctxDestroy queue hdr body => okQueue queue && Hdr.ok hdr && CtxDestroyBody.ok body
  | .ctxDrainComplete _ ctx => okCtx ctx
  | .drainBoundExpiry _ _ id => okCtx id
  | .queueCreate queue hdr body => okQueue queue && Hdr.ok hdr && QueueBody.ok body
  | .queueDestroy queue hdr body => okQueue queue && Hdr.ok hdr && QueueDestroyBody.ok body
  | .partConfig queue hdr body => okQueue queue && Hdr.ok hdr && PartBody.ok body
  | .keyInstall queue hdr body => okQueue queue && Hdr.ok hdr && KeyBody.ok body
  | .keyRetire queue hdr body => okQueue queue && Hdr.ok hdr && KeyRetireBody.ok body
  | .keyRetireSweep queue hdr body => okQueue queue && Hdr.ok hdr && KeyRetireBody.ok body
  | .sweepChunkUnlock _ => true
  | .regionRegister queue hdr body => okQueue queue && Hdr.ok hdr && RegionBody.ok body
  | .regionRelease queue hdr body => okQueue queue && Hdr.ok hdr && RegionReleaseBody.ok body
  | .fwStage queue hdr body => okQueue queue && Hdr.ok hdr && FwBody.ok body
  | .fwStageLast queue hdr body => okQueue queue && Hdr.ok hdr && FwBody.ok body
  | .fwStageActivate queue hdr body => okQueue queue && Hdr.ok hdr && FwBody.ok body
  | .fwStageService queue hdr body => okQueue queue && Hdr.ok hdr && FwBody.ok body
  | .journalRead queue hdr body => okQueue queue && Hdr.ok hdr && JournalBody.ok body
  | .journalReadService queue hdr body => okQueue queue && Hdr.ok hdr && JournalBody.ok body
  | .marginReplan queue hdr => okQueue queue && Hdr.ok hdr
  | .chipletAdmit queue hdr body => okQueue queue && Hdr.ok hdr && ChipBody.ok body
  | .fabricJoin queue hdr body => okQueue queue && Hdr.ok hdr && JoinBody.ok body
  | .fabricUpdate queue hdr body => okQueue queue && Hdr.ok hdr && JoinBody.ok body
  | .fabricLeave queue hdr body => okQueue queue && Hdr.ok hdr && JoinBody.ok body
  | .diagRead queue hdr body => okQueue queue && Hdr.ok hdr && DiagBody.ok body
  | .diagWrite queue hdr body => okQueue queue && Hdr.ok hdr && DiagBody.ok body
  | .contextLoss _ => true
  | .fenceSignalApply queue slot => okQueue queue && okW32 slot
  | .fenceWaitPoll _ queue slot => okQueue queue && okW32 slot
  | .fenceWaitTimeout _ queue slot => okQueue queue && okW32 slot
  | .objectReclaim _ => true
  | .walkStart _ => true
  | .walkGroupRead _ spoke _ => okSpoke spoke
  | .adUpdateCas _ spoke _ => okSpoke spoke
  | .spokeFail _ spoke => okSpoke spoke
  | .holderSpanRelease _ _ => true
  | .atsCompletion _ _ addr _ _ _ => okW64 addr
  | .xtReq _ port _ tid ctx va => okDie port && okTid tid && okCtx ctx && okW64 va
  | .chipletUntranslatedAccess _ port ctx _ va _ _ => okDie port && okCtx ctx && okW64 va
  | .chipletTranslatedAccess _ port ctx _ _ addr _ _ => okDie port && okCtx ctx && okW64 addr
  | .pageRequestIssue port vf => okPair port && okPart vf
  | .prgResponse port vf _ _ => okPair port && okPart vf
  | .priTimeout _ chan => okChan chan
  | .allocatorFaultAnswer _ chan => okChan chan
  | .holderRecallAck _ _ => true
  | .xtInvAck _ port _ _ => okDie port
  | .chipletAckTimeout _ port _ => okDie port
  | .invalidationComplete _ => true
  | .registerInvalidate via _ => okVia via
  | .atsInvalidateRequest port tag _ addr _ _ => okPair port && okW32 tag && okW64 addr
  | .dmaBurstIssue _ engine => okEng engine
  | .readCompletion _ chan _ => okChan chan
  | .writeAck _ queue slot => okQueue queue && okW32 slot
  | .flushReadComplete _ port => okPair port
  | .flushReadRefused _ port => okPair port
  | .idleFlush _ port => okPair port
  | .meshWriteError _ chan => okChan chan
  | .channelParityError _ chan => okChan chan
  | .busMasterEnableClear port vf => okPair port && okPart vf
  | .busMasterEnableSet port vf => okPair port && okPart vf
  | .engineIssue _ engine => okEng engine
  | .programLoadComplete _ chan => okChan chan
  | .tableLoadComplete _ chan => okChan chan
  | .engineParityError _ engine => okEng engine
  | .draftSlotCommit _ chan => okChan chan
  | .draftCreditResume _ chan => okChan chan
  | .draftCreditTimeout _ chan => okChan chan
  | .draftResync _ => true
  | .wareLookup _ chan ctx part addr _ => okChan chan && okCtx ctx && okPart part && okW64 addr
  | .wareFillReturn _ tag _ _ => okW32 tag
  | .wareScrub _ => true
  | .wareDisable _ => true
  | .prefetchFill _ _ => true
  | .prefetchIdleEnd _ _ => true
  | .windowEnable via => okVia via
  | .windowDisable via => okVia via
  | .rdShared _ port req => okDie port && CohReq.ok req
  | .rdOwn _ port req => okDie port && CohReq.ok req
  | .upgrade _ port req => okDie port && CohReq.ok req
  | .rdOnce _ port req => okDie port && CohReq.ok req
  | .wrOnce _ port req => okDie port && CohReq.ok req
  | .datWr _ port tid mask data _ => okDie port && okTid tid && okW64 mask && okLine64 data
  | .rspI _ port tid => okDie port && okTid tid
  | .rspS _ port tid => okDie port && okTid tid
  | .rspIEvicting _ port tid => okDie port && okTid tid
  | .datSnp _ port tid _ _ _ data => okDie port && okTid tid && okLine64 data
  | .evc _ port tid line => okDie port && okTid tid && okLine line
  | .evd _ port tid line _ data => okDie port && okTid tid && okLine line && okLine64 data
  | .crd _ port _ _ _ => okDie port
  | .cohTransactionClose _ _ => true
  | .reservationGrant _ => true
  | .reservationExpiry _ _ => true
  | .snoopTimeout _ port tid => okDie port && okTid tid
  | .ioRequest _ tag _ line data mask => okW32 tag && okLine line && okLine64 data && okW64 mask
  | .hostMemRequest _ port _ line data => okPort port && okLine line && okLine64 data
  | .birsp _ port line _ => okPort port && okLine line
  | .biTimeout _ port line => okPort port && okLine line
  | .hostSnoop _ port _ line => okPort port && okLine line
  | .cxlCacheGo _ line _ _ => okLine line
  | .linkHelloSend _ port => okOpt port
  | .linkHello _ port pkg _ _ => okOpt port && okPkg pkg
  | .fabricJoinLimitExpiry _ => true
  | .rdReq _ pkt => FabPkt.ok pkt
  | .wrReq _ pkt => FabPkt.ok pkt
  | .atFetchAdd _ pkt => FabPkt.ok pkt
  | .atCompareSwap _ pkt => FabPkt.ok pkt
  | .atFenceSignal _ pkt => FabPkt.ok pkt
  | .ping _ pkt => FabPkt.ok pkt
  | .packetForward _ port pkt => okOpt port && FabPkt.ok pkt
  | .rdData _ tag _ _ => okW32 tag
  | .wrAck _ tag => okW32 tag
  | .atRsp _ tag old _ _ => okW32 tag && okW64 old
  | .pong _ tag => okW32 tag
  | .nack _ tag _ => okW32 tag
  | .credit _ port _ _ _ => okOpt port
  | .flitCrcFail _ port _ => okOpt port
  | .idleFlit _ port => okOpt port
  | .fabricReqTimeout _ tag => okW32 tag
  | .portDown _ port _ => okOpt port
  | .unreachPing _ pkg => okPkg pkg
  | .pathDrainEnd _ pkg => okPkg pkg
  | .fabGrantWrite via _ value => okVia via && okW64 value
  | .bondWrite via _ value => okVia via && okW64 value
  | .memoryWindowWrite via _ tag off _ _ => okVia via && okW32 tag && okW64 off
  | .memoryWindowRead via _ tag off _ => okVia via && okW32 tag && okW64 off
  | .peerZeroLengthRead via _ off => okVia via && okW64 off
  | .ptmExchange _ => true
  | .ptmResponse _ master => okW64 master
  | .ptmSyncLost _ => true
  | .d3hotEntry port vf => okPair port && okPart vf
  | .d0Return port vf => okPair port && okPart vf
  | .functionLevelReset port vf => okPair port && okPart vf
  | .vfEnableClear port => okPair port
  | .partitionResetComplete _ part => okPart part
  | .frameReclaimDone _ part => okPart part
  | .spdmGetCertificate _ _ _ => true
  | .spdmChallenge _ _ _ _ => true
  | .spdmMeasurements _ _ _ _ _ => true
  | .spdmKeyExchange _ _ => true
  | .spdmKeyUpdate _ _ => true
  | .spdmHeartbeat _ _ => true
  | .spdmHeartbeatTimeout _ _ => true
  | .spdmEndSession _ _ => true
  | .keyStage _ _ ctx epoch _ => okCtx ctx && okW64 epoch
  | .debugNonce _ _ => true
  | .debugNonceLapse _ => true
  | .debugUnlock _ _ _ => true
  | .debugLock _ _ => true
  | .debugRelock via _ => okVia via
  | .deepIdleEntry _ => true
  | .deepIdleWake _ => true
  | .firmwareAuthenticate _ => true
  | .fwMctpImage _ off _ _ => okW32 off
  | .imageSourceTimeout _ => true
  | .serviceRecordReturn _ _ => true
  | .chipletLinkTimeout _ port => okDie port
  | .marginReplanRun _ _ _ => true
  | .wearHour _ island => okIsland island
  | .journalSpill _ => true
  | .pmcBatch _ _ _ occs => okOccs occs
  | .pwrWarnFall _ _ => true
  | .priEnableChange port vf => okPair port && okPart vf
  | .ucieLinkUp _ port _ _ => okDie port
  | .draftCloseLimitExpiry queue slot => okQueue queue && okW32 slot

end Sys2Proof
end

