-- ==== Sys2Proof/Tests/Slice0.lean ====
section
/-! SUPPORT. The author's own tests: the WellFormed smoke, and for every statement that has hypotheses a theorem that applies it to concrete states
and operands, each hypothesis discharged by evaluation. Numbers in them come from the spec's rules or from hand calculation. -/
namespace Sys2Proof.Tests
open Sys2Proof Sys2Proof.Machine
set_option Elab.async false

/-- A command completes from a state: the conclusion that the witnesses below draw from the statements. -/
def Runs (c : Instr) (s : State) : Prop := ∃ t, exec c s = .next t

theorem ran {c : Instr} {s : State} {P : Mach → Prop} (h : Completes c s P) : Runs c s := h.elim (fun _ k => ⟨_, k.1⟩)

theorem sat {c : Instr} {s : State} {P : Mach → Prop} (h : Settles c s P) : Runs c s := h.elim (fun _ k => ⟨_, k.1⟩)

/-- A queue that runs, with rings of 64 slots. -/
def q0 : Queue := { st := .running, home := .A, allowPrio := true, sqLog2 := 6, cqLog2 := 6, sqBase := 0x1000, cqBase := 0x2000, cidxAddr := 0x3000 }

/-- The fence area of context 5, and the context. -/
def area : MemObj := { kind := .fenceArea, ctx := 5, part := 0, va := 0x7000000, size := 4096, frames := [2 ^ 30], shared := true }
def cx : Ctx :=
  { st := .active, part := 0, fenceVa := 0x7000000, fenceLog2 := 9, fenceFrame := 2 ^ 30, heapVa := 0x40000000, heapSize := 0x40000000,
    eventVa := 0x6000000, eventLog2 := 4, root := 2 ^ 31 + 2 ^ 32 }

/-- A cached span of context 5 to device memory. -/
def span (va frame pages : Nat) : Span :=
  { ctx := 5, va := va, pages := pages, frame := frame, size := 0, target := 0, rd := true, wr := true, dirty := true }

/-- A half without a partner in Glaze service: an admin queue and queue 1 of context 5, whose pages at 0x1000000 and 0x2000000 are cached. -/
def solo : Half :=
  { fuse := { tandem := false }, pins := { pkgRstN := true, halfRstN := true }, boot := { inReset := false, stage := 4, readyLow := true, memTrained := true },
    tdm := { st := .solo }, ports := [(0, { up := true })], fns := [(0, { bme := true })],
    xlt := { iotlb := [span 0x1000000 (2 ^ 32) 16, span 0x2000000 (2 ^ 32 + 2 ^ 20) 16, span 0x7000000 (2 ^ 30) 1,
                       span 0x6000000 (2 ^ 32 + 2 ^ 21) 1] },
    obj := { ctxs := [(5, cx)], queues := [(0, q0), (1, { q0 with ctx := 5, sqBase := 0x5000, cqBase := 0x6000, cidxAddr := 0x7000 })], mems := [area] } }

/-- A machine whose half A is the one above, as `f` changes it. -/
def onA (f : Half → Half) : State := { sys := { blk := { a := f solo } } }
def base : State := onA id

/-- A state's block time is 7 ns on half A, and no clock input waits. -/
theorem meets_BlockTimeNeverGoesBack (o : Obligations.BlockTimeNeverGoesBack) :
    let s : State := { sys := { clk := { a := { time := 7 } } }, pending := [.logicPwrgoodRise .B] }
    ∃ t, step s = .next t ∧ 7 ≤ t.sys.clk.now .A :=
  ⟨_, rfl, o .A 7 { sys := { clk := { a := { time := 7 } } }, pending := [.logicPwrgoodRise .B] } _ (by decide) rfl (by decide)⟩

/-- Every access code of the statement is some field's, and a half-written register leaves a field. -/
theorem meets_AccessCodesDecideAWrite :
    let has (p : Fld → Bool) : Bool := [0x0100000, 0x0020000, 0x0020008, 0x0030020, 0x0A00000, 0x0200030, 0x0200000].any (fun off =>
      (regAt off).any (fun r => r.flds.any p))
    has (fun f => f.acc == .ro) ∧ has (fun f => f.acc == .wo) ∧ has (fun f => f.acc == .flag) ∧ has (fun f => f.acc == .rwl && f.lim.isNone) ∧
    has (fun f => f.acc == .rwl && f.lim.isSome && f.resv.isEmpty) ∧ has (fun f => f.acc == .rw) ∧ has (fun f => f.reached 0xFFFFFFFF00000000 == false) := by
  decide +kernel

theorem meets_ResetInputsHoldTheHalf (o : Obligations.ResetInputsHoldTheHalf) :
    Runs (.fatalHalfReset .A) (onA (fun x => { x with boot := { x.boot with fatalDue := some 5 } })) :=
  ran (o.2.2.2 _ _ 5 rfl)

theorem meets_ReleaseStartsTheHalf (o : Obligations.ReleaseStartsTheHalf) :
    Runs (.resetRelease .A) (onA (fun x => { x with boot := {}, pins := {} })) ∧
    Runs (.bisqueServiceReady .A) (onA (fun x => { x with boot := { inReset := false } })) :=
  ⟨ran (o.1 _ _ (by decide +kernel) (by decide +kernel)), ran (o.2.1 _ _ (by decide +kernel) (by decide +kernel))⟩

/-- A firmware image with 4096 bytes of zeros as its code: FWREV 1.1, and the digest of R464, SHA-384 of 4096 zero bytes. -/
def image : List Byte :=
  leBytes 4 0x37465157 ++ [1, 1, 0, 0] ++ leBytes 4 4096 ++ leBytes 4 0 ++ leBytes 48 0x74d7a82acfae1e4a35566fa1f709685864fc4eef4f7c735f51ff96429445c7abac2f4336fb2854c7b5d3fb3f3e9ae5c0 ++ List.replicate (256 - 64 + 4096) 0
def bring (stage : Nat) (bootSrc : Bool) : State :=
  onA (fun x => { x with latched := { bootSrc := bootSrc }, boot := { inReset := false, stage := stage, memTrained := true } })
def staged : State := onA (fun x => { x with boot := { inReset := false, stage := 1, pendingCopy := some { bytes := image, last := true } } })

/-- The image passes every check of authentication but the signature's, which is a free value. -/
theorem image_checks {x : Half} {m : Option Nat} {i : List Byte} (e : x.fuse = { tandem := false }) (n : m = none) (j : i = image)
    (k : Config.sigValid 0 (image.take 64) ((image.drop 64).take 96) = true) : x.fwCheck m i = 0 := by
  subst n j
  unfold Half.fwCheck
  rw [e]
  generalize hb : Config.sigValid _ _ _ = b
  have : b = true := hb ▸ k
  subst this
  clear hb k
  decide +kernel

theorem meets_BringUpReachesGlaze (o : Obligations.BringUpReachesGlaze) :
    Runs (.glazeServiceEntry .A []) (bring 3 false) ∧
    (Config.sigValid 0 (image.take 64) ((image.drop 64).take 96) → Runs (.firmwareAuthenticate .A) staged) ∧
    Runs (.fwMctpImage .A 0 [1, 2] false) (bring 1 true) ∧ Runs (.imageSourceTimeout .A) (bring 1 false) ∧
    (Config.recordAuthentic 0 (List.replicate 4096 0) → Runs (.serviceRecordReturn .A (List.replicate 4096 0)) (bring 1 false)) :=
  let ⟨_, a, i, b, c, d⟩ := o
  ⟨ran (a _ _ _ (by decide +kernel) (by decide +kernel) (by decide +kernel)),
   fun k => ran (i _ _ { bytes := image, last := true } false [] (by decide +kernel) (by decide +kernel) (by decide +kernel) rfl (image_checks rfl (by decide +kernel) rfl k)),
   ran (b _ _ _ _ _ (by decide +kernel) (by decide +kernel) (by decide +kernel) (by decide +kernel) (by decide +kernel)),
   ran (c _ _ (by decide +kernel) (by decide +kernel) (by decide +kernel) (by decide +kernel)),
   fun k => ran (d _ _ _ (by decide +kernel) (by decide +kernel) k (by decide +kernel))⟩

/-- A half whose quad 0 is as given, and whose supplies are. -/
def quad0 (q : Quad) : State := onA (fun x => { x with quads := [(0, q)] })
def power (p : PwrUnit) : State := onA (fun x => { x with pwr := p })
/-- One island as given. -/
def island (i : Nat) (k : Island) : State := onA (fun x => { x with isl := [(i, k)] })

/-- Supervisor frames of each kind, CRC-8 and all: a load-step answer for sequence 0 and quad 0, and one for quad 1, sequence 3. -/
theorem meets_SprintFollowsItsNotice (o : Obligations.SprintFollowsItsNotice) :
    Runs (.sprintRequest .A 0) base ∧ Runs (.sprintDwellExpiry .A 3) base ∧ Runs (.sprintRequest .A 4) base ∧
    Runs (.loadStepAck .A 805306593) (quad0 { notice := some (0, 3) }) ∧ Runs (.sprintEntry .A 0) (quad0 { notice := some (0, 3), acked := some 5 }) ∧
    Runs (.sprintAckTimeout .A 0) (quad0 { notice := some (0, 3) }) ∧ Runs (.sprintBudgetExpiry .A 0) (quad0 { sprint := some 0 }) :=
  ⟨ran ((o.1 _ _ _ _ (.inl rfl)).1 (by decide +kernel)), ran ((o.1 _ _ _ _ (.inr rfl)).1 (by decide +kernel)),
   ran ((o.1 _ _ _ _ (.inl rfl)).2 (by decide +kernel)), ran (o.2.1 _ _ _ 3 (by decide +kernel) (by decide +kernel) (by decide +kernel)),
   ran (o.2.2.1 _ _ _ (by decide) (by decide +kernel) (by decide +kernel) (by decide +kernel)),
   ran (o.2.2.2.1 _ _ _ (by decide +kernel) (by decide +kernel)), ran (o.2.2.2.2 _ _ _ 0 (by decide +kernel))⟩

theorem meets_SupplyInputsActOnTheHalf (o : Obligations.SupplyInputsActOnTheHalf) :
    Runs (.brownoutHoldEntry .A) base ∧
    Runs (.brownoutHoldRelease .A) (power { hold := true, recovering := some 0, vin := 40000 }) ∧
    Runs (.telemetryVoltage .A 280723699) base ∧ Runs (.telemetryCurrent .A 537254936) base ∧ Runs (.supervisorFrameDiscard .A 0 true) base ∧
    Runs (.supervisorFrameDiscard .A 280723699 false) base :=
  let ⟨a, b, _, _, c, d, e⟩ := o
  ⟨ran (a _ _ (by decide +kernel)), ran (b _ _ (by decide +kernel) (by decide +kernel) (by decide +kernel)),
   ran (c _ _ _ (by decide +kernel) (by decide +kernel)), ran (d _ _ _ (by decide +kernel) (by decide +kernel)),
   ran (e _ _ _ _ (by decide +kernel)), ran (e _ _ _ _ (by decide +kernel))⟩

theorem meets_LimitsSlowTheQuads (o : Obligations.LimitsSlowTheQuads) :
    Runs (.stageCurrentLimit .A 1074726238) base ∧ Runs (.telemetryLoss .A) base ∧ Runs (.issueRampStep .A 0) (quad0 { ramping := true, issue := 4 }) :=
  ⟨ran (o.1 _ _ _ (by decide +kernel) (by decide +kernel)), ran (o.2.1 _ _ (by decide +kernel)), ran (o.2.2.2.1 _ _ _ (by decide) (by decide +kernel))⟩

/-- Islands 0 and 13 are the ends of the range that may be gated. -/
theorem meets_IslandsSleepAndWake (o : Obligations.IslandsSleepAndWake) :
    Runs (.islandClockGate .A 0) base ∧ Runs (.islandClockGate .A 13) base ∧
    Runs (.islandRetentionEntry .A 2) (onA (fun x => { x with isl := [(2, { st := .clockGated })], regs := [(0x0A00008, 1)] })) ∧
    Runs (.planMoveClockSwitch .A 5) (island 5 { moveTo := some 2 }) ∧ Runs (.planMoveVoltageStep .A 5) (island 5 { volPending := some 2 }) ∧
    Runs (.deepIdleEntry .A) (onA (fun x => { x with ports := [(0, { lpState := 2 }), (1, { lpState := 2 })], regs := [(0x0A00008, 3)] })) ∧ Runs (.deepIdleWake .A) (power { deepIdle := some 4 }) :=
  let ⟨a, b, _, c, d, e, f⟩ := o
  ⟨ran (a _ _ _ (by decide) (by decide +kernel)), ran (a _ _ _ (by decide) (by decide +kernel)),
   ran (b _ _ _ (by decide +kernel) (by decide +kernel) (by decide +kernel)), ran (c _ _ _ 2 (by decide +kernel) (by decide +kernel)),
   ran (d _ _ _ 2 (by decide +kernel)), ran (e _ _ (by decide +kernel)), ran (f _ _ 4 (by decide +kernel))⟩

theorem meets_PeriodicWorkKeepsItsBooks (o : Obligations.PeriodicWorkKeepsItsBooks) :
    Runs (.qosLeaseGrant .A 0 0 0) (onA (fun x => { x with qos := { buckets := [(bucketKey 0 0 0, { waiting := true, level := 2 ^ 40 })] } })) ∧
    Runs (.qosRefillTick .A) (onA (fun x => { x with qos := { refills := [(0, 7)] } })) ∧
    Runs (.wearHour .A 0) base ∧ Runs (.wearHour .A 5) base ∧ Runs (.wearHour .A 8) base ∧ Runs (.wearHour .A 9) base ∧
    Runs (.journalSpill .A) (onA (fun x => { x with jnl := { x.jnl with head := 12288 } })) ∧
    Runs (.pmcBatch .A 0 32 []) (onA (fun x => { x with regs := [(pmcBase 0, 1)] })) ∧
    Runs (.pmcBatch .A 11 40 []) (onA (fun x => { x with regs := [(pmcBase 11, 1)] })) :=
  let ⟨a, b, c, d, _, e, f⟩ := o
  ⟨ran (a _ _ _ _ _ _ rfl (by decide +kernel) (by decide +kernel) (by decide +kernel)),
   ran (b _ _ 0 7 (by decide +kernel) (by decide +kernel) (by decide +kernel)), ran (c _ _ _ (by decide)), ran (d _ _ _ (by decide) (by decide)),
   ran (d _ _ _ (by decide) (by decide)), ran (c _ _ _ (by decide)), ran (e _ _ (by decide +kernel) (by decide +kernel)),
   ran (f _ _ _ _ _ (by decide) (by decide +kernel) (by decide +kernel) (by decide +kernel)),
   ran (f _ _ _ _ _ (by decide) (by decide +kernel) (by decide +kernel) (by decide +kernel))⟩

/-- A register access through the physical function of port 0 is let through, and so is one by MCTP. -/
theorem admits_fn (s : State) (off : Nat) (h1 : (s.sys.half .A).boot.inReset = false) (h2 : s.sys.blk.fnGate (.fn 0 0 0) off = (s.sys.blk, true)) :
    s.sys.Admits (.fn 0 0 0) .A off := ⟨h1, rfl, h2, .inl rfl⟩

def errs (e : ErrUnit) : Half → Half := fun x => { x with err := e }
def anErr : ErrMsg := { sev := 3, source := 5, kind := 0x21 }
theorem meets_CollectorCommandsAct (o : Obligations.CollectorCommandsAct) :
    Runs (.errorQueueEntryFreed .A 4) (onA (errs { queues := [(4, [anErr, anErr])], stalled := [(4, [anErr])] })) ∧ Runs (.kilnWatchdogExpiry .A 3) base ∧
    Runs (.sramEccError .A (.iotlb 0) 2) base ∧ Runs (.errorRecordClear (.fn 0 0 0) .A .first) base ∧ Runs (.errorRecordClear (.mctp 1) .A .fatal) base ∧
    Runs (.errorRecordClear (.fn 0 0 0) .A (.part 3)) (onA (errs { parts := [(3, {})] })) ∧ Runs (.errorLogStatusRead (.mctp 1) .A) base ∧
    Runs (.errorLogEntryRead (.fn 0 0 0) .A true) (onA (errs { log := [(0, { msg := anErr, stamp := 9 })] })) ∧
    Runs (.errorInject (.fn 0 0 0) .A (2 ^ 64 - 1)) base ∧ Runs (.severeSourceClear (.fn 0 0 0) .A) (onA (errs { sources := [(0, { source := 5, severe := true })] })) :=
  let ⟨a, b, c, _, d, e, f, g, h, i⟩ := o
  ⟨ran (a _ _ _ anErr [anErr] rfl), ran (b _ _ _ (by unfold Half.hasRoom; decide +kernel)),
   sat (c _ _ _ _ (by decide +kernel) (by decide) (by unfold Half.hasRoom; decide +kernel)),
   ran (d _ _ _ _ _ (.inl ⟨rfl, rfl⟩) (admits_fn _ _ rfl rfl)), ran (d _ _ _ _ _ (.inr ⟨rfl, rfl⟩) ⟨by decide +kernel, by decide +kernel⟩),
   ran (e _ _ _ _ {} (admits_fn _ _ rfl rfl) rfl), ran (f _ _ _ ⟨by decide +kernel, by decide +kernel⟩),
   ran (g _ _ _ _ { msg := anErr, stamp := 9 } (admits_fn _ _ rfl rfl) (by decide +kernel)), ran (h _ _ _ _ (admits_fn _ _ rfl rfl) (by decide) (by decide)),
   ran (i _ _ _ { source := 5, severe := true } (admits_fn _ _ rfl rfl) (by decide +kernel))⟩

theorem meets_AcceptedMessageIsCaptured (o : Obligations.AcceptedMessageIsCaptured) :
    Runs (.errorMessageAccept .A) (onA (errs { arrived := [(4, anErr, false)] })) :=
  sat (o _ _ 4 anErr false [] rfl (by decide +kernel))

/-- Both halves of a pair, each as changed; `paired` makes a half one that is PAIRED with its partner. -/
def onPair (f g : Half → Half) : State := { sys := { blk := { a := f solo, b := g { solo with id := .B } } } }
def tandem (u : TdmUnit) : Half → Half := fun x => { x with fuse := { x.fuse with tandem := true }, pins := { x.pins with tdmPhyUp := true }, tdm := u }
def paired : Half → Half := tandem { st := .paired }
def vf1 : Half → Half := fun x => { x with fns := [(0, { bme := true, vfEnable := true }), (1, { bme := true })] }

/-- Accesses at both ends of the region that the first clause names, and to the physical, a virtual and the other half's registers. -/
theorem meets_RegisterAccessesAct (o : Obligations.RegisterAccessesAct) :
    Runs (.registerWrite (.fn 0 0 0) 0x0A00000 7 true) base ∧ Runs (.registerWrite (.fn 0 0 0) 0x0C00104 7 false) base ∧
    Runs (.registerWrite (.fn 0 0 0) 0x1A00000 7 true) (onPair paired paired) ∧ Runs (.registerWrite (.fn 0 1 0) 0x10018 63 true) (onA vf1) ∧
    Runs (.misalignedRegisterAccess (.fn 0 0 0) 0x0A00001 true) base ∧ Runs (.lockSet (.fn 0 0 0) .A) base ∧
    Runs (.mctpRegisterMessage .A 1 0x0900000 none) base ∧ Runs (.mctpRegisterMessage .A 1 0x0A00040 (some 5)) base ∧
    Runs (.mctpRegisterMessage .A 1 0x0A00060 (some 5)) base :=
  let ⟨a, b, c, d, e, f, g⟩ := o
  ⟨ran (a _ _ _ 0x0A00000 _ true _ (by decide) (by decide) (by decide) rfl rfl), ran (a _ _ _ 0x0C00104 _ false _ (by decide) (by decide) (by decide) rfl rfl),
   ran (b (onPair paired paired) 0 0 0x0A00000 _ (by decide) (by decide) rfl (by decide) (by decide +kernel) (by decide +kernel)),
   ran (c _ _ 1 _ _ (by decide) rfl), ran (d _ _ _ _ _ _ rfl (by unfold Half.hasRoom; decide +kernel)),
   ran (e _ _ _ (admits_fn base _ rfl rfl) (by decide) (by decide +kernel)),
   ran (f _ _ _ _ (by decide +kernel) (by decide) (by decide) (by decide) (by decide) (by decide)),
   ran (g _ _ _ _ _ _ (by decide +kernel) (by decide) (by decide) (by decide) rfl), ran (g _ _ _ _ _ _ (by decide +kernel) (by decide) (by decide) (by decide) rfl)⟩

def pairing : TdmUnit := { st := .pairing }
/-- HELLO frames of half B: as half A expects, from a half in Freewheel, and from one of another silicon revision. -/
def hello : HelloFrame := { halfId := 1, sirev := 0x0100, features := 0x3FFF }
def fwHello : HelloFrame := { hello with freewheel := true }
theorem meets_PairingIsDecidedByFrames (o : Obligations.PairingIsDecidedByFrames) :
    Runs (.helloSend .A) (onA (tandem pairing)) ∧ Runs (.hello .A hello) (onA (tandem pairing)) ∧ Runs (.helloAck .A fwHello) (onA (tandem pairing)) ∧
    Runs (.hello .A fwHello) (onA (tandem { pairing with longWindow := true })) ∧ Runs (.hello .A { hello with sirev := 0x0200 }) (onA (tandem pairing)) ∧
    Runs (.hello .A hello) (onA (tandem { st := .paired })) ∧
    Runs (.hello .A hello) (onA (fun x => { tandem { st := .freewheel } x with regs := [(0x0020008, 1)] })) ∧
    Runs (.pairingWindowClose .A) (onA (tandem { pairing with longWindow := true, keptHello := some fwHello })) :=
  let ⟨a, b, c, d, e⟩ := o
  ⟨ran (a _ _ (by decide +kernel) (by decide +kernel) (by decide +kernel) (by decide +kernel)),
   sat ((b _ _ _ _ (.inl rfl) (by decide +kernel) (by decide +kernel)).1 (by decide +kernel)),
   sat ((b _ _ _ _ (.inr rfl) (by decide +kernel) (by decide +kernel)).2.1 (by decide +kernel) (by decide +kernel)),
   sat ((b _ _ _ _ (.inl rfl) (by decide +kernel) (by decide +kernel)).2.2.1 (by decide +kernel) (by decide +kernel)),
   sat ((b _ _ _ _ (.inl rfl) (by decide +kernel) (by decide +kernel)).2.2.2 (by decide +kernel) (by decide +kernel) (by unfold Half.hasRoom; decide +kernel)),
   sat (c _ _ _ (by decide +kernel) (by decide +kernel) (by decide +kernel) (by decide +kernel) (by decide +kernel)),
   sat (d _ _ _ (by decide +kernel) (by decide +kernel) (by decide +kernel) (by decide +kernel) (by decide +kernel)),
   sat (e _ _ fwHello (by decide +kernel) (by decide +kernel) (by decide +kernel) (by decide +kernel))⟩

theorem meets_SilenceLeadsToFreewheel (o : Obligations.SilenceLeadsToFreewheel) :
    Runs (.heartbeatSend .A) (onPair paired paired) ∧ Runs (.heartbeat .B 90 2) (onPair paired paired) ∧ Runs (.partnerSilent .A) (onPair paired paired) ∧
    Runs (.tdmPhyDown .B) (onPair paired paired) ∧ Runs (.livenessWrite .A) base ∧
    Runs (.livenessProbeResult .A (some 4) (some 5)) (onPair (tandem { st := .paired, silentAt := some 1 }) paired) ∧
    Runs (.pairingWindowClose .A) (onA (tandem pairing)) ∧
    Runs (.freewheelEntry .A) (onA (tandem { st := .paired, silentAt := some 1, lossClass := some .blockDown })) ∧
    Runs (.freewheelEntry .A) (onA (fun x => { tandem { st := .standby, silentAt := some 1, lossClass := some .dieDown } x with obj := {} })) ∧
    Runs (.offline .A) (onPair paired paired) :=
  let ⟨a, b, c, d, e, f⟩ := o
  ⟨ran (a _ _ (by decide +kernel) (by decide +kernel)), ran (b _ _ _ _ (by decide +kernel)),
   ran (c _ _ _ (.inl rfl) (by decide +kernel) (by decide +kernel) (by decide +kernel) (by unfold Half.hasRoom; decide +kernel)),
   ran (c _ _ _ (.inr rfl) (by decide +kernel) (by decide +kernel) (by decide +kernel) (by unfold Half.hasRoom; decide +kernel)),
   ran (d _ _ (by decide +kernel) (by decide +kernel)), sat (e _ _ _ _ (by decide +kernel) (by decide +kernel) (by decide +kernel)),
   sat (f _ _ _ (by decide +kernel) rfl (by decide +kernel) (.inl ⟨rfl, by decide +kernel, by decide +kernel⟩)),
   sat (f _ _ _ (by decide +kernel) rfl (by decide +kernel) (.inr (.inl ⟨rfl, by decide +kernel, .blockDown, rfl, by decide⟩))),
   sat (f _ _ _ (by decide +kernel) rfl (by decide +kernel) (.inr (.inl ⟨rfl, by decide +kernel, .dieDown, rfl, fun _ => rfl⟩))),
   sat (f _ _ _ (by decide +kernel) rfl (by decide +kernel) (.inr (.inr ⟨rfl, by decide +kernel, by decide +kernel⟩)))⟩

theorem meets_MirrorsAndForwardedWork (o : Obligations.MirrorsAndForwardedWork) :
    Runs (.mirror .A 3 (.context 9 cx)) (onPair paired paired) ∧ Runs (.doorbellFwd .A 1 64) (onPair paired paired) ∧
    Runs (.doorbellFwd .A 9 1) (onPair paired paired) ∧ Runs (.xreq .A 2 (.regRead 0 0x0900000)) (onPair paired paired) ∧
    Runs (.inval .A 4 0 5 0x1000000 1) (onPair paired paired) ∧ Runs (.inval .A 4 3 0 0 0) (onPair paired paired) ∧
    Runs (.invalAck .A 4 0 0 0) (onPair paired paired) :=
  let ⟨a, _, b, c, _, d, e⟩ := o
  ⟨ran (a _ _ _ _ (by decide +kernel) (by decide +kernel)),
   ran ((b _ _ _ _).1 (by decide +kernel) (by decide +kernel) (by decide +kernel) (by decide +kernel) (by decide +kernel)),
   ran ((b _ _ _ _).2 (by decide +kernel)), sat (c _ _ _ _ _ (by decide +kernel)),
   sat (d _ _ _ _ _ _ _ (by decide) (by decide) rfl rfl (by decide +kernel)), sat (d _ _ _ _ _ _ _ (by decide) (by decide) rfl rfl (by decide +kernel)),
   sat (e _ _ _ _ _ _ (by decide +kernel))⟩

theorem meets_OfflineOnlineAndPairReset (o : Obligations.OfflineOnlineAndPairReset) :
    Runs (.halfOfflineDrainExpiry .A) (onPair (tandem { st := .paired, offlineCmd := some (.A, {}, 0) }) paired) ∧
    Runs (.online .A) (onPair (tandem { st := .standby }) (tandem { st := .freewheel })) ∧
    Runs (.queueRehome 1) (onPair (fun x => let y := paired x; { y with obj := { y.obj with queues := [(1, { q0 with origHome := some .B })] } }) paired) ∧
    Runs (.pairReset (.fn 0 0 0) .A 0x5A01) base ∧ Runs (.pairReset (.fn 0 0 0) .A 0x5B01) base :=
  let ⟨a, b, c, d, e⟩ := o
  ⟨sat (a _ _ _ 0 rfl (by decide +kernel) (by decide +kernel)), sat (b _ _ (by decide +kernel) (by decide +kernel) (by decide +kernel)),
   ran (c _ _ .B (by decide +kernel) (by decide +kernel) (by decide +kernel) (by decide +kernel) (by decide +kernel)),
   ran (d _ _ _ _ _ (admits_fn base _ rfl rfl) (by decide) (by decide)), ran (e _ _ _ _ (admits_fn base _ rfl rfl) (by decide))⟩

/-- Half A with queue 1 as given; its host memory holds a NOP of context 5 in the first slot of the ring at 0x5000. -/
def ring1 (r : Queue) : State :=
  let s := onA (fun x => { x with obj := { x.obj with queues := [(0, q0), (1, r)] } })
  { s with sys := { s.sys with mem := { host := [(0x5002, 4), (0x5004, 5)] } } }
def user1 : Queue := { q0 with ctx := 5, sqBase := 0x5000, cqBase := 0x6000, cidxAddr := 0x7000 }
def adminRegs (on : Nat) (q : List (Nat × Queue)) : State :=
  onA (fun x => { x with regs := [(0x0030018, BitVec.ofNat 64 (6 * 256 + 18 * 65536 + on))], obj := { x.obj with queues := q } })

/-- A doorbell that fills the ring of 64 slots, and one past it. -/
theorem meets_QueueRingsAct (o : Obligations.QueueRingsAct) :
    Runs (.doorbell (.fn 0 0 0) 1 64) base ∧ Runs (.doorbell (.fn 0 0 0) 1 65) base ∧
    Runs (.doorbell (.fn 0 0 0) 1 4) (onPair (fun x => let y := paired x; { y with obj := { y.obj with queues := [(1, { q0 with home := .B })] } }) paired) ∧
    Runs (.cqHeadWrite (.fn 0 0 0) 1 5) base ∧ Runs (.packetFetch 1) (ring1 { user1 with pidx := 1 }) ∧
    Runs (.packetFetchComplete 1) (ring1 { user1 with pidx := 1, fetching := some (0, 1) }) ∧ Runs (.fetchError 1 1) base ∧
    Runs (.queueResume (.fn 0 0 0) 1) (ring1 { user1 with st := .stopped }) ∧ Runs (.adminQueueEnable (.fn 0 0 0) .A) (adminRegs 0 []) ∧
    Runs (.adminQueueDisable (.fn 0 0 0) .A) (adminRegs 1 [(0, q0)]) ∧ Runs (.replyWrite 1) (ring1 { user1 with replies := [{ ref := { q := 1 } }] }) ∧
    Runs (.indexWordWrite 1) (ring1 { user1 with idxDirty := true }) :=
  let ⟨a, b, c, d, e, f, g, i⟩ := o
  let k := a base 0 0 0 1
  ⟨ran (((k _ rfl rfl (by decide) (.inl rfl)).1 (by decide) (by decide) (by decide) rfl rfl).1 (by decide) (by decide)),
   ran (((k _ rfl rfl (by decide) (.inl rfl)).1 (by decide) (by decide) (by decide) rfl rfl).2 (by decide)),
   ran ((a _ 0 0 0 1 _ rfl rfl (by decide +kernel) (.inl rfl)).2.1 (by decide +kernel) (by decide +kernel) (by decide +kernel) (by decide +kernel)),
   ran ((k _ rfl rfl (by decide) (.inl rfl)).2.2 rfl),
   ran (b _ _ (by decide +kernel) (by decide +kernel) (by decide +kernel) (by decide +kernel) (by decide +kernel) (by decide +kernel) (by decide +kernel)
     (by decide +kernel) (by decide +kernel)),
   ran (c _ _ 0 (by decide +kernel) (by decide +kernel) (by decide +kernel) (by decide +kernel)), ran (d _ _ _ (by decide +kernel)),
   ran (e (ring1 { user1 with st := .stopped }) _ _ (admits_fn _ _ rfl rfl) (by decide +kernel) (by decide +kernel)),
   ran ((f _ _ _ _ (admits_fn (adminRegs 0 []) _ rfl rfl) (by decide +kernel)).1 (by decide +kernel) (by decide +kernel) (by decide +kernel) (by decide +kernel) (by decide +kernel)
     (by decide +kernel)),
   sat ((f _ _ _ _ (admits_fn (adminRegs 1 [(0, q0)]) _ rfl rfl) (by decide +kernel)).2 (by decide +kernel) (by decide +kernel)),
   ran (g _ _ { ref := { q := 1 } } (by decide +kernel) (by decide +kernel) (by decide +kernel) (by decide +kernel) (by decide +kernel) (by decide +kernel)
     (by decide +kernel)),
   ran (i _ _ (by decide +kernel) (by decide +kernel) (by decide +kernel) (by decide +kernel))⟩

/-- A message of vector 2, open or ripe, on a port that may be contained; the lease is of meter point 0 of class 4. -/
def vec (e : VecMsg) (contained : Bool) (lease : Nat) : State :=
  onA (fun x => { x with msgs := [(vecKey 0 0 2, e)], msix := [(vecKey 0 0 2, { masked := false })], ports := [(0, { up := true, contained := contained })],
                         qos := { buckets := [(bucketKey 4 0 0, { lease := lease })] } })
theorem meets_MessagesLeaveAsModerated (o : Obligations.MessagesLeaveAsModerated) :
    Runs (.msixSend 0 0 2) (vec { ripe := true } false 1) ∧ Runs (.msixSend 0 0 2) (vec {} true 0) ∧ Runs (.msixSend 0 0 2) (vec { ripe := true } false 0) ∧
    Runs (.msixHoldoffExpiry 0 0 2) (vec {} false 0) :=
  ⟨ran (((o _ _ _ _).1 _ rfl).1 (by decide +kernel) (by decide +kernel)), ran (((o _ _ _ _).1 _ rfl).2.1 (by decide +kernel)),
   ran (((o _ _ _ _).1 _ rfl).2.2.1 (by decide +kernel) (by decide +kernel) (by decide +kernel)), ran (((o _ _ _ _).1 {} rfl).2.2.2)⟩

def hd : Hdr := { len := 4, tag := 77 }
def hd8 : Hdr := { len := 8, tag := 77 }
def hu : Hdr := { len := 4, ctx := 5, tag := 78 }
/-- A user header with an inline payload. -/
def hp (bs : List Byte) : Hdr := { len := 5, ctx := 5, tag := 78, flags := 0x10, payload := bs ++ List.replicate (16 - bs.length) 0 }

/-- The conditions of `Mach.Takes`, as one check. -/
def takes (s : State) (q : Nat) (p : Pkt) : Bool :=
  let m := s.sys
  let r := m.blk.getQ q
  let x := m.half (m.blk.queueHome q)
  r.st == .running && r.fetching.isNone && r.fetched.isEmpty && r.inflight.isEmpty && x.serves && x.tdm.silentAt.isNone &&
  x.tdm.offlineCmd.isNone && !x.pwr.hold && decide (sub32 r.cqCount r.cqHead + r.replies.length < 2 ^ r.cqLog2) && decide (4 ≤ p.hdr.len) &&
  decide (p.hdr.len ≤ 32) && p.hdr.trailer.isNone && (x.checkPkt q r p (if q = 0 then adminErrs x p else [])).isNone && (q != 0 || !x.meetsSealed p) &&
  (!p.isSend || !x.streamBusy p)
theorem takes_of {s : State} {q : Nat} {p : Pkt} (h : takes s q p = true) : s.sys.Takes q p := by
  simp only [takes, Bool.and_eq_true, beq_iff_eq, decide_eq_true_eq, Option.isNone_iff_eq_none, List.isEmpty_iff, Bool.or_eq_true, bne_iff_ne,
    Bool.not_eq_true', ne_eq] at h
  obtain ⟨⟨⟨⟨⟨⟨⟨⟨⟨⟨⟨⟨⟨⟨a, b⟩, c⟩, d⟩, e⟩, f⟩, g⟩, i⟩, j⟩, k⟩, l⟩, m⟩, n⟩, o⟩, p⟩ := h
  exact ⟨a, b, c, d, e, f, g, i, j, k, l, m, n, fun z => o.resolve_left (fun w => w z), fun z => p.resolve_left (by simp [z])⟩

theorem meets_PacketsAreTakenAndRun (o : Obligations.PacketsAreTakenAndRun) :
    Runs (.nop 1 hu) base ∧ Runs (.regionRelease 0 hd { handle := 0 }) (onA (fun x => { x with obj := { x.obj with regions := [(0, {})] } })) ∧
    Runs (.fill 1 hu { dst := 0x1000010, count := 4 }) base ∧ ((base.sys.taken 1 { op := 0, hdr := hu, args := [] }).2.ref.tag = 78) :=
  ⟨sat ((o.1 _ _ _ _ rfl (takes_of (by decide +kernel))).1 (by decide +kernel)), sat ((o.1 _ _ _ _ rfl (takes_of (by decide +kernel))).1 (by decide +kernel)),
   sat ((o.1 _ _ _ _ rfl (takes_of (by decide +kernel))).2 (by decide +kernel) _ rfl _ _ rfl),
   congrArg PktRef.tag (o.2 base 1 _ (takes_of (by decide +kernel))).1⟩

/-- A TAG comes back; reserved FLAGS are named as byte 1 (R81), and another queue's context as reason 0x02 (Table 04-6). -/
theorem meets_EndedPacketIsAnswered (o : Obligations.EndedPacketIsAnswered) :
    ((base.sys.endPkt .A { ref := { q := 1, tag := 9 } } 0 0 5 0 true).blk.getQ 1).replies = [{ ref := { q := 1, tag := 9 }, result := 5 }] ∧
    Runs (.nop 1 { hu with flags := 0x80 }) base ∧ Runs (.nop 1 { hu with ctx := 6 }) base :=
  ⟨congrArg Queue.replies (o.1 base.sys .A { ref := { q := 1, tag := 9 } } 0 0 5 0 (by decide)).2,
   sat (o.2 _ _ _ _ 0x11 0 rfl (by decide +kernel) (by decide +kernel) (by decide +kernel) (by decide +kernel) (by decide +kernel) (by decide) (by decide) (by decide +kernel)),
   sat (o.2 _ _ _ _ 0x12 2 rfl (by decide +kernel) (by decide +kernel) (by decide +kernel) (by decide +kernel) (by decide +kernel) (by decide) (by decide) (by decide +kernel))⟩

theorem meets_FenceValuesKeepBit63Clear (o : Obligations.FenceValuesKeepBit63Clear) :
    Runs (.fenceSignal 1 hu { fence := 0x7000008, value := 2 ^ 63 }) base ∧ Runs (.fenceWait 1 hu { fence := 0x7000008, value := 2 ^ 64 - 1 }) base ∧
    Runs (.fill 1 { hu with len := 5, flags := 8, trailer := some (0x7000008, 2 ^ 63) } { dst := 0x1000000, count := 1 }) base :=
  ⟨sat ((o _ _ _ _ rfl rfl rfl rfl rfl rfl (by decide) (by decide)).1 _ _ [] (.inl rfl) rfl (by decide) (by decide +kernel)),
   sat ((o _ _ _ _ rfl rfl rfl rfl rfl rfl (by decide) (by decide)).1 _ _ [0] (.inr rfl) rfl (by decide) (by decide +kernel)),
   sat ((o _ _ _ _ rfl rfl rfl rfl rfl rfl (by decide) (by decide)).2 _ _ rfl (by decide) (by decide +kernel))⟩

/-- Device memory with four single-precision numbers 1, 2, 1 and 3 at the page that 0x1000000 maps to, and ones in the two pages above it. -/
def dev : List (Nat × Byte) := [(2 ^ 32 + 2, 0x80), (2 ^ 32 + 3, 0x3F), (2 ^ 32 + 7, 0x40), (2 ^ 32 + 10, 0x80), (2 ^ 32 + 11, 0x3F), (2 ^ 32 + 14, 0x40), (2 ^ 32 + 15, 0x40)]
def withDev (s : State) (l : List (Nat × Byte)) : State := { s with sys := { s.sys with mem := { dev := l } } }

/-- The last byte of a page, and a whole page. -/
theorem meets_PhysicalMovesWriteTheirBytes (o : Obligations.PhysicalMovesWriteTheirBytes) :
    Runs (.fill 0 hd { dst := 2 ^ 32 + 4095, count := 1, pattern := 7 }) base ∧ Runs (.writeInline 0 { hp [1, 2, 3] with ctx := 0 } { dst := 2 ^ 32, n := 3 }) base ∧
    Runs (.copy 0 hd { src := 2 ^ 32, dst := 2 ^ 32 + 2 ^ 20, count := 4096 }) base ∧ Runs (.queryCapability 0 hd { type := 1, dst := 2 ^ 33, max := 4096 }) base ∧
    Runs (.queryAllocator 0 hd { type := 0, dst := 2 ^ 33, max := 4096 }) base :=
  let go c s p d b e f := o c s p d b e (takes_of f)
  ⟨sat (go _ _ _ _ _ rfl (by decide +kernel) (.inl ⟨_, _, rfl, rfl, rfl⟩) (by decide) (by decide) (by decide +kernel) (by decide +kernel) rfl rfl (by decide) (by decide +kernel)),
   sat (go _ _ _ _ _ rfl (by decide +kernel) (.inr (.inl ⟨_, _, rfl, rfl, rfl, rfl⟩)) (by decide) (by decide) (by decide +kernel) (by decide +kernel) rfl rfl (by decide) (by decide +kernel)),
   sat (go _ _ _ _ _ rfl (by decide +kernel) (.inr (.inr (.inl ⟨_, _, rfl, rfl, rfl, by decide, by decide, by decide +kernel, by decide +kernel, by decide +kernel, by decide⟩)))
     (by decide) (by decide +kernel) (by decide +kernel) (by decide +kernel) rfl rfl (by decide) (by decide +kernel)),
   sat (go _ _ _ _ _ rfl (by decide +kernel) (.inr (.inr (.inr ⟨_, _, .inl rfl, rfl, rfl, by decide +kernel, by decide +kernel⟩)))
     (by decide) (by decide +kernel) (by decide +kernel) (by decide +kernel) rfl rfl (by decide) (by decide +kernel)),
   sat (go _ _ _ _ _ rfl (by decide +kernel) (.inr (.inr (.inr ⟨_, _, .inr rfl, rfl, rfl, by decide +kernel, by decide +kernel⟩)))
     (by decide) (by decide +kernel) (by decide +kernel) (by decide +kernel) rfl rfl (by decide) (by decide +kernel))⟩

/-- All features of the level a half of this design reports. -/
def fused (f : Half → Half) : State := onA (fun x => f { x with fuse := { x.fuse with features := 2 ^ 20 - 1 } })
/-- A packet in flight. -/
def disp (q slot op : Nat) (args : List Nat) : Disp := { ref := { q := q, slot := slot, nslots := 1 }, pkt := { op := op, hdr := hu, args := args }, half := .A }
def objs (f : Obj → Obj) : Half → Half := fun x => { x with obj := f x.obj }
def queue1 (r : Queue) : Half → Half := objs (fun o => { o with queues := [(0, q0), (1, r)] })

theorem meets_AdminMakesContextsAndQueues (o : Obligations.AdminMakesContextsAndQueues) :
    Runs (.ctxCreate 0 hd8 { ctx := 9, root := 2 ^ 32 + 2 ^ 30 }) base ∧
    Runs (.queueCreate 0 hd { queue := 7, ctx := 5, sqBase := 0x8000, sqLog2 := 6, cqLog2 := 6, cqBase := 0x9000, cidx := 0x9800, qflags := 1 }) base ∧
    Runs (.queueDestroy 0 hd { queue := 1 }) (onA (queue1 { user1 with inflight := [disp 1 0 0x11 []] })) ∧ Runs (.queueDestroy 0 hd { queue := 1 }) base ∧
    Runs (.ctxDestroy 0 hd { ctx := 5 }) (onA (queue1 { user1 with inflight := [disp 1 0 0x11 []] })) :=
  ⟨sat ((o base _ hd8 (takes_of (by decide +kernel))).1 _ rfl rfl rfl (by decide) (by decide +kernel) (by decide +kernel) (by decide +kernel)),
   sat ((o base _ hd (takes_of (by decide +kernel))).2.1 _ rfl cx .A none (by decide +kernel) (.inr rfl) rfl (by decide +kernel) (by decide +kernel) (by decide +kernel) (by decide +kernel) (by decide +kernel)),
   sat (((o _ _ hd (takes_of (by decide +kernel))).2.2.1 { queue := 1 } rfl (by decide +kernel) (.inl (by decide +kernel)) (by decide +kernel)).1 (.inl (by decide +kernel))),
   sat (((o _ _ hd (takes_of (by decide +kernel))).2.2.1 { queue := 1 } rfl (by decide +kernel) (.inl (by decide +kernel)) (by decide +kernel)).2 (by decide +kernel) (by decide +kernel) (by decide +kernel) (by decide +kernel) (by decide +kernel)),
   sat ((o _ _ hd (takes_of (by decide +kernel))).2.2.2 _ rfl cx rfl (by decide) (by decide) ⟨1, by decide +kernel, by decide +kernel⟩ rfl)⟩

/-- Confidential context 5 of partition 3 with key slots as given, and a staged key of epoch 7 behind handle 4. -/
def keys (a b : KeySlot) : State :=
  fused (objs (fun o => { o with ctxs := [(5, { cx with part := 3, confidential := true, slot0 := a, slot1 := b })], staged := [(4, { ctx := 5, epoch := 7, key := 5 })] }))
def live2 : KeySlot := { st := .live, epoch := 2 }
theorem meets_AdminSetsPartitionsKeysAndRegions (o : Obligations.AdminSetsPartitionsKeysAndRegions) :
    Runs (.partConfig 0 hd8 { part := 3, maxCtx := 4, maxQueue := 8, hw := 1, hc := 16, fw := 1, fc := 16, sw := 1, sc := 16, xw := 1, xc := 16, iw := 1, ic := 16 }) base ∧
    Runs (.keyInstall 0 hd { ctx := 5, slot := 1, handle := 4 }) (keys live2 {}) ∧
    Runs (.keyInstall 0 hd8 { ctx := 5, slot := 1, kflags := 1, handle := 4, sealVa := 0x90000000, sealSize := 65536, hostBase := 0x10000, metaVa := 0xA0000000 }) (keys live2 {}) ∧
    Runs (.keyRetire 0 hd { ctx := 5 }) (keys live2 {}) ∧ Runs (.keyRetireSweep 0 hd { ctx := 5 }) (keys live2 { live2 with epoch := 3 }) ∧
    Runs (.regionRegister 0 hd { ctx := 5, rflags := 3, rid := 8, mwOff := 2 ^ 32, size := 4096 }) base ∧
    Runs (.regionRelease 0 hd { handle := 0 }) (onA (objs (fun o => { o with regions := [(0, {})] }))) :=
  ⟨sat ((o base _ hd8 (takes_of (by decide +kernel))).1 _ rfl rfl (by decide) rfl rfl (by decide +kernel) (by decide) (by decide +kernel) (by decide +kernel) (by decide +kernel)
     (by decide +kernel) (by decide +kernel) (by decide +kernel) (by decide +kernel) (by decide +kernel)),
   sat (((o (keys live2 {}) _ hd (takes_of (by decide +kernel))).2.1 _ rfl _ _ rfl (.inr rfl) rfl rfl rfl (by decide +kernel) (by decide +kernel) (by decide +kernel)).1 (by decide)),
   sat (((o (keys live2 {}) _ hd8 (takes_of (by decide +kernel))).2.1 _ rfl _ _ rfl (.inr rfl) rfl rfl rfl (by decide +kernel) (by decide +kernel) (by decide +kernel)).2 (by decide)
     (by decide +kernel) (by decide +kernel)),
   sat (((o _ _ hd (takes_of (by decide +kernel))).2.2.1 _ _ rfl (.inr rfl) (by decide +kernel) (by decide +kernel) (by decide +kernel)).1 rfl (by decide +kernel)),
   sat (((o _ _ hd (takes_of (by decide +kernel))).2.2.1 _ _ rfl (.inr rfl) (by decide +kernel) (by decide +kernel) (by decide +kernel)).2 rfl (by decide +kernel) (by decide +kernel) (by decide +kernel)),
   sat ((o base _ hd (takes_of (by decide +kernel))).2.2.2.1 _ rfl cx 0 (by decide +kernel) (.inr rfl) (by decide +kernel) (by decide +kernel) (by decide +kernel) (by decide +kernel) (by decide +kernel) (by decide +kernel)),
   sat ((o _ _ hd (takes_of (by decide +kernel))).2.2.2.2 { handle := 0 } rfl {} (by decide +kernel))⟩

/-- Host memory with the image at 0, and a half in Bisque service or past it with a pending copy. -/
def fwBoot (stage : Nat) (i : Option FwImage) : State := onA (fun x => { x with boot := { x.boot with stage := stage, pendingCopy := i } })
def fwState (stage : Nat) : State :=
  let s := fwBoot stage none
  { s with sys := { s.sys with mem := ({} : MemSys).writeHost 0 image } }
theorem image_len : image.length = 4352 := by decide +kernel
theorem image_read (n : Nat) : (fwState n).sys.mem.readHost 0 4352 = image := by
  rw [← image_len]; exact MemSys.readHost_writeHost {} 0 image
def good : FwImage := { bytes := image, last := true, good := true }
/-- The signature of the image, and whether the record is authentic, are free values: the witnesses take each way they go. -/
theorem meets_AdminStagesFirmware (o : Obligations.AdminStagesFirmware) :
    Runs (.fwStage 0 hd { sflags := 1, src := 2 ^ 63, len := 4352 }) (fwBoot 4 none) ∧
    Runs (.fwStageLast 0 hd { sflags := 1, src := 2 ^ 63 + 8192, len := 256 }) (fwBoot 4 none) ∧ Runs (.fwStageActivate 0 hd {}) (fwBoot 4 (some good)) ∧
    (Config.sigValid 0 (image.take 64) ((image.drop 64).take 96) → Runs (.fwStageActivate 0 hd {}) (fwBoot 1 (some good)) ∧
      Runs (.fwStageLast 0 hd { sflags := 1, src := 2 ^ 63, len := 4352 }) (fwState 4) ∧
      Runs (.fwStageActivate 0 hd { sflags := 3, src := 2 ^ 63, len := 4352 }) (fwState 1)) ∧
    Runs (.fwStageService 0 hd { sflags := 3, src := 2 ^ 63, len := 4096 }) (fwBoot 4 none) :=
  ⟨sat ((o (fwBoot 4 none) _ hd { sflags := 1, src := 2 ^ 63, len := 4352 } (.fwStage 0 hd { sflags := 1, src := 2 ^ 63, len := 4352 }) (takes_of (by decide +kernel)) rfl (by decide +kernel) rfl (fun _ => (by decide +kernel))).1
     (fun _ h => nomatch h) (by decide +kernel) |>.1 rfl (by decide +kernel)),
   sat ((o (fwBoot 4 none) _ hd { sflags := 1, src := 2 ^ 63 + 8192, len := 256 } (.fwStageLast 0 hd { sflags := 1, src := 2 ^ 63 + 8192, len := 256 }) (takes_of (by decide +kernel)) rfl (by decide +kernel) rfl (fun _ => (by decide +kernel))).1
     (fun _ h => nomatch h) (by decide +kernel) |>.2 rfl (by decide +kernel) |>.2 (by decide +kernel) (by unfold Half.hasRoom; decide +kernel)),
   sat ((o (fwBoot 4 (some good)) _ hd {} (.fwStageActivate 0 hd {}) (takes_of (by decide +kernel)) rfl (by decide +kernel) rfl (fun _ => (by decide +kernel))).2.2.1 good rfl (by decide +kernel) (by decide +kernel) rfl rfl rfl rfl |>.2 (by decide +kernel) (by decide +kernel)),
   fun k => ⟨sat ((o (fwBoot 1 (some good)) _ hd {} (.fwStageActivate 0 hd {}) (takes_of (by decide +kernel)) rfl (by decide +kernel) rfl (fun _ => (by decide +kernel))).2.2.1 good rfl (by decide +kernel) (by decide +kernel) rfl rfl rfl rfl |>.1 (by decide +kernel) (image_checks rfl (by decide +kernel) rfl k)),
     sat ((o (fwState 4) _ hd { sflags := 1, src := 2 ^ 63, len := 4352 } (.fwStageLast 0 hd { sflags := 1, src := 2 ^ 63, len := 4352 }) (takes_of (by decide +kernel)) rfl (by decide +kernel) rfl (fun _ => (by decide +kernel))).1
       (fun _ h => nomatch h) (by decide +kernel) |>.2 rfl (by decide +kernel) |>.1 (image_checks rfl (by decide +kernel) (by simp [FwImage.chunk, bitAt, image_read]) k)),
     sat ((o (fwState 1) _ hd { sflags := 3, src := 2 ^ 63, len := 4352 } (.fwStageActivate 0 hd { sflags := 3, src := 2 ^ 63, len := 4352 }) (takes_of (by decide +kernel)) rfl (by decide +kernel) rfl (fun _ => (by decide +kernel))).2.1
       rfl (by decide +kernel) (by decide +kernel) (fun _ h => nomatch h) (by decide +kernel) (image_checks rfl (by decide +kernel) (by simp [FwImage.chunk, bitAt, image_read]) k))⟩,
   (Bool.eq_false_or_eq_true (Config.recordAuthentic 0 ((fwBoot 4 none).sys.mem.readHost 0 4096))).elim
     (fun k => sat ((o (fwBoot 4 none) _ hd { sflags := 3, src := 2 ^ 63, len := 4096 } (.fwStageService 0 hd { sflags := 3, src := 2 ^ 63, len := 4096 }) (takes_of (by decide +kernel)) rfl (by decide +kernel) rfl (fun _ => (by decide +kernel))).2.2.2
       rfl (by decide +kernel) (by decide +kernel) (by decide +kernel) rfl rfl |>.1 k (by decide +kernel)))
     (fun k => sat ((o (fwBoot 4 none) _ hd { sflags := 3, src := 2 ^ 63, len := 4096 } (.fwStageService 0 hd { sflags := 3, src := 2 ^ 63, len := 4096 }) (takes_of (by decide +kernel)) rfl (by decide +kernel) rfl (fun _ => (by decide +kernel))).2.2.2
       rfl (by decide +kernel) (by decide +kernel) (by decide +kernel) rfl rfl |>.2 k))⟩

/-- A journal entry, and a descriptor of a chiplet that admission accepts (Tables 18-3 to 18-5) with its CRC-32. -/
def desc : List Byte :=
  let d := leBytes 4 0x44435157 ++ [0, 1, 0, 0, 7, 9, 16, 6, 16, 64, 32, 0, 16] ++ List.replicate 43 0
  d ++ leBytes 4 (crc32 d)
theorem meets_AdminReadsAndRepairs (o : Obligations.AdminReadsAndRepairs) :
    Runs (.journalRead 0 hd { dst := 2 ^ 33, count := 4 }) (onA (fun x => { x with jnl := { x.jnl with head := 1, chip := [⟨0, 9, 5, 11, 0, 0, 3, 4⟩] } })) ∧
    Runs (.journalReadService 0 hd { dst := 2 ^ 63 + 4096, count := 4 }) base ∧
    Runs (.diagRead 0 hd { array := 3 }) (onA (fun x => { x with sec := { x.sec with debugLevel := 2, diag := [(3 * 2 ^ 40, 99)] } })) ∧
    Runs (.diagRead 0 hd { array := 3 }) (onA (fun x => { x with sec := { x.sec with debugLevel := 2 } })) ∧
    Runs (.diagWrite 0 hd { array := 3, data := 99 }) (onA (fun x => { x with sec := { x.sec with debugLevel := 2 } })) ∧
    Runs (.marginReplan 0 hd) base ∧ Runs (.chipletAdmit 0 hd { chip := 0 }) base ∧
    Runs (.chipletAdmit 0 hd { chip := 7 }) (onA (fun x => { x with dies := [(7, { link := true, cap := 6, desc := desc })] })) :=
  ⟨sat (((o _ _ hd (takes_of (by decide +kernel))).1 _ _ (.inl rfl) rfl (by decide +kernel) (fun _ => .inr ⟨⟨0, 9, 5, 11, 0, 0, 3, 4⟩, by decide +kernel, rfl⟩) (.inl (by decide +kernel))).1 (by decide)),
   sat (((o _ _ hd (takes_of (by decide +kernel))).1 _ _ (.inr rfl) rfl (by decide +kernel) (fun h => nomatch h) (.inr (.inr (by decide)))).2 (by decide) (by decide +kernel)),
   sat (((o _ _ hd (takes_of (by decide +kernel))).2.1 _).1 rfl 99 (by decide +kernel)), sat (((o _ _ hd (takes_of (by decide +kernel))).2.1 _).2.1 rfl (by decide +kernel)),
   sat (((o _ _ hd (takes_of (by decide +kernel))).2.1 _).2.2 rfl (by decide +kernel)), sat ((o _ _ hd (takes_of (by decide +kernel))).2.2.1 rfl (by decide +kernel)),
   sat (((o _ _ hd (takes_of (by decide +kernel))).2.2.2 _ rfl rfl (by decide +kernel) (by decide +kernel)).1 (by decide +kernel)),
   sat (((o _ _ hd (takes_of (by decide +kernel))).2.2.2 _ rfl rfl (by decide +kernel) (by decide +kernel)).2 (by decide +kernel) (by decide +kernel))⟩

/-- A route table in which package 0 is the package itself and no other is reached (Table 12-2, R329). -/
def noRoute : List Byte := List.replicate 8 0 ++ [0xFF, 0xFF] ++ List.replicate 6 0
def ownRoute : List Byte := List.replicate 9 0 ++ [0xFF] ++ List.replicate 6 0
def routes : List Byte := ownRoute ++ (List.replicate 4095 noRoute).flatten
theorem drop_flat (n k : Nat) : ((List.replicate n noRoute).flatten).drop (16 * k) = (List.replicate (n - k) noRoute).flatten := by
  induction k generalizing n with
  | zero => simp
  | succ k ih =>
    cases n with
    | zero => simp
    | succ n =>
      have : 16 * (k + 1) = noRoute.length + 16 * k := by rw [show noRoute.length = 16 from rfl]; omega
      rw [List.replicate_succ, List.flatten_cons, this, ← List.drop_drop, List.drop_left', ih]
      · congr 2; omega
      · rfl
theorem route_at (d : Nat) (h : d < 4096) : (routes.drop (16 * d)).take 16 = if d = 0 then ownRoute else noRoute := by
  cases d with
  | zero => exact List.take_left' rfl
  | succ k =>
    have e : 16 * (k + 1) = 16 + 16 * k := by omega
    have f : List.drop 16 routes = (List.replicate 4095 noRoute).flatten := List.drop_left' rfl
    rw [e, ← List.drop_drop, f, drop_flat, show 4095 - k = (4094 - k) + 1 by omega, List.replicate_succ, List.flatten_cons]
    exact List.take_left' rfl
theorem routes_good : (parseRoutes 0 routes).2 = none := by
  simp only [parseRoutes, Option.map_eq_none_iff, List.find?_eq_none, List.mem_map, List.mem_range]
  rintro _ ⟨d, hd, rfl⟩
  simp only [route_at d hd]
  by_cases h : d = 0
  · subst h; decide
  · simp only [h, if_false]; decide
theorem flat_len (n : Nat) : ((List.replicate n noRoute).flatten).length = 16 * n := by
  induction n with
  | zero => rfl
  | succ n ih => rw [List.replicate_succ, List.flatten_cons, List.length_append, ih, show noRoute.length = 16 from rfl]; omega
theorem routes_len : routes.length = 65536 := by
  rw [routes, List.length_append, flat_len]; rfl
theorem bit63 : Nat.testBit 9223372036854775808 63 = true := by decide
/-- The table in host memory. -/
def joining (j : Option JoinRec) : State :=
  let s := fused (objs (fun o => { o with join := j }))
  { s with sys := { s.sys with mem := ({} : MemSys).writeHost 0 routes } }
theorem joining_read (j : Option JoinRec) : (joining j).sys.mem.readHost 0 65536 = routes := by
  rw [← routes_len]; exact MemSys.readHost_writeHost {} 0 routes
def inFabric : Half → Half := objs (fun o => { o with join := some { pkg := 0, domain := 1 } })

theorem meets_AdminJoinsAndLeaves (o : Obligations.AdminJoinsAndLeaves) :
    Runs (.fabricJoin 0 hd { pkg := 0, domain := 1, routes := 2 ^ 63, neigh := 2 ^ 33 }) (joining none) ∧
    Runs (.fabricJoin 0 hd { pkg := 1, domain := 1, routes := 2 ^ 33, neigh := 2 ^ 34 }) (fused id) ∧
    Runs (.fabricUpdate 0 hd { pkg := 0, domain := 1, routes := 2 ^ 63, neigh := 2 ^ 33, jflags := 1 }) (joining (some { pkg := 0, domain := 1 })) ∧
    Runs (.fabricLeave 0 hd { pkg := 0, domain := 1, routes := 2 ^ 33, neigh := 2 ^ 34, jflags := 2 }) (fused inFabric) ∧
    Runs (.halfOffline 0 hd { half := 1 }) (onPair paired paired) ∧
    Runs (.halfOnline 0 hd) (onPair (tandem { st := .freewheel }) (tandem { st := .standby })) :=
  ⟨sat ((((o (joining none) _ hd (takes_of (by decide +kernel))).1 { pkg := 0, domain := 1, routes := 2 ^ 63, neigh := 2 ^ 33 } (by decide +kernel)
      (fun _ => by decide +kernel)).1 rfl (by decide) (by decide) (by decide +kernel)).1 (by simp [joining_read, routes_good, bitAt, bit63]) (by decide +kernel)),
   sat ((((o (fused id) _ hd (takes_of (by decide +kernel))).1 { pkg := 1, domain := 1, routes := 2 ^ 33, neigh := 2 ^ 34 } (by decide +kernel)
      (fun _ => by decide +kernel)).1 rfl (by decide) (by decide) (by decide +kernel)).2 0 (by decide +kernel)),
   sat (((o (joining (some { pkg := 0, domain := 1 })) _ hd (takes_of (by decide +kernel))).1 { pkg := 0, domain := 1, routes := 2 ^ 63, neigh := 2 ^ 33, jflags := 1 } (by decide +kernel)
      (fun _ => by decide +kernel)).2.1 rfl (by decide) ⟨_, rfl, rfl, rfl⟩ (by simp [joining_read, routes_good, bitAt, bit63]) (by decide +kernel) rfl rfl (by decide +kernel)),
   sat (((o (fused inFabric) _ hd (takes_of (by decide +kernel))).1 { pkg := 0, domain := 1, routes := 2 ^ 33, neigh := 2 ^ 34, jflags := 2 } (by decide +kernel)
      (fun _ => by decide +kernel)).2.2 rfl (by decide) ⟨_, rfl, rfl, rfl⟩ rfl (fun g => by cases g <;> exact ⟨rfl, rfl, rfl⟩)),
   sat ((o (onPair paired paired) _ hd (takes_of (by decide +kernel))).2.1 { half := 1 } rfl (by decide +kernel)),
   sat ((o (onPair (tandem { st := .freewheel }) (tandem { st := .standby })) _ hd (takes_of (by decide +kernel))).2.2 rfl rfl (by decide +kernel) (by decide +kernel) (by decide +kernel))⟩

/-- Half A with device memory as given, and with a signal already in the fence word at 0x7000008. -/
def withMem (s : State) (m : MemSys) : State := { s with sys := { s.sys with mem := m } }
def fenceHolds (v : Nat) : MemSys := ({} : MemSys).setWord false (2 ^ 30 + 8) v
def lostArea : State := withMem (onA (objs (fun o => { o with mems := [{ area with abandoned := 1 }] }))) (fenceHolds (2 ^ 63))

/-- The three accesses of EVENT_RAISE to its ring: the header read, the slot, and the header written. -/
def raised : Mach × Disp := base.sys.taken 1 { op := 0x12, hdr := hu, args := EventBody.args { event := 3, payload := 7 } }
def ringA : Mach × RingRes := raised.1.ringAt (base.sys.blk.queueHome 1) raised.2 0 cx.eventVa false true
def ringB : Mach × RingRes :=
  ringA.1.ringAt (base.sys.blk.queueHome 1) raised.2 3 (cx.eventVa + 64 + cx.eventProduced % 2 ^ cx.eventLog2 * 32) true true
def ringC : Mach × RingRes := ringB.1.ringAt (base.sys.blk.queueHome 1) raised.2 1 cx.eventVa true true
theorem eta {α β : Type} (r : α × β) (b : β) (h : r.2 = b) : r = (r.1, b) := h ▸ rfl
theorem meets_FencesAndEventsAct (o : Obligations.FencesAndEventsAct) :
    Runs (.nop 1 hu) base ∧ Runs (.fenceSignal 1 hu { fence := 0x7000008, value := 9 }) lostArea ∧
    Runs (.fenceSignal 1 hu { fence := 0x7000008, value := 2 ^ 63 - 1 }) base ∧
    Runs (.fenceSignal 1 hu { fence := 0x7000008, value := 3 }) (withMem base (fenceHolds 4)) ∧
    Runs (.fenceWait 1 hu { fence := 0x7000008, value := 4 }) (withMem base (fenceHolds 4)) ∧ Runs (.fenceWait 1 hu { fence := 0x7000008, value := 4 }) base ∧
    Runs (.eventRaise 1 hu { event := 3, payload := 7 }) base :=
  ⟨sat ((o _ _ _ _ _ rfl (takes_of (by decide +kernel))).1 rfl),
   sat (((o lostArea _ _ hu _ rfl (takes_of (by decide +kernel))).2.1 _ _ (2 ^ 30 + 8) rfl (by decide +kernel) (by decide +kernel) (by decide +kernel) (Prod.ext rfl (by decide +kernel)) (by decide +kernel)).1 (by decide +kernel) (by decide +kernel)),
   sat (((o base _ _ hu _ rfl (takes_of (by decide +kernel))).2.1 _ _ (2 ^ 30 + 8) rfl (by decide +kernel) (by decide +kernel) (by decide +kernel) (Prod.ext rfl (by decide +kernel)) (by decide +kernel)).2.1 (.inl (by decide +kernel)) (by decide +kernel)),
   sat (((o (withMem base (fenceHolds 4)) _ _ hu _ rfl (takes_of (by decide +kernel))).2.1 _ _ (2 ^ 30 + 8) rfl (by decide +kernel) (by decide +kernel) (by decide +kernel) (Prod.ext rfl (by decide +kernel)) (by decide +kernel)).2.2 (.inl (by decide +kernel)) (by decide +kernel)),
   sat (((o (withMem base (fenceHolds 4)) _ _ hu _ rfl (takes_of (by decide +kernel))).2.2.1 _ _ (2 ^ 30 + 8) rfl (fun g => by cases g <;> rfl) (Prod.ext rfl (by decide +kernel))).1 0 0 (by decide +kernel) (by decide +kernel) (by decide +kernel)),
   sat (((o base _ _ hu _ rfl (takes_of (by decide +kernel))).2.2.1 _ _ (2 ^ 30 + 8) rfl (fun g => by cases g <;> rfl) (Prod.ext rfl (by decide +kernel))).2 (by decide +kernel)),
   sat ((o base 1 _ hu (.eventRaise 1 hu { event := 3, payload := 7 }) rfl (takes_of (by decide +kernel))).2.2.2 { event := 3, payload := 7 } cx ringA.1 ringB.1 ringC.1
     (2 ^ 32 + 2 ^ 21) (2 ^ 32 + 2 ^ 21 + 64) (2 ^ 32 + 2 ^ 21) rfl (by decide +kernel) (by decide +kernel) (by decide +kernel) (by decide +kernel) (by decide +kernel) (eta ringA _ (by decide +kernel)) (by decide +kernel) (eta ringB _ (by decide +kernel)) (eta ringC _ (by decide +kernel)) (by decide))⟩

/-- Tables of context 5: the root, which is also its own next tables for small addresses, and a table of 4 KiB pages for 0x1000000 on, whose first
two pages are present. -/
def tables : MemSys :=
  let r := 2 ^ 31 + 2 ^ 32
  let t (f : Nat) : Nat := f / 4096 * 2 ^ 16 + 1
  ((((({} : MemSys).setWord false r (t r)).setWord false (r + 64) (t (r + 4096))).setWord false (r + 4096) (leafEntry 0 (2 ^ 32) 0xC0 0)).setWord false
    (r + 4104) (leafEntry 0 (2 ^ 32 + 4096) 0xC0 0))
/-- Context 5 with a heap of one page at 0x1002000 and an allocation of one page elsewhere, in partition 0 with its allocator. -/
def heap : State :=
  withMem (onA (objs (fun o => { o with
    ctxs := [(5, { cx with heapVa := 0x1002000, heapSize := 4096 })], mems := [area, { ctx := 5, va := 0x1000000, size := 4096, frames := [2 ^ 32] }]
    parts := [(0, { allocator := true })] }))) tables

/-- The page is the only place in the heap, so the free choice of the place takes it; the allocation shares the other one's frame. -/
theorem heap_alloc (m : Mach) (c : Ctx) (fo : Nat × Nat) (hc : (m.blk.half .A).ctx? 5 = some c) (hv : c.heapVa = 0x1002000) (hn : c.heapSize = 4096)
    (hm : (m.blk.half .A).obj.mems = [area, { ctx := 5, va := 0x1000000, size := 4096, frames := [2 ^ 32] }])
    (hp : (((m.blk.half .A).packFrames 5).findSome? (fun f => ((m.blk.half .A).roomIn f 4096).map (fun o => (f, o)))) = some fo)
    (hl : ((Mach.objLeaves { m with blk := m.blk.draw.1 } .A
      { ctx := 5, part := c.part, va := 0x1002000, size := 4096, frames := [fo.1], off := fo.2 } ((m.blk.half .A).devWindow c.part fo.1).isSome)).isSome) :
    ∃ n, m.alloc .A 5 4096 12 false = (n, 0, 0, 0x1002000) := by
  obtain ⟨m2, hl⟩ := Option.isSome_iff_exists.mp hl
  have hf (d : Nat) : (m.blk.half .A).heapFit c 5 4096 4096 d = some 0x1002000 := by
    unfold Half.heapFit
    rw [hm, hv, hn]
    generalize Config.heapPlace d 4096 = g
    by_cases e : g = 0x1002000
    · subst e; decide
    · have : (decide (0x1002000 ≤ g) && decide (g + 4096 ≤ 0x1002000 + 4096)) = false := by
        rw [Bool.and_eq_false_iff, decide_eq_false_iff_not, decide_eq_false_iff_not]; omega
      simp only [this, Bool.false_and, Bool.false_eq_true, if_false]
      decide
  have e : alignUp 4096 4096 = 4096 := by decide
  simp [Mach.alloc, hc, e, hf, hp, hl]

theorem meets_RangePacketsAct (o : Obligations.RangePacketsAct) :
    Runs (.map 1 hu { va := 0x1002000, count := 4096, entry := leafEntry 0 (2 ^ 33) 0xC0 0 }) (withMem base tables) ∧
    Runs (.unmap 1 hu { va := 0x1000000, count := 4096 }) (withMem base tables) ∧ Runs (.invalidateRange 1 hu { va := 0, count := 2 ^ 56 }) base ∧
    Runs (.pin 1 hu { va := 0x1000000, count := 0 }) base ∧ Runs (.pin 1 hu { va := 0x1000000, count := 8192 }) (withMem base tables) ∧
    Runs (.unpin 1 hu { va := 0x1000000, count := 4096 }) base ∧
    Runs (.unpin 1 hu { va := 0x1000000, count := 4096 }) (onA (objs (fun o => { o with pins := [{ ctx := 5, lo := 0x1000000, hi := 0x1001000 }] }))) ∧
    Runs (.alloc 1 hu { size := 4096 }) heap ∧ Runs (.free 1 hu { va := 0x1000000 }) heap :=
  ⟨sat ((o (withMem base tables) _ _ hu _ rfl (takes_of (by decide +kernel))).1 _ _ rfl (Prod.ext rfl (by decide +kernel))),
   sat ((o (withMem base tables) _ _ hu _ rfl (takes_of (by decide +kernel))).2.1 _ cx rfl (by decide +kernel) (by decide +kernel) (by decide +kernel) (by unfold Mach.WithdrawsAlone; decide +kernel)),
   sat ((o base _ _ hu _ rfl (takes_of (by decide +kernel))).2.2.1 _ rfl (by unfold Mach.WithdrawsAlone; decide +kernel)),
   sat (((o base _ _ hu _ rfl (takes_of (by decide +kernel))).2.2.2.1 _ rfl (by decide +kernel)).1 (.inl (by decide +kernel))),
   sat (((o (withMem base tables) _ _ hu _ rfl (takes_of (by decide +kernel))).2.2.2.1 _ rfl (by decide +kernel)).2 (by decide) (by decide +kernel) (by decide +kernel)),
   sat (((o base _ _ hu _ rfl (takes_of (by decide +kernel))).2.2.2.2.1 _ rfl).1 (by decide +kernel) (by decide +kernel)),
   sat (((o (onA (objs (fun o => { o with pins := [{ ctx := 5, lo := 0x1000000, hi := 0x1001000 }] }))) _ _ hu _ rfl (takes_of (by decide +kernel))).2.2.2.2.1 _ rfl).2 (by decide +kernel)
     (by unfold Mach.WithdrawsAlone; decide +kernel)),
   (heap_alloc _ { cx with heapVa := 0x1002000, heapSize := 4096 } (2 ^ 32, 4096) (by decide +kernel) rfl rfl (by decide +kernel) (by decide +kernel) (by decide +kernel)).elim (fun n e =>
     sat ((o heap 1 { op := 0x38, hdr := hu, args := [4096, 0] } hu (.alloc 1 hu { size := 4096 }) rfl (takes_of (by decide +kernel))).2.2.2.2.2.1 { size := 4096 } n 0x1002000 rfl (by decide +kernel) e)),
   sat ((o heap _ _ hu _ rfl (takes_of (by decide +kernel))).2.2.2.2.2.2 _ { ctx := 5, va := 0x1000000, size := 4096, frames := [2 ^ 32] } rfl (by decide +kernel) (by decide +kernel) (by decide +kernel)
     (by unfold Mach.WithdrawsAlone; decide +kernel))⟩

theorem maps_of {s : State} {ctx part va n off : Nat} {write : Bool} (sp : Span) (h1 : (s.sys.half .A).tlbHit ctx va write = some sp)
    (h2 : sp.target = 0 ∧ sp.sealed = false ∧ sp.phys va = off ∧ va + n ≤ sp.va + sp.bytes)
    (h3 : 0 < n ∧ va % 4096 + n ≤ 4096 ∧ off % 4096 + n ≤ 4096 ∧ (s.sys.half .A).devAccess off ctx part false = .ok ∧ s.sys.blk.toHome .A off n = false) :
    s.sys.Maps .A ctx part va n off write := ⟨⟨sp, h1, h2⟩, h3⟩
def srcSpan : Span := span 0x1000000 (2 ^ 32) 16
def dstSpan : Span := span 0x2000000 (2 ^ 32 + 2 ^ 20) 16
def data : State := withDev base dev
theorem idle (x : Half) (h : x.xlt.holders = [] ∧ x.fab.instant = [] ∧ x.dma.chans = []) : x.idleDma := h

/-- From the page at 0x1000000 to the page at 0x2000000: a whole page, the last byte of the page, and the smallest forms of the others. -/
theorem meets_TranslatedMovesWriteTheirBytes (o : Obligations.TranslatedMovesWriteTheirBytes) :
    Runs (.fill 1 hu { dst := 0x2000FFF, count := 1, pattern := 7 }) data ∧ Runs (.writeInline 1 (hp [1, 2, 3, 4]) { dst := 0x2000000, n := 4 }) data ∧
    Runs (.copy 1 hu { src := 0x1000000, dst := 0x2000000, count := 16 }) data ∧
    Runs (.copyTiled 1 { hu with len := 8 } { src := 0x1000000, dst := 0x2000000, xBytes := 16, yCount := 1, zCount := 1 }) data ∧
    Runs (.gather 1 (hp [1]) { src := 0x1000000, dst := 0x2000000, count := 1, esize := 2 }) data ∧
    Runs (.scatter 1 (hp [1]) { src := 0x1000000, dst := 0x2000000, count := 1, esize := 2 }) data ∧
    Runs (.queryContext 1 hu { dst := 0x2000000, max := 4096 }) data ∧ Runs (.queryCapability 1 hu { type := 1, dst := 0x2000000, max := 4096 }) data ∧
    Runs (.queryAllocator 1 hu { dst := 0x2000000, max := 4096 }) data :=
  ⟨sat (o _ data 1 _ hu 0x2000FFF (2 ^ 32 + 2 ^ 20 + 4095) _ (by decide) rfl (takes_of (by decide +kernel)) (.inl ⟨_, rfl, rfl, rfl⟩) (maps_of dstSpan (by decide +kernel) (by decide +kernel) (by decide +kernel)) (idle _ (by decide +kernel)) (by decide) (by decide +kernel)),
   sat (o _ data 1 _ (hp [1, 2, 3, 4]) 0x2000000 (2 ^ 32 + 2 ^ 20) _ (by decide) rfl (takes_of (by decide +kernel)) (.inr (.inl ⟨_, rfl, rfl, rfl, rfl⟩)) (maps_of dstSpan (by decide +kernel) (by decide +kernel) (by decide +kernel)) (idle _ (by decide +kernel)) (by decide) (by decide +kernel)),
   sat (o _ data 1 _ hu 0x2000000 (2 ^ 32 + 2 ^ 20) (memRead data.sys.mem.dev (2 ^ 32) 16) (by decide) rfl (takes_of (by decide +kernel))
     (.inr (.inr (.inl ⟨_, 2 ^ 32, rfl, rfl, ⟨maps_of srcSpan (by decide +kernel) (by decide +kernel) (by decide +kernel), (by decide +kernel), rfl⟩, by decide⟩))) (maps_of dstSpan (by decide +kernel) (by decide +kernel) (by decide +kernel)) (idle _ (by decide +kernel)) (by decide) (by decide +kernel)),
   sat (o _ data 1 _ { hu with len := 8 } 0x2000000 (2 ^ 32 + 2 ^ 20) (memRead data.sys.mem.dev (2 ^ 32) 16) (by decide) rfl (takes_of (by decide +kernel))
     (.inr (.inr (.inr (.inl ⟨_, 2 ^ 32, rfl, rfl, rfl, rfl, ⟨maps_of srcSpan (by decide +kernel) (by decide +kernel) (by decide +kernel), (by decide +kernel), rfl⟩⟩)))) (maps_of dstSpan (by decide +kernel) (by decide +kernel) (by decide +kernel)) (idle _ (by decide +kernel)) (by decide) (by decide +kernel)),
   sat (o _ data 1 _ (hp [1]) 0x2000000 (2 ^ 32 + 2 ^ 20) (memRead data.sys.mem.dev (2 ^ 32 + 4) 4) (by decide) rfl (takes_of (by decide +kernel))
     (.inr (.inr (.inr (.inr (.inl ⟨_, 2 ^ 32 + 4, rfl, by decide, rfl, rfl, (by decide +kernel), (by decide +kernel), ⟨maps_of srcSpan (by decide +kernel) (by decide +kernel) (by decide +kernel), (by decide +kernel), rfl⟩⟩))))) (maps_of dstSpan (by decide +kernel) (by decide +kernel) (by decide +kernel)) (idle _ (by decide +kernel)) (by decide) (by decide +kernel)),
   sat (o _ data 1 _ (hp [1]) 0x2000004 (2 ^ 32 + 2 ^ 20 + 4) (memRead data.sys.mem.dev (2 ^ 32) 4) (by decide) rfl (takes_of (by decide +kernel))
     (.inr (.inr (.inr (.inr (.inr (.inl ⟨_, 2 ^ 32, rfl, by decide, rfl, (by decide +kernel), (by decide +kernel), (by decide +kernel), ⟨maps_of srcSpan (by decide +kernel) (by decide +kernel) (by decide +kernel), (by decide +kernel), rfl⟩⟩)))))) (maps_of dstSpan (by decide +kernel) (by decide +kernel) (by decide +kernel)) (idle _ (by decide +kernel)) (by decide) (by decide +kernel)),
   sat (o _ data 1 _ hu 0x2000000 (2 ^ 32 + 2 ^ 20) _ (by decide) rfl (takes_of (by decide +kernel))
     (.inr (.inr (.inr (.inr (.inr (.inr ⟨_, .inr (.inl rfl), rfl, rfl, (by decide +kernel)⟩)))))) (maps_of dstSpan (by decide +kernel) (by decide +kernel) (by decide +kernel)) (idle _ (by decide +kernel)) (by decide) (by decide +kernel)),
   sat (o _ data 1 _ hu 0x2000000 (2 ^ 32 + 2 ^ 20) _ (by decide) rfl (takes_of (by decide +kernel))
     (.inr (.inr (.inr (.inr (.inr (.inr ⟨_, .inl rfl, rfl, rfl, (by decide +kernel)⟩)))))) (maps_of dstSpan (by decide +kernel) (by decide +kernel) (by decide +kernel)) (idle _ (by decide +kernel)) (by decide) (by decide +kernel)),
   sat (o _ data 1 _ hu 0x2000000 (2 ^ 32 + 2 ^ 20) _ (by decide) rfl (takes_of (by decide +kernel))
     (.inr (.inr (.inr (.inr (.inr (.inr ⟨_, .inr (.inr rfl), rfl, rfl, (by decide +kernel)⟩)))))) (maps_of dstSpan (by decide +kernel) (by decide +kernel) (by decide +kernel)) (idle _ (by decide +kernel)) (by decide) (by decide +kernel))⟩

/-- The page of numbers, on a half whose engines hold a table and a program of context 5: a table with one step, and a program that passes its input
on. A context without a heap lets addresses be what they are. -/
def loaded : State :=
  withDev (fused (fun x => { x with xfm := { x.xfm with
    tables := [{ unit := 0, ctx := 5, va := 0x1004000, gen := 3, data := leBytes 4 0 ++ leBytes 4 0x3F800000 }]
    progs := [{ unit := 0, ctx := 5, va := 0x1004000, gen := 3, data := [1] }] } })) dev
def hu8 : Hdr := { hu with len := 8 }
def table : PwlTable := (parseTable (leBytes 4 0 ++ leBytes 4 0x3F800000)).get (by decide +kernel)
def relay : Relay := (parseRelay [1]).get (by decide +kernel)
def singles : List Nat := decodeRun 0 4 (memRead loaded.sys.mem.dev (2 ^ 32) (arrayBytes 0 4)) []

/-- The first case also shows that rounding 1, 2, 1 and 3 to half precision is exact. -/
theorem meets_ElementPacketsComputeTheirArrays (o : Obligations.ElementPacketsComputeTheirArrays) :
    Runs (.transform 1 hu8 { src := 0x1000000, dst := 0x2000000, count := 4, dfmt := 1 }) loaded ∧
    Runs (.transform 1 hu8 { src := 0x1000000, dst := 0x2000000, count := 4, op := 1, scale := 0x40000000, bias := 0x3F800000 }) loaded ∧
    Runs (.transform 1 hu8 { src := 0x1000000, dst := 0x2000000, count := 4, op := 2, aux := 0x1004000, gen := 3 }) loaded ∧
    Runs (.transform 1 hu8 { src := 0x1000000, dst := 0x2000000, count := 4, op := 3, aux := 0x1004000, gen := 3 }) loaded ∧
    Runs (.reduce 1 hu8 { srca := 0x1000000, srcb := 0x1000010, dst := 0x2000000, count := 4, rop := 1, post := 0x3F800000 }) loaded :=
  ⟨sat (o _ loaded 1 _ hu8 0 1 4 0 0 0x2000000 (2 ^ 32 + 2 ^ 20) singles (by decide) rfl (takes_of (by decide +kernel))
     (.inl ⟨_, 2 ^ 32, rfl, rfl, rfl, rfl, rfl, rfl, rfl, rfl, ⟨(by decide +kernel), maps_of srcSpan (by decide +kernel) (by decide +kernel) (by decide +kernel), (by decide +kernel)⟩, .inl ⟨rfl, rfl⟩⟩) (by decide +kernel) (by decide +kernel) (by decide +kernel) (maps_of dstSpan (by decide +kernel) (by decide +kernel) (by decide +kernel)) (idle _ (by decide +kernel)) (by decide) (by decide +kernel) (by decide +kernel)),
   sat (o _ loaded 1 _ hu8 0 0 4 0 0 0x2000000 (2 ^ 32 + 2 ^ 20) (singles.map (fun v => fFma v 0x40000000 0x3F800000)) (by decide) rfl (takes_of (by decide +kernel))
     (.inl ⟨_, 2 ^ 32, rfl, rfl, rfl, rfl, rfl, rfl, rfl, rfl, ⟨(by decide +kernel), maps_of srcSpan (by decide +kernel) (by decide +kernel) (by decide +kernel), (by decide +kernel)⟩, .inr (.inl ⟨rfl, rfl⟩)⟩) (by decide +kernel) (by decide +kernel) (by decide +kernel) (maps_of dstSpan (by decide +kernel) (by decide +kernel) (by decide +kernel)) (idle _ (by decide +kernel)) (by decide) (by decide +kernel) (by decide +kernel)),
   sat (o _ loaded 1 _ hu8 0 0 4 0 0 0x2000000 (2 ^ 32 + 2 ^ 20) (singles.map (pwl table)) (by decide) rfl (takes_of (by decide +kernel))
     (.inl ⟨_, 2 ^ 32, rfl, rfl, rfl, rfl, rfl, rfl, rfl, rfl, ⟨(by decide +kernel), maps_of srcSpan (by decide +kernel) (by decide +kernel) (by decide +kernel), (by decide +kernel)⟩, .inr (.inr (.inl ⟨rfl, 0,
       { unit := 0, ctx := 5, va := 0x1004000, gen := 3, data := leBytes 4 0 ++ leBytes 4 0x3F800000 }, table, (by decide +kernel), (by decide +kernel), (Option.some_get _).symm, rfl⟩))⟩)
     (by decide +kernel) (by decide +kernel) (by decide +kernel) (maps_of dstSpan (by decide +kernel) (by decide +kernel) (by decide +kernel)) (idle _ (by decide +kernel)) (by decide) (by decide +kernel) (by decide +kernel)),
   sat (o _ loaded 1 _ hu8 0 0 4 0 0 0x2000000 (2 ^ 32 + 2 ^ 20) (singles.map (fun v => relay.run [] v 0)) (by decide) rfl (takes_of (by decide +kernel))
     (.inl ⟨_, 2 ^ 32, rfl, rfl, rfl, rfl, rfl, rfl, rfl, rfl, ⟨(by decide +kernel), maps_of srcSpan (by decide +kernel) (by decide +kernel) (by decide +kernel), (by decide +kernel)⟩, .inr (.inr (.inr ⟨rfl, 0,
       { unit := 0, ctx := 5, va := 0x1004000, gen := 3, data := [1] }, relay, (by decide +kernel), (by decide +kernel), (Option.some_get _).symm, (by decide +kernel), (by decide +kernel), rfl⟩))⟩)
     (by decide +kernel) (by decide +kernel) (by decide +kernel) (maps_of dstSpan (by decide +kernel) (by decide +kernel) (by decide +kernel)) (idle _ (by decide +kernel)) (by decide) (by decide +kernel) (by decide +kernel)),
   sat (o _ loaded 1 _ hu8 0 0 4 0 0 0x2000000 (2 ^ 32 + 2 ^ 20) _ (by decide) rfl (takes_of (by decide +kernel))
     (.inr ⟨_, 2 ^ 32, 2 ^ 32 + 16, rfl, rfl, rfl, rfl, rfl, rfl, rfl, ⟨(by decide +kernel), maps_of srcSpan (by decide +kernel) (by decide +kernel) (by decide +kernel), (by decide +kernel)⟩, ⟨(by decide +kernel), maps_of srcSpan (by decide +kernel) (by decide +kernel) (by decide +kernel), (by decide +kernel)⟩, rfl⟩)
     (by decide +kernel) (by decide +kernel) (by decide +kernel) (maps_of dstSpan (by decide +kernel) (by decide +kernel) (by decide +kernel)) (idle _ (by decide +kernel)) (by decide) (by decide +kernel) (by decide +kernel))⟩

/-- One row of four numbers; the page above it holds the expert map: a region at 0x2000000 for two rows. -/
def mapped : State := withDev (fused id) (dev ++ [(2 ^ 32 + 4096 + 3, 2), (2 ^ 32 + 4096 + 8, 2)])
def hr (bs : List Byte) : Hdr := { len := 9, ctx := 5, tag := 78, flags := 0x10, payload := bs ++ List.replicate (16 - bs.length) 0 }
def row : RouteBody := { k := 1, src := 0x1000000, ntok := 1, elems := 4, nexp := 1, map := 0x1001000 }
theorem meets_RoutePacketsMoveRows (o : Obligations.RoutePacketsMoveRows) :
    Runs (.routeDispatch 1 (hr []) { row with receipt := 0x1002000, self := 7 }) mapped ∧ Runs (.routeReturn 1 (hr [1]) { row with k := 0 }) mapped ∧
    Runs (.routeCombine 1 hu8 { row with nexp := 0, map := 0, dst := 0x2000000, receipt := 0x1002000, gate := 0x1000004 }) mapped :=
  ⟨sat ((o _ mapped 1 _ (hr []) { row with receipt := 0x1002000, self := 7 } (by decide) rfl (takes_of (by decide +kernel)) (2 ^ 32) (2 ^ 32 + 4096) (2 ^ 32 + 2 ^ 20) (2 ^ 32 + 8192) rfl (.inl rfl)
      (maps_of srcSpan (by decide +kernel) (by decide +kernel) (by decide +kernel)) (by decide +kernel) (idle _ (by decide +kernel)) (by decide +kernel) (by decide +kernel)).1 0x2000000 2 (.inl rfl) (by decide) rfl (maps_of srcSpan (by decide +kernel) (by decide +kernel) (by decide +kernel)) (by decide +kernel) (by decide +kernel) (maps_of dstSpan (by decide +kernel) (by decide +kernel) (by decide +kernel)) |>.1 rfl (by decide +kernel) (maps_of srcSpan (by decide +kernel) (by decide +kernel) (by decide +kernel)) (by decide +kernel)),
   sat ((o _ mapped 1 _ (hr [1]) { row with k := 0 } (by decide) rfl (takes_of (by decide +kernel)) (2 ^ 32) (2 ^ 32 + 4096) (2 ^ 32 + 2 ^ 20) (2 ^ 32 + 8192) rfl (.inr rfl)
      (maps_of srcSpan (by decide +kernel) (by decide +kernel) (by decide +kernel)) (by decide +kernel) (idle _ (by decide +kernel)) (by decide +kernel) (by decide +kernel)).1 0x2000000 2 (.inr rfl) (by decide) rfl (maps_of srcSpan (by decide +kernel) (by decide +kernel) (by decide +kernel)) (by decide +kernel) (by decide +kernel) (maps_of dstSpan (by decide +kernel) (by decide +kernel) (by decide +kernel)) |>.2 1 rfl (by decide +kernel) (by decide +kernel) (by decide)),
   sat ((o _ mapped 1 _ hu8 { row with nexp := 0, map := 0, dst := 0x2000000, receipt := 0x1002000, gate := 0x1000004 } (by decide) rfl (takes_of (by decide +kernel))
      (2 ^ 32) (2 ^ 32 + 8192) (2 ^ 32 + 4) (2 ^ 32 + 2 ^ 20) rfl (.inl rfl)
      (maps_of srcSpan (by decide +kernel) (by decide +kernel) (by decide +kernel)) (by decide +kernel) (idle _ (by decide +kernel)) (by decide +kernel) (by decide +kernel)).2 _ rfl (maps_of srcSpan (by decide +kernel) (by decide +kernel) (by decide +kernel)) (by decide +kernel) (maps_of srcSpan (by decide +kernel) (by decide +kernel) (by decide +kernel)) (by decide +kernel) (by decide +kernel) rfl (maps_of dstSpan (by decide +kernel) (by decide +kernel) (by decide +kernel)))⟩

/-- Half A in a fabric: package 3 behind port 0, and a ring of context 5 there at 0x10000000. -/
def fabSpan : Span := { ctx := 5, va := 0x10000000, pages := 64, frame := 2 ^ 46 * 3 + 2 ^ 32, target := 2, rd := true, wr := true, dirty := true }
def onFab (f : Half → Half) : State :=
  fused (fun x => f { x with
    xlt := { x.xlt with iotlb := fabSpan :: x.xlt.iotlb }
    obj := { x.obj with join := some { pkg := 1, domain := 1 }, routes := [(3, { primary := 1, hops := 1 })] }
    fab := { x.fab with ports := [(0, { st := 2, neighbour := 3 })] } })

/-- Whichever candidate the hash takes, there is one. -/
theorem can_ask (m : Mach) (h : HalfId) (d : Nat) (j : JoinRec) (hj : (m.half h).obj.join = some j ∧ j.pkg ≠ d)
    (hf : ((m.half h).freeTag (m.clk.now h)).isSome ∧ d ∉ (m.half h).obj.unreach ∧ d ∉ (m.half h).fab.drains)
    (hp : m.blk.portSlots (m.half h).id ((m.half h).routeMask d) ≠ []) : m.CanAsk h d := by
  refine ⟨⟨j, hj⟩, hf.1, hf.2.1, hf.2.2, fun a => ?_⟩
  unfold Half.requestPort Blk.pickPort
  cases e : m.blk.portSlots (m.half h).id ((m.half h).routeMask d) with
  | nil => exact absurd e hp
  | cons a l =>
    have : Config.fabHash d (a / 256) (m.half h).id.num % (a :: l).length < (a :: l).length := Nat.mod_lt _ (by simp)
    simp only [List.isEmpty_cons, Bool.false_eq_true, if_false]
    rw [List.getElem?_eq_getElem (Nat.mod_lt _ (by simp))]
    rfl

theorem none_in {α : Type} {l : List α} {P : α → Prop} (h : l = []) : ∀ r ∈ l, P r := by simp [h]

/-- The stream of 0x1000040 to that ring, with credit in the fence area. -/
def stream : Stream :=
  { ctx := 5, record := 0x1000040, off := 2 ^ 32 + 64, ring := 0x10000000, nslot := 4, slotLog2 := 12, arrival := 0x10008000, credit := 0x7000010,
    arrivalAt := 2 ^ 46 * 3 + 2 ^ 32 + 0x8000, creditAt := 2 ^ 30 + 16 }
def streams (l : List Stream) : Half → Half := objs (fun o => { o with streams := l })
def drainsTo3 (x : Half) : Half := { x with fab := { x.fab with drains := [3] } }
def open1 : OpenBody := { record := 0x1000040, ring := 0x10000000, nslot := 4, slotLog2 := 12, arrival := 0x10008000, credit := 0x7000010 }
def pkt (c : Instr) : Pkt := ((packetOf c).getD (0, {})).2
def opened : Mach × Option (Nat × Nat) :=
  let m := (onFab drainsTo3).sys
  let p := pkt (.draftOpen 1 hu open1)
  (m.taken 1 p).1.draftOpen .A (m.refOf 1 p) p
theorem meets_StreamPacketsAct (o : Obligations.StreamPacketsAct) :
    Runs (.prefetchStream 1 hu { src := 0x10000000, count := 65536, depth := 64 }) (onFab id) ∧
    Runs (.prefetchStreamStop 1 hu { stream := 2 }) (onFab (fun x => { x with ware := { x.ware with pf := [(2, { ctx := 5 })] } })) ∧
    Runs (.draftOpen 1 hu open1) (onFab drainsTo3) ∧
    Runs (.draftClose 1 hu { record := 0x1000040 }) (onFab (streams [{ stream with st := 2 }])) ∧
    Runs (.draftClose 1 hu { record := 0x1000040 }) (onFab (streams [stream])) ∧
    Runs (.draftSend 1 hu8 { record := 0x1000040, src := 0x1001000, count := 256, op := 4 }) (onFab (streams [{ stream with st := 2 }])) ∧
    Runs (.draftSend 1 hu8 { record := 0x1000040, src := 0x1001000, count := 256, op := 4 }) (onFab (streams [stream])) :=
  ⟨sat ((o (onFab id) 1 _ hu (.prefetchStream 1 hu { src := 0x10000000, count := 65536, depth := 64 }) rfl (takes_of (by decide +kernel))).1 _ 0 rfl (by decide +kernel)),
   sat ((o (onFab (fun x => { x with ware := { x.ware with pf := [(2, { ctx := 5 })] } })) 1 _ hu (.prefetchStreamStop 1 hu { stream := 2 }) rfl
     (takes_of (by decide +kernel))).2.1 _ .A { ctx := 5 } rfl (by decide) (by decide) (by decide +kernel) rfl),
   sat ((o (onFab drainsTo3) 1 (pkt (.draftOpen 1 hu open1)) hu (.draftOpen 1 hu open1) rfl (takes_of (by decide +kernel))).2.2.1 _ opened.1 rfl (eta opened _ (by decide +kernel)) (by decide +kernel) (none_in (by decide +kernel)) (none_in (by decide +kernel))),
   sat (((o (onFab (streams [{ stream with st := 2 }])) 1 _ hu (.draftClose 1 hu { record := 0x1000040 }) rfl (takes_of (by decide +kernel))).2.2.2.1
     _ { stream with st := 2 } rfl (by decide +kernel) rfl).1 (by decide)),
   sat (((o (onFab (streams [stream])) 1 _ hu (.draftClose 1 hu { record := 0x1000040 }) rfl (takes_of (by decide +kernel))).2.2.2.1
     _ stream rfl (by decide +kernel) rfl).2 rfl (can_ask _ _ _ { pkg := 1, domain := 1 } ⟨rfl, by decide⟩ (by decide +kernel) (by decide +kernel)) (by decide +kernel)),
   sat (((o (onFab (streams [{ stream with st := 2 }])) 1 _ hu8 (.draftSend 1 hu8 { record := 0x1000040, src := 0x1001000, count := 256, op := 4 }) rfl
     (takes_of (by decide +kernel))).2.2.2.2 _ { stream with st := 2 } rfl (by decide +kernel) (idle _ (by decide +kernel)) (by decide +kernel) (fun h => absurd rfl h)).1 rfl),
   sat (((o (onFab (streams [stream])) 1 _ hu8 (.draftSend 1 hu8 { record := 0x1000040, src := 0x1001000, count := 256, op := 4 }) rfl
     (takes_of (by decide +kernel))).2.2.2.2 _ stream rfl (by decide +kernel) (idle _ (by decide +kernel)) (by decide +kernel) (fun h => absurd rfl h)).2 (2 ^ 32 + 4096) fabSpan rfl rfl (by decide) rfl
     (maps_of srcSpan (by decide +kernel) (by decide +kernel) (by decide +kernel)) (by decide +kernel) (by decide +kernel) rfl rfl (by decide +kernel) (by decide +kernel) (by decide +kernel) (by decide +kernel) (by decide +kernel) (can_ask _ _ _ { pkg := 1, domain := 1 } ⟨rfl, by decide⟩ (by decide +kernel) (by decide +kernel))
     (fun a _ h => .inl (by simp only [stream] at h; omega)) (fun a _ h => .inr (by simp only [stream] at *; omega)))⟩

def chans (l : List (Nat × Chan)) : Half → Half := fun x => { x with dma := { x.dma with chans := l } }
/-- A channel that sends on the stream. -/
def sends (w : EngWork) : Chan :=
  { st := 2, disp := { ref := { q := 1, slot := 0, nslots := 2 }, pkt := pkt (.draftSend 1 hu8 { record := 0x1000040, op := 4, count := 8192 }) }, work := w }
def closing : Queue :=
  { user1 with inflight := [{ ref := { q := 1, slot := 3 }, pkt := pkt (.draftClose 1 hu { record := 0x1000040, limit := 5 }) }] }
theorem meets_StreamEventsAct (o : Obligations.StreamEventsAct) :
    Runs (.draftSlotCommit .A 0) (onFab (fun x => chans [(0, sends { written := 1 })] (streams [stream] x))) ∧
    Runs (.draftCreditResume .A 0) (withMem (onFab (fun x => chans [(0, sends { credit := some 0 })] (streams [stream] x))) (({} : MemSys).setWord false (2 ^ 30 + 16) 3)) ∧
    Runs (.draftCreditTimeout .A 0) (onFab (fun x => chans [(0, sends { credit := some 0 })] (streams [stream] x))) ∧
    Runs (.draftCloseLimitExpiry 1 3) (onFab (fun x => queue1 closing (streams [{ stream with flight := some .A }] x))) ∧
    Runs (.draftResync .A) (onFab (fun x => { streams [{ stream with flight := some .B }] x with tdm := { x.tdm with st := .freewheel } })) :=
  ⟨sat (o.1 _ .A 0 stream (by decide +kernel) (by decide +kernel) (by decide +kernel) (by decide +kernel) (can_ask _ _ _ { pkg := 1, domain := 1 } ⟨rfl, by decide⟩ (by decide +kernel) (by decide +kernel))),
   sat ((o.2.1 (withMem (onFab (fun x => chans [(0, sends { credit := some 0 })] (streams [stream] x))) (({} : MemSys).setWord false (2 ^ 30 + 16) 3)) .A 0 stream (by decide +kernel) (by decide +kernel)).1 (by decide +kernel)),
   sat ((o.2.1 _ .A 0 stream (by decide +kernel) (by decide +kernel)).2),
   sat (o.2.2.1 (onFab (fun x => queue1 closing (streams [{ stream with flight := some .A }] x))) 1 3 _ { stream with flight := some .A } (by decide +kernel) rfl (by decide +kernel) (by decide +kernel) rfl (by decide +kernel) (by decide +kernel)),
   sat (o.2.2.2 (onFab (fun x => { streams [{ stream with flight := some .B }] x with tdm := { x.tdm with st := .freewheel } })) .A { stream with flight := some .B } rfl (by decide +kernel)
     (can_ask _ _ _ { pkg := 1, domain := 1 } ⟨rfl, by decide⟩ (by decide +kernel) (by decide +kernel)))⟩

/-- A channel of the admin queue that copies 64 bytes of one device page to another, and the burst it has out. -/
def copies (st : Nat) (reads : List Burst) : Chan :=
  { st := st, disp := { ref := { q := 0, slot := 4 }, pkt := { op := 1, hdr := hd, args := [2 ^ 32, 2 ^ 33, 64] } }, reads := reads }
def burst : Burst := { src := .dev (2 ^ 32), srcVa := 2 ^ 32, dst := some (.dev (2 ^ 33)), dstVa := 2 ^ 33, n := 64 }
def dma (f : DmaUnit → DmaUnit) : State := onA (fun x => { x with dma := f x.dma })

theorem meets_BurstsAct (o : Obligations.BurstsAct) :
    Runs (.dmaBurstIssue .A 1) (dma (fun d => { d with chans := [(8, copies 1 [])] })) ∧
    Runs (.readCompletion .A 8 0) (withDev (dma (fun d => { d with chans := [(8, { copies 2 [burst] with pos := 64, pieceEnd := 64 })] })) dev) ∧
    Runs (.writeAck .A 0 4) (dma (fun d => { d with chans := [(8, { copies 6 [] with acks := 2 })] })) ∧
    Runs (.writeAck .A 0 4) (dma (fun d => { d with owed := [{ q := 0, slot := 4, acks := 1 }] })) ∧
    Runs (.idleFlush .A 1) (dma (fun d => { d with last := [(1, 5, 0x1000, false)], marks := [2 ^ 20 + 5, 7] })) ∧
    Runs (.flushReadComplete .A 1) (dma (fun d => { d with flushes := [{ port := 1, addr := 0x1000, marks := [2 ^ 20 + 5] }], marks := [2 ^ 20 + 5, 7] })) ∧
    Runs (.flushReadRefused .A 1) (dma (fun d => { d with flushes := [{ port := 1, addr := 0x1000, what := .order 0 4 }] })) :=
  ⟨sat (o.1 (dma (fun d => { d with chans := [(8, copies 1 [])] })) .A 1 8 (by decide +kernel) (by decide +kernel) (by decide +kernel) (by decide +kernel) (by decide +kernel) (by decide +kernel) (by decide +kernel) (by decide +kernel) (by decide +kernel) (by decide +kernel) (by decide +kernel) (by decide +kernel) (by decide +kernel) (by decide +kernel) (by decide +kernel) (by decide +kernel) (by decide +kernel) (by decide +kernel) (by decide +kernel) (by decide +kernel) (by decide +kernel)),
   sat (o.2.1 (withDev (dma (fun d => { d with chans := [(8, { copies 2 [burst] with pos := 64, pieceEnd := 64 })] })) dev) .A 8 burst [] (2 ^ 32) (2 ^ 33)
     (by decide +kernel) rfl rfl (by decide +kernel) (by decide +kernel) (by decide +kernel) (by decide +kernel) (by decide +kernel) (by decide +kernel) (by decide +kernel) (by decide +kernel) (by decide +kernel) (by decide +kernel)),
   sat ((o.2.2.1 (dma (fun d => { d with chans := [(8, { copies 6 [] with acks := 2 })] })) .A 0 4).1 8 (by decide +kernel)),
   sat ((o.2.2.1 (dma (fun d => { d with owed := [{ q := 0, slot := 4, acks := 1 }] })) .A 0 4).2 (by decide +kernel)),
   ran (o.2.2.2.1 (dma (fun d => { d with last := [(1, 5, 0x1000, false)], marks := [2 ^ 20 + 5, 7] })) .A 1 0x1000 5 (by decide +kernel)),
   sat ((o.2.2.2.2 (dma (fun d => { d with flushes := [{ port := 1, addr := 0x1000, marks := [2 ^ 20 + 5] }], marks := [2 ^ 20 + 5, 7] })) .A 1 { port := 1, addr := 0x1000, marks := [2 ^ 20 + 5] } (by decide +kernel)).1 (.inl rfl)),
   sat ((o.2.2.2.2 (dma (fun d => { d with flushes := [{ port := 1, addr := 0x1000, what := .order 0 4 }] })) .A 1 { port := 1, addr := 0x1000, what := .order 0 4 } (by decide +kernel)).2 (.inr ⟨0, 4, rfl⟩) (by unfold Half.hasRoom; decide +kernel))⟩

theorem meets_EngineErrorsEndPackets (o : Obligations.EngineErrorsEndPackets) :
    Runs (.meshWriteError .A 8) (dma (fun d => { d with chans := [(8, copies 6 [])] })) ∧
    Runs (.channelParityError .A 9) (dma (fun d => { d with chans := [(8, copies 2 [])] })) ∧
    Runs (.engineParityError .A 15) (onA (fun x => { chans [(8, copies 2 [])] x with xfm := { x.xfm with slots := [(61, { chan := 8 })] } })) :=
  ⟨sat (o.1 (dma (fun d => { d with chans := [(8, copies 6 [])] })) .A 8 (by unfold Mach.RunsPlain; decide +kernel) (by unfold Half.hasRoom; decide +kernel)),
   sat (o.2.1 (dma (fun d => { d with chans := [(8, copies 2 [])] })) .A 9 8 (by unfold Mach.RunsPlain; decide +kernel) (by unfold Half.hasRoom; decide +kernel) (by decide +kernel)),
   sat (o.2.2 (onA (fun x => { chans [(8, copies 2 [])] x with xfm := { x.xfm with slots := [(61, { chan := 8 })] } })) .A 15 8 (by unfold Mach.RunsPlain; decide +kernel) (by unfold Half.hasRoom; decide +kernel) (by decide +kernel))⟩

def waits1 (op : Nat) (args : List Nat) : Queue := { user1 with fetched := [{ ref := { q := 1, slot := 3 }, pkt := { op := op, hdr := hu, args := args } }] }
def copying : State :=
  onA (fun x => chans [(8, { copies 1 [] with pos := 64, pieceEnd := 64, done := 64 })]
    (objs (fun o => { o with queues := [(0, { q0 with inflight := [{ (copies 1 []).disp with chan := some 8 }] })] }) x))
def trailer1 : Trailer := { ref := { q := 1, slot := 3 }, fence := 0x7000008, value := 9, err := true }
def signal1 : Disp := { ref := { q := 1, slot := 3 }, pkt := { op := 0x10, hdr := hu, args := [0x7000008, 9] } }
def trailing : State := onA (queue1 { user1 with trailers := [trailer1] })
def signaling : State := onA (queue1 { user1 with inflight := [signal1] })
def fence9 (s : State) : Mach × FenceAt := s.sys.fenceAt .A 1 3 5 0 0x7000008 true false
def waiter (e : Bool) (limit : Nat) : Waiter := { ref := { q := 1, slot := 3 }, ctx := 5, fence := 2 ^ 30 + 8, value := 4, limit := limit, entry := e }
def waiting (w : Waiter) : State := onA (fun x => { x with waiters := [w] })

theorem meets_PacketEventsAct (o : Obligations.PacketEventsAct) :
    Runs (.packetDispatch .A) (onA (queue1 (waits1 0 []))) ∧
    Runs (.packetDispatch .A) (onPair (fun x => queue1 (waits1 0x10 [0x7000008, 9]) (paired x)) paired) ∧
    Runs (.packetComplete 0 4) copying ∧ Runs (.signalTrailer 1 3) trailing ∧ Runs (.fenceSignalApply 1 3) signaling ∧
    Runs (.fenceWaitPoll .A 1 3) (waiting (waiter false 0)) ∧ Runs (.fenceWaitPoll .A 1 3) (withMem (waiting (waiter false 0)) (fenceHolds 4)) ∧
    Runs (.fenceWaitTimeout .A 1 3) (waiting (waiter true 7)) :=
  ⟨sat ((o.1 (onA (queue1 (waits1 0 []))) .A 1 { ref := { q := 1, slot := 3 }, pkt := { hdr := hu } } [] (by decide +kernel) (by decide +kernel) (by decide +kernel) rfl rfl).1 rfl (by decide +kernel)),
   sat ((o.1 (onPair (fun x => queue1 (waits1 0x10 [0x7000008, 9]) (paired x)) paired) .A 1 { ref := { q := 1, slot := 3 }, pkt := signal1.pkt } [] (by decide +kernel) (by decide +kernel) (by decide +kernel) rfl rfl).2 rfl (by decide +kernel) (by decide +kernel)),
   sat (o.2.1 copying 0 4 8 { (copies 1 []).disp with chan := some 8 } (by decide +kernel) rfl rfl (by decide +kernel) rfl (by unfold Mach.RunsPlain; decide +kernel) (by decide +kernel) (by decide +kernel) (by decide +kernel) (by decide +kernel) (by decide +kernel)),
   sat ((o.2.2.1 trailing 1 3 (fence9 trailing).1 (2 ^ 30 + 8) 9 true (by decide +kernel) (by decide +kernel) (by decide +kernel) (by decide +kernel) (by decide +kernel) (by decide +kernel) (by decide +kernel) (by decide +kernel)).1 trailer1 (by decide +kernel) rfl rfl rfl (eta (fence9 trailing) _ (by decide +kernel))),
   sat ((o.2.2.1 signaling 1 3 (fence9 signaling).1 (2 ^ 30 + 8) 9 false (by decide +kernel) (by decide +kernel) (by decide +kernel) (by decide +kernel) (by decide +kernel) (by decide +kernel) (by decide +kernel) (by decide +kernel)).2 signal1 (by decide +kernel) (by decide +kernel) rfl rfl rfl rfl rfl rfl rfl (by decide +kernel) (eta (fence9 signaling) _ (by decide +kernel))),
   sat (((o.2.2.2 (waiting (waiter false 0)) .A 1 3 (waiter false 0) rfl (by decide +kernel) (by decide +kernel) (by decide +kernel) (by decide +kernel)).1 (by decide +kernel) (by decide +kernel)).1 (by decide +kernel)),
   sat (((o.2.2.2 (withMem (waiting (waiter false 0)) (fenceHolds 4)) .A 1 3 (waiter false 0) rfl (by decide +kernel) (by decide +kernel) (by decide +kernel) (by decide +kernel)).1 (by decide +kernel) (by decide +kernel)).2 (by decide +kernel)),
   sat ((o.2.2.2 (waiting (waiter true 7)) .A 1 3 (waiter true 7) rfl (by decide +kernel) (by decide +kernel) (by decide +kernel) (by decide +kernel)).2 (by decide +kernel) (by decide +kernel))⟩

/-- A channel that runs a TRANSFORM of four numbers on engine 0, loaded or not. -/
def turns (op aux : Nat) (w : EngWork) : Chan :=
  { st := 2, disp := { ref := { q := 1, slot := 3, nslots := 2 }, pkt := pkt (.transform 1 hu8 { src := 0x1000000, dst := 0x2000000, count := 4, op := op, aux := aux, gen := 3 }) }
    work := w }
def engine (k : Chan) (lease : Nat) : State :=
  { loaded with sys := { loaded.sys with blk := loaded.sys.blk.upd .A (fun x => chans [(8, k)] { x with
      xfm := { x.xfm with slots := [(2, { q := 1, slot := 3, chan := 8, ready := true })] }
      qos := { x.qos with buckets := [(bucketKey 3 0 0, { lease := lease })] } }) } }
def issued : Mach × Burst1 :=
  let s := engine (turns 0 0 { begun := true, eng := some 2 }) 5
  let y := (s.sys.half .A).takeLease 3 0 0 1
  Mach.chanStep { s.sys with blk := s.sys.blk.upd .A (fun _ => { y with xfm := { y.xfm with
    turn := Tab.put y.xfm.turn 0 2, slots := Tab.put y.xfm.slots 2 { q := 1, slot := 3, chan := 8, ready := false } } }) } .A 8 false
theorem prog_in_store (m : Mach) (h : HalfId) (c e va gen : Nat) (r : Resident) (g : Relay) (hr : resFind (m.blk.half h).xfm.progs e (m.chan h c).ctx va gen = some r)
    (hg : parseRelay r.data = some g) (b : Bool) : m.loadProg h c e va gen b = (m, .ok g) := by
  simp [Mach.loadProg, hr, hg]
def resident : Resident := { unit := 0, ctx := 5, va := 0x1004000, gen := 3, data := leBytes 4 0 ++ leBytes 4 0x3F800000 }
/-- A ROUTE with two fences left to signal: none for entry 0, and the one at 0x7000008 for entry 1. -/
def fences : State :=
  onA (chans [(8, { st := 2, disp := { ref := { q := 1, slot := 3 }, pkt := pkt (.routeDispatch 1 hu { row with fvalue := 6 }) }
                    work := { begun := true, fencesDue := true, fences := [0, 1], map := [(0x2000000, 2, 0), (0x2001000, 2, 0x7000008)] } })])
def fencePart : Mach × Parts :=
  (fences.sys.updChan .A 8 (fun y => { y with work := { y.work with fences := y.work.fences.erase 1 } })).parts .A 8 3 0x7000008 8 true false 2
def fencePiece : Piece := { place := .dev (2 ^ 30 + 8), va := 0x7000008, n := 8, pageEnd := 0x7001000 }

theorem meets_EngineEventsAct (o : Obligations.EngineEventsAct) :
    Runs (.engineIssue .A 0) (engine (turns 0 0 { begun := true, eng := some 2 }) 5) ∧
    Runs (.engineIssue .A 0) (engine (turns 0 0 { begun := true, eng := some 2 }) 0) ∧
    Runs (.tableLoadComplete .A 8) (engine (turns 2 0x1004000 {}) 5) ∧ Runs (.programLoadComplete .A 8) (engine (turns 3 0x1004000 {}) 5) ∧
    Runs (.routeFenceSignal .A 8 0) fences ∧ Runs (.routeFenceSignal .A 8 1) fences :=
  let ⟨a, b, c, d, e⟩ := o
  ⟨sat (a (engine (turns 0 0 { begun := true, eng := some 2 }) 5) .A 0 2 { q := 1, slot := 3, chan := 8, ready := true } issued.1 (by decide +kernel) (by decide +kernel) (by decide +kernel) rfl (by decide +kernel) (by decide +kernel) (eta issued _ (by decide +kernel)) (by decide +kernel)),
   sat (b (engine (turns 0 0 { begun := true, eng := some 2 }) 0) .A 0 2 { q := 1, slot := 3, chan := 8, ready := true } (by decide +kernel) (by decide +kernel) (by decide +kernel) rfl (by decide +kernel) (by decide +kernel)),
   sat ((c (engine (turns 2 0x1004000 {}) 5) .A 8 (engine (turns 2 0x1004000 {}) 5).sys (by decide +kernel) (by decide +kernel) (by decide +kernel)).1 table (by decide +kernel)
     (d (engine (turns 2 0x1004000 {}) 5) .A 0 0x1004000 3 5 8 resident table (by decide +kernel) (by decide +kernel) (Option.some_get _).symm false) (by decide +kernel)),
   sat ((c (engine (turns 3 0x1004000 {}) 5) .A 8 (engine (turns 3 0x1004000 {}) 5).sys (by decide +kernel) (by decide +kernel) (by decide +kernel)).2 relay (by decide +kernel)
     (prog_in_store _ .A 8 0 0x1004000 3 { resident with data := [1] } relay (by decide +kernel) (Option.some_get _).symm false) (by decide +kernel) (by decide +kernel) (by decide +kernel)),
   sat ((e fences .A 8 0 (by decide +kernel) (by decide +kernel) (by decide +kernel) (by decide +kernel) (by decide +kernel) (by decide +kernel)).1 (by decide +kernel)),
   sat ((e fences .A 8 1 (by decide +kernel) (by decide +kernel) (by decide +kernel) (by decide +kernel) (by decide +kernel) (by decide +kernel)).2 fencePart.1 fencePiece [] (2 ^ 30 + 8) (by decide +kernel) (eta fencePart _ (by decide +kernel)) rfl (by decide +kernel) (by decide +kernel) (by decide +kernel) (by decide +kernel) (by decide +kernel))⟩

theorem look_all {α : Type} {P : Nat → α → Prop} (t : Tab α) (h : ∀ e ∈ t, P e.1 e.2) (k : Nat) (v : α) (e : Tab.look t k = some v) : P k v := by
  induction t with
  | nil => simp [Tab.look] at e
  | cons a t ih =>
    obtain ⟨i, w⟩ := a
    simp only [Tab.look] at e
    split at e
    · subst i; injection e with e; subst v; exact h (_, w) (List.mem_cons.mpr (.inl rfl))
    · exact ih (fun b hb => h b (by simp [hb])) e
theorem dflt_all {α : Type} {P : Nat → α → Prop} (t : Tab α) (d : α) (h : ∀ e ∈ t, P e.1 e.2) (hd : ∀ k, P k d) (k : Nat) : P k (Tab.dflt t k d) := by
  unfold Tab.dflt
  cases e : Tab.look t k with
  | none => exact hd k
  | some v => exact look_all t h k v e
theorem queues_all {P : Nat → Queue → Prop} (b : Blk) (hd : ∀ k, P k {}) (ha : ∀ e ∈ b.a.obj.queues, P e.1 e.2) (hb : ∀ e ∈ b.b.obj.queues, P e.1 e.2) (q : Nat) :
    P q (b.getQ q) := by
  unfold Blk.getQ
  cases b.queueHome q with
  | A => exact dflt_all _ _ ha hd q
  | B => exact dflt_all _ _ hb hd q

/-- Context 5 with a packet fetched, without a fence area; and context 5 in destruction, with queue 1 as given. -/
def bare (f : Obj → Obj) : Half → Half := objs (fun o => f { o with mems := [] })
def fetched1 : State := onA (bare (fun o => { o with queues := [(0, q0), (1, waits1 0 [])] }))
def faulted : Ctx := { cx with st := .faulted, lossCount := 255 }
def ends (l : List (Nat × Queue)) : State :=
  onA (bare (fun o => { o with queues := (0, q0) :: l, ctxs := [(5, { cx with st := .draining, drain := some { reply := some { q := 0, slot := 1 } } })] }))
def lastOne (r : Queue) : Queue := { r with st := .draining, drain := some { reply := some { q := 0, slot := 1 } }, inflight := [signal1] }
def ev : LossEv := { half := .A, ctx := 5, cause := 1, master := 3, access := 2, addr := 77 }
def sweep (c : Ctx) : Half → Half := fun x => bare (fun o => { o with ctxs := [(5, c)] })
  { x with sec := { x.sec with sweeping := true, sweepCtx := 5, sweepSlot := 0, sweepRef := some { q := 0, slot := 1 } } }
/-- A sealed page of key slot 0 at 0x1000000, in no sealed region: the sweep leaves it as it is (its metadata cannot be reached). -/
def sealedLeaf : MemSys := tables.setWord false (2 ^ 31 + 2 ^ 32 + 4096) (leafEntry 0 (2 ^ 32) 0x4C0 0)
def sweepOne : State := withMem (onA (fun x => objs (fun o => { o with maps := [{ ctx := 5, lo := 0x1000000, hi := 0x1001000 }] }) (sweep { cx with st := .active } x))) sealedLeaf
def sweptOne : Mach × Nat := sweepOne.sys.sweepPage .A 5 0 0x1000000 (leafEntry 0 (2 ^ 32) 0x4C0 0)

theorem meets_ContextsEnd (o : Obligations.ContextsEnd) :
    Runs (.contextLoss ev) fetched1 ∧ Runs (.contextLoss ev) (onA (bare (fun o => { o with ctxs := [(5, faulted)] }))) ∧
    Runs (.ctxDrainComplete .A 5) (ends []) ∧ Runs (.drainBoundExpiry .A false 5) (ends []) ∧
    Runs (.ctxDrainComplete .A 5) (ends [(1, lastOne user1)]) ∧ Runs (.drainBoundExpiry .A false 5) (ends [(1, lastOne user1)]) ∧
    Runs (.drainBoundExpiry .A true 1) (onA (queue1 { lastOne user1 with inflight := [] })) ∧ Runs (.drainBoundExpiry .A true 1) (onA (queue1 (lastOne user1))) ∧
    Runs (.sweepChunkUnlock .A) (onA (sweep { cx with st := .active })) ∧ Runs (.sweepChunkUnlock .A) sweepOne ∧
    Runs (.objectReclaim .A) (onA (bare (fun o => { o with dead := [{ frames := [2 ^ 32] }] }))) :=
  let ⟨a, b, c, d, e, f⟩ := o
  ⟨sat ((a fetched1 ev cx (by decide +kernel) rfl).1 (.inr rfl) (by decide +kernel) (by decide +kernel) (by decide +kernel) (by decide +kernel) (by unfold Mach.WithdrawsAlone; decide +kernel) (by decide +kernel) (by unfold Half.hasRoom; decide +kernel) (by decide +kernel) (queues_all (P := fun q r => ∀ f ∈ r.fetched, f.ref.q = q) _ (fun _ => none_in rfl) (by decide +kernel) (by decide +kernel))),
   sat ((a (onA (bare (fun o => { o with ctxs := [(5, faulted)] }))) ev faulted (by decide +kernel) rfl).2 rfl (by decide +kernel)),
   sat (b (ends []) .A 5 _ _ rfl rfl rfl rfl (by decide +kernel) (by decide +kernel) (by decide +kernel) (by decide +kernel) (by decide +kernel) (by decide +kernel) (by decide +kernel) (by decide +kernel) (by unfold Mach.WithdrawsAlone; decide +kernel) (fun g => by cases g <;> exact none_in (by decide +kernel)) _ (.inl rfl)),
   sat (b (ends []) .A 5 _ _ rfl rfl rfl rfl (by decide +kernel) (by decide +kernel) (by decide +kernel) (by decide +kernel) (by decide +kernel) (by decide +kernel) (by decide +kernel) (by decide +kernel) (by unfold Mach.WithdrawsAlone; decide +kernel) (fun g => by cases g <;> exact none_in (by decide +kernel)) _ (.inr rfl)),
   sat ((c (ends [(1, lastOne user1)]) .A 5 1 _ _ signal1 rfl rfl rfl rfl (by decide +kernel) (by decide +kernel) (by decide +kernel)).1),
   sat ((c (ends [(1, lastOne user1)]) .A 5 1 _ _ signal1 rfl rfl rfl rfl (by decide +kernel) (by decide +kernel) (by decide +kernel)).2 rfl rfl (by decide) (by decide +kernel) (by decide +kernel) (by decide +kernel) (by decide +kernel) (by decide +kernel) (by decide +kernel) (by unfold Mach.WithdrawsAlone; decide +kernel) (by decide +kernel) (by decide +kernel)),
   sat ((d (onA (queue1 { lastOne user1 with inflight := [] })) .A 1 { reply := some { q := 0, slot := 1 } } (by decide +kernel) (by decide) (by decide +kernel) (by decide +kernel) (by decide +kernel) (by decide +kernel) (by decide +kernel) (by decide +kernel)).1 (by decide +kernel) (by decide +kernel)),
   sat ((d (onA (queue1 (lastOne user1))) .A 1 { reply := some { q := 0, slot := 1 } } (by decide +kernel) (by decide) (by decide +kernel) (by decide +kernel) (by decide +kernel) (by decide +kernel) (by decide +kernel) (by decide +kernel)).2 signal1 (by decide +kernel) (by decide +kernel) rfl rfl rfl),
   sat ((e (onA (sweep { cx with st := .active })) .A { cx with st := .active } { q := 0, slot := 1 } (by decide +kernel) (by decide +kernel) (by decide +kernel) (.inr rfl) (by decide +kernel) (by decide +kernel) (by decide +kernel)).1 (by decide +kernel)),
   sat ((e sweepOne .A { cx with st := .active } { q := 0, slot := 1 } (by decide +kernel) (by decide +kernel) (by decide +kernel) (.inr rfl) (by decide +kernel) (by decide +kernel) (by decide +kernel)).2 0x1000000 (leafEntry 0 (2 ^ 32) 0x4C0 0) sweptOne.1 0 (by decide +kernel)
     (eta sweptOne _ (by decide +kernel)) (by unfold Mach.WithdrawsAlone; decide +kernel)),
   sat (f (onA (bare (fun o => { o with dead := [{ frames := [2 ^ 32] }] }))) .A { frames := [2 ^ 32] } [] (2 ^ 32) (by decide +kernel) (by decide +kernel) (by decide +kernel) rfl (by decide +kernel) (by decide +kernel))⟩

/-- Partition 3 with context 5, and context 6 in destruction; context 7 is another's. -/
def three : State :=
  onA (bare (fun o => { o with queues := [(0, q0)], ctxs := [(5, { cx with part := 3 }), (6, { cx with part := 3, st := .draining, drain := some {} }), (7, cx)] }))
def resetting (f : Obj → Obj) : State := onA (bare (fun o => f { o with ctxs := [], parts := [(3, { st := .resetting })] }))
theorem meets_PartitionsReset (o : Obligations.PartitionsReset) :
    Runs (.functionLevelReset 0 3) three ∧ Runs (.functionLevelReset 0 3) (resetting id) ∧ Runs (.vfEnableClear 0) (onA (fun x => { x with obj := {} })) ∧
    Runs (.functionLevelReset 0 0) (onA (fun x => { x with obj := {} })) ∧ Runs (.partitionResetComplete .A 3) (resetting id) ∧
    Runs (.frameReclaimDone .A 3) (resetting (fun o => { o with parts := [(3, { st := .reclaiming, sealed := true, memBase := 0, memSize := 2 ^ 21 })] })) :=
  let ⟨a, b, c, d⟩ := o
  ⟨sat ((a three 0 3 (by decide +kernel) rfl (by decide) (by decide) (by decide +kernel)).1 (by decide +kernel) (fun g => by cases g <;> decide +kernel) (by decide +kernel)
     (look_all _ (List.forall_mem_cons.mpr ⟨fun _ => ⟨by decide, fun k => absurd k (by decide), (by decide +kernel), (by unfold Mach.WithdrawsAlone; decide +kernel), fun g => by cases g <;> exact none_in (by decide +kernel)⟩,
       List.forall_mem_cons.mpr ⟨fun _ => ⟨by decide, fun _ => ⟨{}, rfl, rfl⟩, (by decide +kernel), (by unfold Mach.WithdrawsAlone; decide +kernel), fun g => by cases g <;> exact none_in (by decide +kernel)⟩,
       List.forall_mem_cons.mpr ⟨fun h => absurd h (by decide), none_in rfl⟩⟩⟩)) (by decide +kernel) (by decide +kernel) (by decide +kernel) (by decide +kernel) (by decide +kernel) (by decide +kernel)),
   sat ((a (resetting id) 0 3 (by decide +kernel) rfl (by decide) (by decide) (by decide +kernel)).2 (by decide +kernel)),
   sat (b (onA (fun x => { x with obj := {} })) 0 (by decide +kernel) (fun g => by cases g <;> exact ⟨rfl, rfl⟩) (by decide +kernel) rfl).1,
   sat (b (onA (fun x => { x with obj := {} })) 0 (by decide +kernel) (fun g => by cases g <;> exact ⟨rfl, rfl⟩) (by decide +kernel) rfl).2,
   sat (c (resetting id) .A 3 (by decide +kernel) (by decide +kernel) (by decide +kernel) (by decide +kernel)),
   sat (d (resetting (fun o => { o with parts := [(3, { st := .reclaiming, sealed := true, memBase := 0, memSize := 2 ^ 21 })] })) .A 3 (by decide +kernel) (by decide +kernel) (by decide +kernel))⟩

/-- A walk for holder entry 0, with the tables above. -/
def rootAt : Nat := 2 ^ 31 + 2 ^ 32
def miss (write : Bool) : Miss := { ctx := 5, va := 0x1000000, write := write, who := .holder 0 }
def atLeaf (write : Bool) : Walk := { miss := miss write, level := 1, table := rootAt + 4096 }
def holder (write : Bool) : Holder := { eng := 8, write := write, span := { ctx := 5, va := 0x1000000 } }
def walks (f : XltUnit → XltUnit) : Half → Half := fun x => { x with xlt := f { x.xlt with iotlb := [] } }
def walkOf (w : Walk) (ms : MemSys) (regs : Tab W64) : State :=
  withMem (onA (fun x => walks (fun t => { t with walks := [(0, w)], holders := [(0, holder w.miss.write)] }) { x with regs := regs })) ms
def missing (l : List (Nat × Walk)) (q : List Miss) : State :=
  onA (fun x => walks (fun t => { t with queue := q, walks := l }) { x with qos := { x.qos with buckets := [(bucketKey 2 0 0, { lease := 5 })] } })
def group1 (ms : MemSys) : List Nat := (List.range 16).map (fun k => ms.word false (rootAt + 4096 + 8 * k))
/-- A leaf that names a frame twice as large as its level has, a read-only leaf, and a leaf used before. -/
def leafIs (size attrs ad : Nat) : MemSys := tables.setWord false (rootAt + 4096) (leafEntry size (2 ^ 32) attrs 0 + ad)
def casing (w : Walk) (ms : MemSys) : State := walkOf w ms []
def waitsCas (cas : List Nat) : Walk := { atLeaf true with span := some (span 0x1000000 (2 ^ 32) 1), cas := cas, group := group1 tables }
/-- A holder of a channel that copies 64 KiB, over its first page. -/
def holding (iotlb : List Span) (count : Nat) : State :=
  onA (fun x => chans [(8, { copies 2 [] with disp := { (copies 2 []).disp with pkt := { op := 1, hdr := hu, args := [0x1000000, 0x2000000, count] } } })]
    { x with xlt := { x.xlt with iotlb := iotlb, holders := [(3, { holder false with st := 1, span := span 0x1000000 (2 ^ 32) 1 })] } })
def atsWait (write : Bool) : State :=
  onA (walks (fun t => { t with holders := [(3, { holder write with st := 1, atsOut := some (0, 4), span := span 0x1000000 (2 ^ 32) 16 })] }))

theorem only0 {P : Nat → Prop} (h : P 0) : ∀ j, 0 ≤ j → j ≤ 0 → P j := fun _ _ k => Nat.le_zero.mp k ▸ h

theorem meets_WalksAct (o : Obligations.WalksAct) :
    Runs (.walkStart .A) (missing [] [miss true]) ∧ Runs (.walkStart .A) (missing [(7, atLeaf true)] [miss true]) ∧
    ((1 : Nat) ≤ 2 ∧ spanMate [3, 3 + 2 ^ 16 + 2 ^ 13, 3 + 2 ^ 17 + 2 ^ 12, 3 + 3 * 2 ^ 16] 2 3 = true) ∧
    Runs (.walkGroupRead .A 0 false) (walkOf (atLeaf false) {} []) ∧ Runs (.walkGroupRead .A 0 true) (walkOf (atLeaf false) {} []) ∧
    Runs (.walkGroupRead .A 0 true) (walkOf (atLeaf false) (leafIs 1 0xC0 0) []) ∧
    Runs (.walkGroupRead .A 0 true) (walkOf { atLeaf false with level := 2, table := rootAt } tables []) ∧
    Runs (.walkGroupRead .A 0 true) (walkOf (atLeaf true) (leafIs 0 0x40 0) []) ∧
    Runs (.walkGroupRead .A 0 true) (walkOf (atLeaf true) tables [(0x0100000, 2)]) ∧
    Runs (.walkGroupRead .A 0 true) (walkOf (atLeaf true) (leafIs 0 0xC0 (2 ^ 63 + 2 ^ 62)) [(0x0100000, 3)]) ∧
    Runs (.walkGroupRead .A 0 true) (walkOf (atLeaf true) (leafIs 0 0xC0 (2 ^ 62)) [(0x0100000, 3)]) ∧
    Runs (.adUpdateCas .A 0 true) (casing (waitsCas [0]) tables) ∧ Runs (.adUpdateCas .A 0 true) (casing (waitsCas [0, 1]) {}) ∧
    Runs (.spokeFail .A 0) (walkOf (atLeaf true) {} []) ∧
    Runs (.holderSpanRelease .A 3) (holding [] 4096) ∧ Runs (.holderSpanRelease .A 3) (holding [span 0x1001000 (2 ^ 32 + 4096) 1] 4097) ∧
    Runs (.holderSpanRelease .A 3) (holding [] 65536) ∧
    Runs (.atsCompletion .A 3 0x5000 12 true false) (atsWait false) ∧ Runs (.atsCompletion .A 3 0x5000 1 true false) (atsWait true) ∧
    Runs (.atsCompletion .A 4 0 0 false false) (atsWait true) :=
  let ⟨a, b, c, d, e, f, g⟩ := o
  ⟨ran ((a (missing [] [miss true]) .A).1 0 (miss true) (by decide +kernel) (by decide +kernel) (none_in rfl)),
   ran ((a (missing [(7, atLeaf true)] [miss true]) .A).2.2 7 (atLeaf true) (miss true) rfl rfl (by decide +kernel)),
   ⟨(b [3, 3 + 2 ^ 16 + 2 ^ 12, 3 + 2 ^ 17, 0] 2 1 2 (by decide +kernel)).1, (by decide +kernel)⟩,
   sat ((c (walkOf (atLeaf false) {} []) .A 0 0 (atLeaf false) (holder false) (by decide +kernel) (by decide +kernel) (by decide +kernel) (by decide +kernel) (by decide +kernel) (by decide +kernel) (by decide +kernel) (by decide +kernel)).1 (by unfold Half.hasRoom; decide +kernel)),
   sat (((c (walkOf (atLeaf false) {} []) .A 0 0 (atLeaf false) (holder false) (by decide +kernel) (by decide +kernel) (by decide +kernel) (by decide +kernel) (by decide +kernel) (by decide +kernel) (by decide +kernel) (by decide +kernel)).2 (group1 {}) cx (by decide +kernel) (by decide +kernel)).1 (by decide +kernel)),
   sat (((c (walkOf (atLeaf false) (leafIs 1 0xC0 0) []) .A 0 0 (atLeaf false) (holder false) (by decide +kernel) (by decide +kernel) (by decide +kernel) (by decide +kernel) (by decide +kernel) (by decide +kernel) (by decide +kernel) (by decide +kernel)).2 (group1 (leafIs 1 0xC0 0)) cx (by decide +kernel) (by decide +kernel)).2.1 (by decide +kernel) (by decide +kernel) (by unfold Half.hasRoom; decide +kernel)),
   sat (((c (walkOf { atLeaf false with level := 2, table := rootAt } tables []) .A 0 0 { atLeaf false with level := 2, table := rootAt } (holder false) (by decide +kernel) (by decide +kernel) (by decide +kernel) (by decide +kernel) (by decide +kernel) (by decide +kernel) (by decide +kernel) (by decide +kernel)).2
     ((List.range 16).map (fun k => tables.word false (rootAt + 8 * k))) cx (by decide +kernel) (by decide +kernel)).2.2.1 (by decide +kernel) (by decide +kernel) (by decide +kernel)),
   sat ((((c (walkOf (atLeaf true) (leafIs 0 0x40 0) []) .A 0 0 (atLeaf true) (holder true) (by decide +kernel) (by decide +kernel) (by decide +kernel) (by decide +kernel) (by decide +kernel) (by decide +kernel) (by decide +kernel) (by decide +kernel)).2 (group1 (leafIs 0 0x40 0)) cx (by decide +kernel) (by decide +kernel)).2.2.2 (by decide +kernel) (by decide +kernel) (by decide +kernel)).1
     1 (by decide +kernel) (by decide) (by decide)),
   sat ((((c (walkOf (atLeaf true) tables [(0x0100000, 2)]) .A 0 0 (atLeaf true) (holder true) (by decide +kernel) (by decide +kernel) (by decide +kernel) (by decide +kernel) (by decide +kernel) (by decide +kernel) (by decide +kernel) (by decide +kernel)).2 (group1 tables) cx (by decide +kernel) (by decide +kernel)).2.2.2 (by decide +kernel) (by decide +kernel) (by decide +kernel)).2
     0 0 (by decide +kernel) (by decide +kernel) |>.1 (.inl (by decide +kernel))),
   sat ((((c (walkOf (atLeaf true) (leafIs 0 0xC0 (2 ^ 63 + 2 ^ 62)) [(0x0100000, 3)]) .A 0 0 (atLeaf true) (holder true) (by decide +kernel) (by decide +kernel) (by decide +kernel) (by decide +kernel) (by decide +kernel) (by decide +kernel) (by decide +kernel) (by decide +kernel)).2
     (group1 (leafIs 0 0xC0 (2 ^ 63 + 2 ^ 62))) cx (by decide +kernel) (by decide +kernel)).2.2.2 (by decide +kernel) (by decide +kernel) (by decide +kernel)).2 0 0 (by decide +kernel) (by decide +kernel) |>.1 (.inr (only0 (by decide +kernel)))),
   sat ((((c (walkOf (atLeaf true) (leafIs 0 0xC0 (2 ^ 62)) [(0x0100000, 3)]) .A 0 0 (atLeaf true) (holder true) (by decide +kernel) (by decide +kernel) (by decide +kernel) (by decide +kernel) (by decide +kernel) (by decide +kernel) (by decide +kernel) (by decide +kernel)).2
     (group1 (leafIs 0 0xC0 (2 ^ 62))) cx (by decide +kernel) (by decide +kernel)).2.2.2 (by decide +kernel) (by decide +kernel) (by decide +kernel)).2 0 0 (by decide +kernel) (by decide +kernel) |>.2 (by decide +kernel) ⟨0, by decide, by decide, (by decide +kernel)⟩),
   sat ((d (casing (waitsCas [0]) tables) .A 0 0 0 [] (waitsCas [0]) (holder true) (span 0x1000000 (2 ^ 32) 1) (by decide +kernel) (by decide +kernel) (by decide +kernel) (by decide +kernel) (by decide +kernel) (by decide +kernel) (by decide +kernel) (by decide +kernel) (by decide +kernel)).1 (by decide +kernel)),
   sat ((d (casing (waitsCas [0, 1]) {}) .A 0 0 0 [1] (waitsCas [0, 1]) (holder true) (span 0x1000000 (2 ^ 32) 1) (by decide +kernel) (by decide +kernel) (by decide +kernel) (by decide +kernel) (by decide +kernel) (by decide +kernel) (by decide +kernel) (by decide +kernel) (by decide +kernel)).2 (by decide +kernel)),
   ran (e (walkOf (atLeaf true) {} []) .A 0 (atLeaf true) (by decide) (by decide +kernel) (by decide +kernel) (by unfold Half.hasRoom; decide +kernel)),
   ran ((f (holding [] 4096) .A 3 _ _ 0 0x1000000 4096 false rfl (by decide +kernel) (by decide +kernel) rfl (by decide +kernel)).1 (by decide +kernel)),
   ran ((f (holding [span 0x1001000 (2 ^ 32 + 4096) 1] 4097) .A 3 _ _ 0 0x1000000 4097 false rfl (by decide +kernel) (by decide +kernel) rfl (by decide +kernel)).2.1 (span 0x1001000 (2 ^ 32 + 4096) 1) (by decide +kernel) (by decide +kernel)),
   ran ((f (holding [] 65536) .A 3 _ _ 0 0x1000000 65536 false rfl (by decide +kernel) (by decide +kernel) rfl (by decide +kernel)).2.2 (by decide +kernel) (by decide +kernel) (by decide +kernel)),
   ran ((g (atsWait false) .A 3 0x5000 12 true false).1 _ 0 4 rfl rfl (by decide +kernel) (by decide +kernel) rfl),
   ran ((g (atsWait true) .A 3 0x5000 1 true false).2.1 _ 0 4 rfl rfl (by decide +kernel) (.inr rfl)),
   ran ((g (atsWait true) .A 4 0 0 false false).2.2 rfl (by unfold Half.hasRoom; decide +kernel))⟩

/-- A chiplet at die port 2 with a grant of context 5, and the pages from 0x1000000 on pinned for it; the frame at 2^33 is a fence area's. -/
def chips (f : Half → Half) : State :=
  onFab (fun x => f (objs (fun o => { o with
      ctxs := [(5, { cx with st := .active, dieAllow := 4, fabric := true })], pins := [{ ctx := 5, lo := 0x1000000, hi := 0x1010000 }]
      frames := [(2 ^ 33 / 2 ^ 21, { mode := 3, part := 7, owner := 9 })] })
    { x with dies := [(2, { st := 1 })], xlt := { x.xlt with iotlb := x.xlt.iotlb.map (fun t => { t with pinned := true }) } }))
def pinned (va frame pages : Nat) : Span := { span va frame pages with pinned := true }

/-- Context 6 has no grant; of context 5, a pinned page, a page outside the pin ranges and a page that no span covers; then accesses let through and denied. -/
theorem meets_ChipletAccessesAct (o : Obligations.ChipletAccessesAct) :
    Runs (.xtReq .A 2 1 33 6 0x1000000) (chips id) ∧ Runs (.xtReq .A 2 3 33 5 0x1000000) (chips id) ∧ Runs (.xtReq .A 2 1 33 5 0x2000000) (chips id) ∧
    Runs (.xtReq .A 2 1 33 5 0x1040000) (chips id) ∧
    Runs (.chipletTranslatedAccess .A 2 5 false false (2 ^ 32) 4 []) (chips id) ∧ Runs (.chipletTranslatedAccess .A 2 5 false true (2 ^ 32) 0 [1, 2]) (chips id) ∧
    Runs (.chipletUntranslatedAccess .A 2 5 false 0x1000000 4 []) (chips id) ∧ Runs (.chipletUntranslatedAccess .A 2 5 true 0x1000000 0 [1, 2]) (chips id) ∧
    Runs (.chipletTranslatedAccess .A 2 5 false false (2 ^ 33) 4 []) (chips id) ∧ Runs (.chipletTranslatedAccess .A 2 5 false true (2 ^ 33) 0 [1, 2]) (chips id) ∧
    Runs (.chipletTranslatedAccess .A 2 5 true false (2 ^ 46 * 3) 4 []) (chips id) ∧ Runs (.chipletTranslatedAccess .A 2 5 true true (2 ^ 46 * 3) 0 [1, 2]) (chips id) :=
  let ⟨a, b, c, d⟩ := o
  ⟨sat ((a (chips id) .A 2 1 33 6 0x1000000 (by decide +kernel)).1 (by decide +kernel) (by unfold Half.hasRoom; decide +kernel)),
   sat ((a (chips id) .A 2 3 33 5 0x1000000 (by decide +kernel)).2.1 (pinned 0x1000000 (2 ^ 32) 16) (by decide +kernel) (by decide +kernel) (by decide +kernel) (by decide +kernel) (by decide +kernel)),
   sat ((a (chips id) .A 2 1 33 5 0x2000000 (by decide +kernel)).2.2.1 (pinned 0x2000000 (2 ^ 32 + 2 ^ 20) 16) (by decide +kernel) (by decide +kernel) (by decide +kernel)),
   sat ((a (chips id) .A 2 1 33 5 0x1040000 (by decide +kernel)).2.2.2 (by decide +kernel) (by decide +kernel)),
   sat ((b (chips id) .A 2 5 (2 ^ 32) 4 [] _ (by decide +kernel) (by decide +kernel)).1 rfl), sat ((b (chips id) .A 2 5 (2 ^ 32) 0 [1, 2] _ (by decide +kernel) (by decide +kernel)).2.1 rfl),
   sat ((b (chips id) .A 2 5 (2 ^ 32) 4 [] _ (by decide +kernel) (by decide +kernel)).2.2.1 0x1000000 (pinned 0x1000000 (2 ^ 32) 16) (by decide +kernel) (by decide +kernel) (by decide +kernel) (by decide +kernel) (by decide +kernel) (by decide +kernel) rfl),
   sat ((b (chips id) .A 2 5 (2 ^ 32) 0 [1, 2] _ (by decide +kernel) (by decide +kernel)).2.2.2 0x1000000 (pinned 0x1000000 (2 ^ 32) 16) (by decide +kernel) (by decide +kernel) (by decide +kernel) (by decide +kernel) (by decide +kernel) (by decide +kernel) rfl),
   sat (c (chips id) .A 2 5 (2 ^ 33) 4 [] (by decide +kernel) (by decide +kernel) (by unfold Half.hasRoom; decide +kernel)).1, sat (c (chips id) .A 2 5 (2 ^ 33) 0 [1, 2] (by decide +kernel) (by decide +kernel) (by unfold Half.hasRoom; decide +kernel)).2,
   sat (d (chips id) .A 2 5 (2 ^ 46 * 3) 4 [] (by decide +kernel) (can_ask _ _ _ { pkg := 1, domain := 1 } ⟨rfl, by decide⟩ (by decide +kernel) (by decide +kernel)) (by decide +kernel)).1,
   sat (d (chips id) .A 2 5 (2 ^ 46 * 3) 0 [1, 2] (by decide +kernel) (can_ask _ _ _ { pkg := 1, domain := 1 } ⟨rfl, by decide⟩ (by decide +kernel) (by decide +kernel)) (by decide +kernel)).2⟩

def dies (p : DiePort) : State := onA (fun x => { x with dies := [(2, p)] })
def waitsFor : DiePort := { admitFor := some { q := 0, slot := 1 } }
def acking (j : InvJob) : State := onA (fun x => { x with dies := [(2, { st := 1 })], xlt := { x.xlt with invs := [j] } })
def inval1 : InvJob := { id := 4, ctx := 5, hi := vaTop, ports := [(2, 9)], what := .drain 5 }
theorem meets_ChipletsAndCheckerAct (o : Obligations.ChipletsAndCheckerAct) :
    Runs (.ucieLinkUp .A 2 0x2006 desc) (dies {}) ∧ Runs (.ucieLinkUp .A 2 0x2006 desc) (dies waitsFor) ∧ Runs (.ucieLinkUp .A 2 0x2106 desc) (dies waitsFor) ∧
    Runs (.chipletLinkTimeout .A 2) (dies waitsFor) ∧ Runs (.ucieLaneRepair .A 2) (dies { link := true }) ∧
    Runs (.xtInvAck .A 2 9 true) (acking inval1) ∧ Runs (.chipletAckTimeout .A 2 9) (acking inval1) ∧ Runs (.chipletAckTimeout .A 2 8) (acking inval1) ∧
    Runs (.checkerAck .A) (dma (fun d => { d with unacked := 1 })) ∧ Runs (.checkerAck .A) (dma (fun d => { d with unacked := 16, checkQ := [7, 8] })) ∧
    Runs (.checkerAckTimeout .A) (dma (fun d => { d with unacked := 1 })) ∧
    Runs (.checkerViolationReport .A (some 8) (2 ^ 33) 0x1000000 5 0 true) (dma (fun d => { d with chans := [(8, copies 2 [])] })) ∧
    Runs (.checkerViolationReport .A none (2 ^ 33) 0x1000000 5 0 true) (dma id) ∧ Runs (.tapInstruction .A 4) base :=
  let ⟨a, _, c, d, e, f⟩ := o
  ⟨sat ((a (dies {}) .A 2 0x2006 desc).1 (by decide +kernel)), sat ((a (dies waitsFor) .A 2 0x2006 desc).2.1 { q := 0, slot := 1 } (by decide +kernel) (by decide +kernel) (by decide +kernel) (by decide +kernel)),
   sat ((a (dies waitsFor) .A 2 0x2106 desc).2.2.1 { q := 0, slot := 1 } (by decide +kernel) (by decide +kernel) (by unfold Half.hasRoom; decide +kernel) (by decide +kernel) (by decide +kernel)),
   sat ((a (dies waitsFor) .A 2 0 []).2.2.2.1 { q := 0, slot := 1 } (by decide +kernel) (by unfold Half.hasRoom; decide +kernel) (by decide +kernel) (by decide +kernel)), ran ((a (dies { link := true }) .A 2 0 []).2.2.2.2 (by unfold Half.hasRoom; decide +kernel)),
   sat (((c (acking inval1) .A 2 9).1 inval1 (by decide +kernel) rfl rfl (by simp [inval1])).1 true),
   sat (((c (acking inval1) .A 2 9).1 inval1 (by decide +kernel) rfl rfl (by simp [inval1])).2 (by decide +kernel) (by decide +kernel) (by decide +kernel) (by unfold Half.hasRoom; decide +kernel)),
   sat ((c (acking inval1) .A 2 8).2 (by decide +kernel)),
   ran ((d (dma (fun d => { d with unacked := 1 })) .A).1 (by decide +kernel) (by decide +kernel)), ran ((d (dma (fun d => { d with unacked := 16, checkQ := [7, 8] })) .A).2.1 7 [8] (by decide +kernel) (by decide +kernel) (by decide +kernel) (by decide +kernel) (by decide +kernel)),
   ran ((d (dma (fun d => { d with unacked := 1 })) .A).2.2 (by decide +kernel) (by decide +kernel) (by unfold Half.hasRoom; decide +kernel)),
   sat ((e (dma (fun d => { d with chans := [(8, copies 2 [])] })) .A (2 ^ 33) 0x1000000 5 0 true (by unfold Half.hasRoom; decide +kernel)).1 8 (by decide +kernel) (by decide +kernel) (by decide +kernel)),
   sat ((e (dma id) .A (2 ^ 33) 0x1000000 5 0 true (by unfold Half.hasRoom; decide +kernel)).2), ran (f base .A 4)⟩

/-- A channel of partition 0 that waits on a fault at 0x1000000. -/
def faulting (heap : Bool) : Chan :=
  { st := 4, disp := { ref := { q := 1, slot := 4 }, pkt := { op := 2, hdr := hu, args := [0x1000000, 64, 0] } }
    fault := some { va := 0x1000000, opnd := 1, write := true, heap := heap } }
def pri (l : List PriReq) (k : Chan) (g : Half → Half) : State := onA (fun x => g (chans [(8, k)] { x with xlt := { x.xlt with pri := l }, fns := [(0, { bme := true, pri := true })] }))
def asked : PriReq := { port := 0, vf := 0, prg := 0, chan := 8, va := 0x1000000 }

theorem meets_PageFaultsAreServed (o : Obligations.PageFaultsAreServed) :
    Runs (.pageRequestIssue 0 0) (pri [] (faulting false) id) ∧ Runs (.pageRequestIssue 0 5) base ∧ Runs (.prgResponse 0 0 7 .success) base ∧
    Runs (.prgResponse 0 0 0 .success) (pri [asked] (faulting false) id) ∧ Runs (.prgResponse 0 0 0 .invalid) (pri [asked] (faulting false) id) ∧
    Runs (.prgResponse 0 0 0 .failure) (pri [asked] (faulting false) id) ∧ Runs (.priTimeout .A 8) (pri [asked] (faulting false) id) ∧
    Runs (.allocatorFaultAnswer .A 8) (pri [] (faulting true) (objs (fun o => { o with mems := [{ ctx := 5, va := 0x1000000, size := 4096, frames := [2 ^ 32] }] }))) ∧
    Runs (.allocatorFaultAnswer .A 8) (pri [] (faulting true) id) ∧ Runs (.priEnableChange 0 0) base :=
  let ⟨a, b, c, d, e⟩ := o
  ⟨ran ((a (pri [] (faulting false) id) 0 0).1 .A 8 0 _ (by decide +kernel) (by decide +kernel) (fun g => by cases g <;> exact none_in (by decide +kernel)) (by decide +kernel) (by decide +kernel) rfl),
   ran ((a base 0 5).2 (.inl (by decide +kernel))), sat (b base 0 0 7 .success (by decide +kernel)),
   sat ((c (pri [asked] (faulting false) id) 0 0 0 8 .A asked _ (by decide +kernel) rfl rfl rfl (by decide +kernel)).1),
   sat ((c (pri [asked] (faulting false) id) 0 0 0 8 .A asked _ (by decide +kernel) rfl rfl rfl (by decide +kernel)).2.1 (by unfold Mach.RunsPlain; decide +kernel) (by decide +kernel)),
   sat ((c (pri [asked] (faulting false) id) 0 0 0 8 .A asked _ (by decide +kernel) rfl rfl rfl (by decide +kernel)).2.2 (by unfold Mach.RunsPlain; decide +kernel) (by decide +kernel) (by decide +kernel) (by decide +kernel)),
   sat ((d (pri [asked] (faulting false) id) .A 8 _ rfl (by decide +kernel) (by decide +kernel)).1 (by decide +kernel) (by unfold Mach.RunsPlain; decide +kernel) (by decide +kernel)),
   sat (((d (pri [] (faulting true) (objs (fun o => { o with mems := [{ ctx := 5, va := 0x1000000, size := 4096, frames := [2 ^ 32] }] }))) .A 8 _ rfl (by decide +kernel) (by decide +kernel)).2 (by decide +kernel)).1 (by decide +kernel)),
   sat (((d (pri [] (faulting true) id) .A 8 _ rfl (by decide +kernel) (by decide +kernel)).2 (by decide +kernel)).2 (by decide +kernel) (by unfold Mach.RunsPlain; decide +kernel) (by decide +kernel)), ran (e base 0 0)⟩

def recalled : Holder := { holder false with st := 2, span := span 0x1000000 (2 ^ 32) 1 }
def recalling (iotlb : List Span) : State := onA (fun x => { x with xlt := { x.xlt with iotlb := iotlb, holders := [(3, recalled)] } })
def regs (l : Tab W64) : State := onA (fun x => { x with regs := l })
def hostHold : Holder := { holder false with st := 1, span := { ctx := 5, va := 0x1000000, pages := 4, target := 1, frame := 0x5000, rd := true }, ats := [(0, 0x9000)] }

theorem meets_WithdrawalsAct (o : Obligations.WithdrawalsAct) :
    Runs (.holderRecallAck .A 3) (recalling [span 0x1000000 (2 ^ 33) 1]) ∧ Runs (.holderRecallAck .A 3) (recalling []) ∧
    Runs (.invalidationComplete .A) (acking { id := 4, what := .packet { q := 1, slot := 3 }, fenced := some 2 }) ∧
    Runs (.invalidationComplete .A) (acking { id := 4, what := .register }) ∧
    Runs (.registerInvalidate (.fn 0 0 0) .A) (regs [(0x0100118, 1)]) ∧
    Runs (.registerInvalidate (.fn 0 0 0) .A) (regs [(0x0100100, BitVec.ofNat 64 (2 ^ 57 - 4096)), (0x0100108, 2), (0x0100110, 5)]) ∧
    Runs (.registerInvalidate (.fn 0 0 0) .A) (regs [(0x0100110, 6)]) ∧
    Runs (.registerInvalidate (.fn 0 0 0) .A) (regs [(0x0100100, 0x1000000), (0x0100108, 1), (0x0100110, 5)]) ∧
    Runs (.registerInvalidate (.fn 0 0 0) .A) (regs [(0x0100110, BitVec.ofNat 64 (2 ^ 32))]) ∧
    Runs (.atsInvalidateRequest 0 9 none 0x5000 1 true) (onA (fun x => { x with xlt := { x.xlt with holders := [(3, hostHold)] } })) :=
  let ⟨a, b, c, d⟩ := o
  ⟨sat ((a (recalling [span 0x1000000 (2 ^ 33) 1]) .A 3 recalled (by decide +kernel) rfl (by decide +kernel) (by decide +kernel)).1 (span 0x1000000 (2 ^ 33) 1) (by decide +kernel)),
   sat ((a (recalling []) .A 3 recalled (by decide +kernel) rfl (by decide +kernel) (by decide +kernel)).2 (by decide +kernel)),
   sat ((b (acking { id := 4, what := .packet { q := 1, slot := 3 }, fenced := some 2 }) .A _ rfl (by decide +kernel) (by decide +kernel)).1 { q := 1, slot := 3 } rfl (by decide +kernel)),
   sat ((b (acking { id := 4, what := .register }) .A _ rfl (by decide +kernel) (by decide +kernel)).2 rfl),
   sat ((c (regs [(0x0100118, 1)]) (.fn 0 0 0) .A (admits_fn _ _ rfl rfl)).1 (by decide +kernel)),
   sat ((c (regs [(0x0100100, BitVec.ofNat 64 (2 ^ 57 - 4096)), (0x0100108, 2), (0x0100110, 5)]) (.fn 0 0 0) .A (admits_fn _ _ rfl rfl)).2.1 (by decide +kernel) (by decide +kernel) (by decide +kernel)),
   sat ((c (regs [(0x0100110, 6)]) (.fn 0 0 0) .A (admits_fn _ _ rfl rfl)).2.2.1 (by decide +kernel) (by decide +kernel) (by decide +kernel)),
   sat ((c (regs [(0x0100100, 0x1000000), (0x0100108, 1), (0x0100110, 5)]) (.fn 0 0 0) .A (admits_fn _ _ rfl rfl)).2.2.2.1 cx (by decide +kernel) (.inr (by decide +kernel)) (by decide +kernel) (by decide +kernel) (by decide +kernel) (by decide +kernel) (by unfold Mach.WithdrawsAlone; decide +kernel)),
   sat ((c (regs [(0x0100110, BitVec.ofNat 64 (2 ^ 32))]) (.fn 0 0 0) .A (admits_fn _ _ rfl rfl)).2.2.2.2 (by decide +kernel) (.inl (by decide +kernel)) (by decide +kernel) (by decide +kernel) (by decide +kernel) (by decide +kernel) (by decide +kernel)),
   sat (d (onA (fun x => { x with xlt := { x.xlt with holders := [(3, hostHold)] } })) 0 9 0x5000 1 3 none true hostHold (by decide +kernel) (by decide +kernel) (by decide +kernel) (by decide +kernel) (by decide +kernel))⟩

/-- Half A in the fabric with the Ware board on: a line of context 5, a fill, and a channel that waits. -/
def lineAddr : Nat := 2 ^ 46 * 3 + 2 ^ 32
def wline : WLine := { addr := lineAddr, ctx := 5, data := List.replicate 256 7, prefetched := true }
def ware (l : List WLine) (f : List WFill) (p : Tab Prefetch) (k : Chan) : State :=
  onFab (fun x => chans [(8, k)] { x with
    ware := { x.ware with lines := l, fills := f, pf := p }, regs := [(0x0580000, 3)], fab := { x.fab with reqs := [(9, { what := .fill, ctx := 5, addr := lineAddr, len := 256 })] } })
def fill1 : WFill := { addr := lineAddr, ctx := 5, chans := [8] }
def pre (lo : Nat) : Prefetch := { ctx := 5, lo := lo, hi := lo + 8192, depth := 4096, next := lo + 256, read := lo }

theorem meets_WareBoardActs (o : Obligations.WareBoardActs) :
    Runs (.wareLookup .A 8 5 0 lineAddr 16) (ware [] [] [] { copies 2 [] with fabBuf := [(lineAddr, List.replicate 16 1, false)] }) ∧
    Runs (.wareLookup .A 8 5 0 (lineAddr + 8) 16) (ware [wline] [] [] (copies 2 [])) ∧ Runs (.wareLookup .A 8 5 0 (lineAddr + 8) 16) (ware [] [] [] (copies 2 [])) ∧
    Runs (.wareFillReturn .A 9 (List.replicate 256 7) false) (ware [] [fill1] [] (copies 2 [])) ∧
    Runs (.wareScrub .A) (ware [wline] [] [] {}) ∧ Runs (.wareDisable .A) (ware [wline] [] [] {}) ∧
    Runs (.prefetchFill .A 2) (ware [] [] [(2, { pre 0x10000000 with read := 0, depth := 0 })] {}) ∧ Runs (.prefetchFill .A 2) (ware [] [] [(2, pre 0x1000000)] {}) ∧
    Runs (.prefetchFill .A 2) (ware [] [] [(2, pre 0x10000000)] {}) ∧ Runs (.prefetchFill .A 2) (ware [{ wline with addr := lineAddr + 256 }] [] [(2, pre 0x10000000)] {}) ∧
    Runs (.prefetchIdleEnd .A 2) (ware [] [] [(2, pre 0x10000000)] {}) :=
  let ⟨a, b, c, d⟩ := o
  ⟨sat ((a (ware [] [] [] { copies 2 [] with fabBuf := [(lineAddr, List.replicate 16 1, false)] }) .A 8 5 0 lineAddr 16 _ rfl).1 (List.replicate 16 1, false) (by decide +kernel)),
   sat ((a (ware [wline] [] [] (copies 2 [])) .A 8 5 0 (lineAddr + 8) 16 _ rfl).2.1 wline (by decide +kernel) (by decide +kernel)),
   sat ((a (ware [] [] [] (copies 2 [])) .A 8 5 0 (lineAddr + 8) 16 _ rfl).2.2 (by decide +kernel) (by decide +kernel) (none_in (by decide +kernel)) (can_ask _ _ _ { pkg := 1, domain := 1 } ⟨rfl, by decide⟩ (by decide +kernel) (by decide +kernel)) (by decide +kernel)),
   sat (b (ware [] [fill1] [] (copies 2 [])) .A 9 8 (List.replicate 256 7) false _ fill1 _ rfl rfl (by decide +kernel) (by decide +kernel) rfl rfl rfl rfl rfl rfl),
   ran (c (ware [wline] [] [] {}) .A).1, ran (c (ware [wline] [] [] {}) .A).2,
   sat ((d (ware [] [] [(2, { pre 0x10000000 with read := 0, depth := 0 })] {}) .A 2 _ rfl).1 (by decide +kernel)),
   sat (((d (ware [] [] [(2, pre 0x1000000)] {}) .A 2 _ rfl).2.1 srcSpan (by decide +kernel) (by decide +kernel) (by decide +kernel)).1 (by decide +kernel)),
   sat (((d (ware [] [] [(2, pre 0x10000000)] {}) .A 2 _ rfl).2.1 fabSpan (by decide +kernel) (by decide +kernel) (by decide +kernel)).2.1 (by decide +kernel) (by decide +kernel) (by decide +kernel) (by decide +kernel) (can_ask _ _ _ { pkg := 1, domain := 1 } ⟨rfl, by decide⟩ (by decide +kernel) (by decide +kernel))),
   sat (((d (ware [{ wline with addr := lineAddr + 256 }] [] [(2, pre 0x10000000)] {}) .A 2 _ rfl).2.1 fabSpan (by decide +kernel) (by decide +kernel) (by decide +kernel)).2.2 (by decide +kernel) (.inr (by decide +kernel))),
   ran (d (ware [] [] [(2, pre 0x10000000)] {}) .A 2 (pre 0x10000000) rfl).2.2⟩

def ports (k : HostPort) (f : Half → Half) : State := onA (fun x => f { x with ports := [(0, k)] })
def noObjs (x : Half) : Half := { x with obj := {} }
def marked : State := onA (fun x => bare (fun o => { o with queues := [(0, q0)] }) { x with dma := { x.dma with marks := [5] } })
def linkOn (st : Nat) : State := ports { up := true, lpState := st } (fun x => { x with regs := [(0x0600090, 3)], fns := [(0, { bme := true })] })

theorem meets_HostLinksAct (o : Obligations.HostLinksAct) :
    Runs (.hlUp 0) base ∧ Runs (.hlRetrain 0 true) base ∧ Runs (.hlDown 0) base ∧ Runs (.hlHotReset 0) base ∧ Runs (.hlDown 0) marked ∧
    Runs (.containRearm (.fn 0 0 0) 0 true) base ∧ Runs (.containRearm (.fn 0 0 0) 0 false) (ports { up := true, contained := true } noObjs) ∧
    Runs (.containRearm (.fn 0 0 0) 0 true) (ports { up := true, contained := true } id) ∧ Runs (.hlLpStateChange 0 2) base ∧
    Runs (.linkL0pRequest 0) (linkOn 0) ∧ Runs (.linkL0pRequest 0) (linkOn 1) ∧ Runs (.linkL1Request 0) (linkOn 1) ∧ Runs (.linkL1Request 0) (linkOn 2) ∧
    Runs (.linkPowerRequestTimeout 0) (ports { up := true, lpReq := some 2 } id) ∧ Runs (.linkPowerRequestTimeout 0) base :=
  let ⟨a, b, c, d, e⟩ := o
  ⟨ran (a base 0 false).1, ran (a base 0 true).2,
   sat ((b base 0 (by decide +kernel) (by decide +kernel) (fun g => by cases g <;> rfl) (by decide +kernel) (by decide +kernel) (by decide +kernel) (by unfold Half.hasRoom; decide +kernel)).1 (by decide +kernel)).1, sat ((b base 0 (by decide +kernel) (by decide +kernel) (fun g => by cases g <;> rfl) (by decide +kernel) (by decide +kernel) (by decide +kernel) (by unfold Half.hasRoom; decide +kernel)).1 (by decide +kernel)).2,
   sat ((b marked 0 (by decide +kernel) (by decide +kernel) (fun g => by cases g <;> rfl) (by decide +kernel) (by decide +kernel) (by decide +kernel) (by unfold Half.hasRoom; decide +kernel)).2 5 cx (by decide +kernel) (by decide +kernel) (.inr rfl) (by decide +kernel) (by decide +kernel) (by decide +kernel) (by unfold Mach.WithdrawsAlone; decide +kernel) (by decide +kernel) (by decide +kernel)),
   sat ((c base (.fn 0 0 0) 0 true (admits_fn _ _ rfl rfl)).1 (.inl (by decide +kernel))),
   sat ((c (ports { up := true, contained := true } noObjs) (.fn 0 0 0) 0 false (admits_fn _ _ rfl rfl)).2.1 (by decide +kernel) (by decide +kernel) (by decide +kernel)
     (fun q _ => queues_all (P := fun _ r => r.st = .absent) _ (fun _ => rfl) (by decide +kernel) (by decide +kernel) q)),
   sat ((c (ports { up := true, contained := true } id) (.fn 0 0 0) 0 true (admits_fn _ _ rfl rfl)).2.2 (by decide +kernel) (by decide +kernel) (by decide +kernel)),
   ran (d base 0 2), ran ((e (linkOn 0) 0).1 (by decide +kernel) (by decide +kernel)), ran ((e (linkOn 1) 0).2.1 (.inr (by decide +kernel))), ran ((e (linkOn 1) 0).2.2.1 (by decide +kernel) (by decide +kernel) (by decide +kernel) (by decide +kernel)), ran ((e (linkOn 2) 0).2.2.2.1 (.inr (.inl (by decide +kernel)))),
   ran ((e (ports { up := true, lpReq := some 2 } id) 0).2.2.2.2.1 (by decide +kernel) (by unfold Half.hasRoom; decide +kernel)), ran ((e base 0).2.2.2.2.2 (by decide +kernel))⟩

def ptm (p : PtmUnit) (on : Nat) : State := onA (fun x => { x with regs := [(0x0600078, BitVec.ofNat 64 on)], ptm := p })
theorem meets_FunctionsAndTimeAct (o : Obligations.FunctionsAndTimeAct) :
    Runs (.busMasterEnableClear 0 1) base ∧ Runs (.busMasterEnableSet 0 1) base ∧ Runs (.d0Return 0 0) base ∧ Runs (.d3hotEntry 0 0) base ∧
    Runs (.bondWrite (.fn 0 0 0) .A 6) base ∧ Runs (.ptmExchange .A) (ptm {} (2 ^ 16 + 1)) ∧ Runs (.ptmExchange .B) base ∧
    Runs (.ptmResponse .A 5000) (ptm { outstanding := true } (2 ^ 16 + 1)) ∧ Runs (.ptmSyncLost .A) (ptm { outstanding := true, missed := 2 } (2 ^ 16 + 1)) ∧
    Runs (.ptmSyncLost .A) base :=
  let ⟨a, b, c⟩ := o
  have idle (part : Nat) (p : Nat) : ∀ q, base.sys.blk.ringPort q = p → (base.sys.blk.getQ q).part = part → (base.sys.blk.getQ q).replies = [] ∧ (base.sys.blk.getQ q).idxDirty = false :=
    fun q _ _ => queues_all (P := fun _ r => r.replies = [] ∧ r.idxDirty = false) _ (fun _ => ⟨rfl, rfl⟩) (by decide +kernel) (by decide +kernel) q
  ⟨ran (a base 0 1).1, sat ((a base 0 1).2.1 ⟨idle _ _, none_in rfl⟩), sat ((a base 0 0).2.2.1 ⟨idle _ _, none_in rfl⟩), ran (a base 0 0).2.2.2,
   ran (b base .A 0 0 6 (admits_fn _ _ rfl rfl) (by decide +kernel) (by decide +kernel)), ran ((c (ptm {} (2 ^ 16 + 1)) .A).1 (by decide +kernel)), ran ((c base .B).2.1 (by decide +kernel)),
   ((c (ptm { outstanding := true } (2 ^ 16 + 1)) .A).2.2.1 5000 (by decide +kernel) (by decide +kernel)).elim (fun _ k => ⟨_, k.1⟩),
   ran ((c (ptm { outstanding := true, missed := 2 } (2 ^ 16 + 1)) .A).2.2.2.1 (by decide +kernel) (by decide +kernel) (by unfold Half.hasRoom; decide +kernel)), ran ((c base .A).2.2.2.2 (by decide +kernel))⟩

/-- Requester 0 is the host and 8 a peer, with a region of context 5 at 4 GiB and one at 8 GiB, whose frame is another context's. -/
def peers (f : Half → Half) : State :=
  onA (fun x => f (objs (fun o => { o with
      regions := [(1, { ctx := 5, rd := true, wr := true, rid := 8, off := 2 ^ 32, size := 4096 }), (2, { ctx := 5, wr := true, rid := 8, off := 2 ^ 33, size := 4096 })]
      ctxs := [(5, { cx with st := .active })], frames := [(2 ^ 33 / 2 ^ 21, { mode := 1, owner := 9 })] })
    { x with regs := [(0x0600020, BitVec.ofNat 64 (0xFFFF * 2 ^ 32 + 2 ^ 31))] }))
def part3 (st : PartSt) : Half → Half := objs (fun o => { o with parts := [(3, { st := st, memSize := 2 ^ 21 })] })

theorem meets_MemoryWindowsAct (o : Obligations.MemoryWindowsAct) :
    Runs (.memoryWindowWrite (.fn 0 0 0) none 0 (2 ^ 32) [1, 2] false) (peers id) ∧ Runs (.memoryWindowWrite (.fn 0 0 8) none 0 (2 ^ 32) [1, 2] false) (peers id) ∧
    Runs (.memoryWindowRead (.fn 0 0 0) none 0 (2 ^ 32) 4) (peers id) ∧ Runs (.memoryWindowRead (.fn 0 0 8) none 0 (2 ^ 32) 4) (peers id) ∧
    Runs (.peerZeroLengthRead (.fn 0 0 0) none (2 ^ 32)) (peers id) ∧ Runs (.peerZeroLengthRead (.fn 0 0 8) none (2 ^ 32)) (peers id) ∧
    (2 ^ 32 + 4096 ≤ 2 ^ 41) ∧
    Runs (.memoryWindowWrite (.fn 0 3 0) none 0 0 [1] false) (peers (part3 .resetting)) ∧ Runs (.memoryWindowRead (.fn 0 3 0) none 0 (2 ^ 21) 1) (peers (part3 .ready)) ∧
    Runs (.memoryWindowRead (.fn 0 0 8) none 0 (2 ^ 34) 4) (peers id) ∧ Runs (.peerZeroLengthRead (.fn 0 0 8) none (2 ^ 34)) (peers id) ∧
    Runs (.memoryWindowWrite (.fn 0 0 8) none 0 (2 ^ 33) [1] false) (peers id) :=
  let ⟨a, b, c⟩ := o
  ⟨sat ((a (peers id) 0 0 0 0 (2 ^ 32) 4 (2 ^ 32) none [1, 2] ⟨(by decide +kernel), (by decide +kernel), (by decide +kernel), (by decide +kernel), (by decide +kernel)⟩).1 (.inl ⟨(by decide +kernel), (by decide +kernel), ⟨(by decide +kernel), (by decide +kernel), (by decide +kernel), (by decide +kernel)⟩, (by decide +kernel), (by decide +kernel)⟩)),
   sat ((a (peers id) 0 0 8 0 (2 ^ 32) 4 (2 ^ 32) none [1, 2] ⟨(by decide +kernel), (by decide +kernel), (by decide +kernel), (by decide +kernel), (by decide +kernel)⟩).1 (.inr ⟨(by decide +kernel), (by decide +kernel), { ctx := 5, rd := true, wr := true, rid := 8, off := 2 ^ 32, size := 4096 }, (by decide +kernel), rfl, (by decide +kernel), (by decide +kernel), (by decide +kernel), (by decide +kernel)⟩)),
   sat ((a (peers id) 0 0 0 0 (2 ^ 32) 4 (2 ^ 32) none [1, 2] ⟨(by decide +kernel), (by decide +kernel), (by decide +kernel), (by decide +kernel), (by decide +kernel)⟩).2.1 (.inl ⟨(by decide +kernel), (by decide +kernel), ⟨(by decide +kernel), (by decide +kernel), (by decide +kernel), (by decide +kernel)⟩, (by decide +kernel), (by decide +kernel)⟩)),
   sat ((a (peers id) 0 0 8 0 (2 ^ 32) 4 (2 ^ 32) none [1, 2] ⟨(by decide +kernel), (by decide +kernel), (by decide +kernel), (by decide +kernel), (by decide +kernel)⟩).2.1 (.inr ⟨(by decide +kernel), (by decide +kernel), { ctx := 5, rd := true, wr := true, rid := 8, off := 2 ^ 32, size := 4096 }, (by decide +kernel), rfl, (by decide +kernel), (by decide +kernel), (by decide +kernel), (by decide +kernel)⟩)),
   ran ((a (peers id) 0 0 0 0 (2 ^ 32) 4 (2 ^ 32) none [1, 2] ⟨(by decide +kernel), (by decide +kernel), (by decide +kernel), (by decide +kernel), (by decide +kernel)⟩).2.2 (.inl ⟨(by decide +kernel), (by decide +kernel), ⟨(by decide +kernel), (by decide +kernel), (by decide +kernel), (by decide +kernel)⟩, (by decide +kernel), (by decide +kernel)⟩)),
   ran ((a (peers id) 0 0 8 0 (2 ^ 32) 4 (2 ^ 32) none [1, 2] ⟨(by decide +kernel), (by decide +kernel), (by decide +kernel), (by decide +kernel), (by decide +kernel)⟩).2.2 (.inr ⟨(by decide +kernel), (by decide +kernel), { ctx := 5, rd := true, wr := true, rid := 8, off := 2 ^ 32, size := 4096 }, (by decide +kernel), rfl, (by decide +kernel), (by decide +kernel), (by decide +kernel), (by decide +kernel)⟩)),
   ((b (peers id).sys.blk 0 0 (2 ^ 32) 4096 (2 ^ 32) (by decide +kernel)).2 rfl).2.2.1,
   sat ((c (peers (part3 .resetting)) 0 3 0 0 0 1 none [1] (by decide +kernel) (by decide +kernel) (by decide +kernel) (by unfold Half.hasRoom; decide +kernel)).1 (.inl (by decide +kernel))), sat ((c (peers (part3 .ready)) 0 3 0 0 (2 ^ 21) 1 none [] (by decide +kernel) (by decide +kernel) (by decide +kernel) (by unfold Half.hasRoom; decide +kernel)).2.1 (.inr (by decide +kernel))),
   sat ((c (peers id) 0 0 8 0 (2 ^ 34) 4 none [] (by decide +kernel) (by decide +kernel) (by decide +kernel) (by unfold Half.hasRoom; decide +kernel)).2.2.1 (2 ^ 34) (by decide +kernel) (by decide +kernel) (by decide +kernel) (by decide +kernel) (by decide +kernel) (by decide +kernel) (by decide +kernel)), ran ((c (peers id) 0 0 8 0 (2 ^ 34) 4 none [] (by decide +kernel) (by decide +kernel) (by decide +kernel) (by unfold Half.hasRoom; decide +kernel)).2.2.2.1 (2 ^ 34) (by decide +kernel) (by decide +kernel) (by decide +kernel) (by decide +kernel) (by decide +kernel) (by decide +kernel)),
   sat ((c (peers id) 0 0 8 0 (2 ^ 33) 4 none [1] (by decide +kernel) (by decide +kernel) (by decide +kernel) (by unfold Half.hasRoom; decide +kernel)).2.2.2.2 (2 ^ 33) { ctx := 5, wr := true, rid := 8, off := 2 ^ 33, size := 4096 } (by decide +kernel) (by decide +kernel) (by decide +kernel) (by decide +kernel) (by decide +kernel) (by decide +kernel) rfl (by decide +kernel))⟩

/-- A session over DOE and one over MCTP. -/
def sec (u : SecUnit) : State := onA (fun x => objs (fun o => { o with ctxs := [(5, { cx with part := 3 })] }) { x with sec := u })
def sessions : SecUnit := { sessions := [(0, { via := .doe 0 3 }), (1, { via := .mctp 9 })], nonce := some (7, 4), alias_ := true }
def noKey : State := onA (fun x => { x with fuse := { x.fuse with identityValid := false } })
theorem meets_IdentityIsAnswered (o : Obligations.IdentityIsAnswered) :
    Runs (.spdmGetCertificate .A (.mctp 9) 0) base ∧ Runs (.spdmGetCertificate .A (.mctp 9) 1) base ∧ Runs (.spdmChallenge .A (.mctp 9) 1 []) (sec sessions) ∧
    Runs (.spdmChallenge .A (.mctp 9) 0 []) noKey ∧ Runs (.spdmMeasurements .A (.mctp 9) 9 false []) base ∧ Runs (.spdmMeasurements .A (.mctp 9) 1 true []) (sec sessions) ∧
    Runs (.spdmMeasurements .A (.mctp 9) 1 true []) base ∧ Runs (.spdmKeyExchange .A (.mctp 9)) base ∧ Runs (.spdmKeyExchange .A (.mctp 9)) (sec sessions) ∧
    Runs (.spdmKeyUpdate .A 1) (sec sessions) ∧ Runs (.spdmHeartbeat .A 1) (sec sessions) ∧ Runs (.spdmEndSession .A 1) (sec sessions) ∧
    Runs (.spdmHeartbeatTimeout .A 1) (sec sessions) ∧ Runs (.keyStage .A 0 5 1 6) (sec sessions) ∧ Runs (.keyStage .A 0 5 0 6) (sec sessions) ∧
    Runs (.keyStage .A 1 5 1 6) (sec sessions) :=
  let b := o base .A (.mctp 9) (by decide +kernel) (by decide +kernel)
  let c := o (sec sessions) .A (.mctp 9) (by decide +kernel) (by decide +kernel)
  let d := o (sec sessions) .A (.doe 0 3) (by decide +kernel) (by decide +kernel)
  let ⟨s1, s2, s3, s4⟩ := c.2.2.2.2.2.2.2.2 1 { via := .mctp 9 } rfl rfl
  let ⟨_, _, _, s5⟩ := d.2.2.2.2.2.2.2.2 0 { via := .doe 0 3 } rfl rfl
  ⟨ran ((b.1 0).1 (.inl ⟨rfl, (by decide +kernel)⟩)), ran ((b.1 1).2 (fun h => h.elim (fun k => absurd k.1 (by decide)) (fun k => absurd k.2 (by decide +kernel)))),
   ran ((c.2.1 1 []).1 (.inr ⟨rfl, (by decide +kernel)⟩)), ran (((o noKey .A (.mctp 9) (by decide +kernel) (by decide +kernel)).2.1 0 []).2 (fun h => h.elim (fun k => absurd k.2 (by decide +kernel)) (fun k => absurd k.1 (by decide)))),
   ran ((b.2.2.1 9 []).1 (by decide) (by decide)), ran ((c.2.2.1 1 []).2.1 (by decide) (by decide) (by decide +kernel)), ran ((b.2.2.1 1 []).2.2 (by decide +kernel)),
   ran (b.2.2.2.2.2.2.1 (none_in rfl) (by decide +kernel) 0 (by decide +kernel)), ran (c.2.2.2.2.2.2.2.1 (.inl ⟨(1, { via := .mctp 9 }), (by decide +kernel), rfl⟩)),
   ran s1, ran s2, ran s3.1, ran (s3.2 (by unfold Half.hasRoom; decide +kernel)), ran (s5.1 0 3 { cx with part := 3 } 5 1 6 0 rfl (by decide) (by decide +kernel) rfl (by decide) (by decide) (by decide) (by decide) (by decide +kernel)),
   ran (s5.2 5 0 6 (.inr (.inl rfl))), ran (s4.2 5 1 6 (.inl (by decide +kernel)))⟩

/-- A token for level 2 with the nonce 7; its signature is a free value. -/
def token : List Byte := leBytes 4 1 ++ leBytes 8 0 ++ leBytes 32 7 ++ [2] ++ List.replicate 99 0
theorem token_ok (k : Config.sigValid 0 (token.take 48) (token.drop 48)) : ((sec sessions).sys.half .A).tokenOk token = true := by
  have : Config.sigValid ((sec sessions).sys.half .A).fuse.debugKey (token.take 48) (token.drop 48) = true := k
  unfold Half.tokenOk
  rw [this]
  decide +kernel
def fusedOff : State := onA (fun x => { x with fuse := { x.fuse with debugFusedOff := true }, sec := sessions })
theorem meets_DebugIsAuthenticated (o : Obligations.DebugIsAuthenticated) :
    Runs (.debugNonce .A 1) (sec sessions) ∧ (Config.sigValid 0 (token.take 48) (token.drop 48) → Runs (.debugUnlock .A 1 token) (sec sessions)) ∧
    Runs (.debugUnlock .A 1 token) fusedOff ∧ Runs (.debugLock .A 1) (sec { sessions with debugLevel := 2 }) ∧ Runs (.debugNonceLapse .A) (sec sessions) ∧
    Runs (.debugRelock (.fn 0 0 0) .A) (sec { sessions with debugLevel := 2 }) :=
  let a := o (sec sessions) .A
  let ⟨n, u, _, _⟩ := a.1 1 { via := .mctp 9 } 9 rfl rfl
  ⟨ran n, fun k => ran (u token rfl (token_ok k) (by decide +kernel) (by decide +kernel) (by unfold Half.hasRoom; decide +kernel)), ran (((o fusedOff .A).1 1 { via := .mctp 9 } 9 rfl rfl).2.2.1 token (.inl rfl) (by unfold Half.hasRoom; decide +kernel)),
   ran (((o (sec { sessions with debugLevel := 2 }) .A).1 1 { via := .mctp 9 } 9 rfl rfl).2.2.2 (by unfold Half.hasRoom; decide +kernel)), ran a.2.2.1,
   ran ((o (sec { sessions with debugLevel := 2 }) .A).2.2.2 (.fn 0 0 0) (admits_fn _ _ rfl rfl) (by unfold Half.hasRoom; decide +kernel))⟩

theorem pick_one (b : Blk) (h : HalfId) (mask k1 k2 k3 a : Nat) (hn : b.portSlots h mask ≠ []) (ha : ∀ k ∈ b.portSlots h mask, k = a) :
    b.pickPort h mask k1 k2 k3 = some a := by
  unfold Blk.pickPort
  cases e : b.portSlots h mask with
  | nil => exact absurd e hn
  | cons c l =>
    simp only [List.isEmpty_cons, Bool.false_eq_true, if_false]
    rw [List.getElem?_eq_getElem (Nat.mod_lt _ (by simp))]
    have ha : ∀ k ∈ c :: l, k = a := e ▸ ha
    exact congrArg some (ha _ (List.getElem_mem _))
theorem answer_port (x : Half) (b : Blk) (dst tag a : Nat) (hn : b.portSlots x.id (x.routeMask dst) ≠ []) (ha : ∀ k ∈ b.portSlots x.id (x.routeMask dst), k = a) :
    x.responsePort b dst tag = some a := pick_one _ _ _ _ _ _ _ hn ha
theorem ask_port (x : Half) (b : Blk) (dst addr a : Nat) (hn : b.portSlots x.id (x.routeMask dst) ≠ []) (ha : ∀ k ∈ b.portSlots x.id (x.routeMask dst), k = a) :
    x.requestPort b dst addr = some a := pick_one _ _ _ _ _ _ _ hn ha
theorem no_port (x : Half) (b : Blk) (dst addr : Nat) (hn : b.portSlots x.id (x.routeMask dst) = []) : x.requestPort b dst addr = none := by
  simp [Half.requestPort, Blk.pickPort, hn]

/-- Half A in the fabric with a grant of everything to context 7 of package 3. -/
def grant : Nat := 15 * 2 ^ 60 + 3 * 2 ^ 40 + 7 * 2 ^ 20 + 5
def serving (f : Half → Half) : State :=
  onFab (fun x => f (objs (fun o => { o with grants := [(0, grant)], frames := [(2 ^ 30 / 2 ^ 21, { mode := 2 })], ctxs := [(5, { cx with st := .active, fabric := true })] }) x))
def pk (ty code addr len : Nat) (bs : List Byte) : FabPkt := { ty := ty, code := code, addr := addr, len := len, payload := bs, tag := 4, dst := 1, src := 3, ctx := 7 }
def lost : Half → Half := objs (fun o => { o with join := none })

theorem meets_FabricRequestsAreServed (o : Obligations.FabricRequestsAreServed) :
    Runs (.ping .A (pk 4 0 0 0 [])) (serving id) ∧ Runs (.rdReq .A (pk 1 0 (2 ^ 32) 16 [])) (serving id) ∧
    Runs (.wrReq .A (pk 2 0 (2 ^ 32) 2 [1, 2])) (serving id) ∧ Runs (.atFetchAdd .A (pk 3 1 (2 ^ 32) 8 (leBytes 16 1))) (serving id) ∧
    Runs (.atCompareSwap .A (pk 3 2 (2 ^ 32) 8 (leBytes 16 0))) (serving id) ∧ Runs (.atFenceSignal .A (pk 3 3 (2 ^ 30 + 8) 8 (leBytes 8 9))) (serving id) ∧
    Runs (.rdReq .A { pk 1 0 (2 ^ 32) 16 [] with ctx := 8 }) (serving id) ∧
    ((∃ g ∈ ((serving id).sys.half .A).obj.grants, bits g.2 19 0 = 5)) ∧
    Runs (.ping .A (pk 4 0 0 0 [])) (serving lost) ∧
    Runs (.packetForward .A 0 { pk 1 0 0 16 [] with dst := 3 }) (serving id) ∧ Runs (.packetForward .A 0 { pk 0x11 0 0 16 [] with dst := 3 }) (serving id) ∧
    Runs (.packetForward .A 0 { pk 1 0 0 16 [] with dst := 6 }) (serving id) ∧ Runs (.packetForward .A 0 { pk 1 0 0 16 [] with dst := 3, hop := 7 }) (serving id) ∧
    Runs (.packetForward .A 0 { pk 0x1F 0 0 16 [] with hop := 7 }) (serving id) ∧ Runs (.packetForward .A 15 (pk 5 0 0 0 [])) (serving id) :=
  let ⟨a, b, c, d⟩ := o
  have ok (pkt p : FabPkt) (l part : Nat) (i : Instr) (h : p.src = 3) := a (serving id) .A pkt p l part 0 i (by decide +kernel) (answer_port _ _ _ _ _ (by rw [h]; decide +kernel) (by rw [h]; decide +kernel))
  have back (p : FabPkt) (h : p.src = 3) : ((serving id).sys.half .A).responsePort (serving id).sys.blk p.src p.tag = some 0 := answer_port _ _ _ _ _ (by rw [h]; decide +kernel) (by rw [h]; decide +kernel)
  ⟨sat ((ok (pk 4 0 0 0 []) _ 0 0 _ rfl).1 rfl rfl),
   sat (((ok (pk 1 0 (2 ^ 32) 16 []) (pk 1 0 (2 ^ 32) 16 []) 5 0 _ rfl).2.1 (by decide +kernel) (by decide +kernel)).1 rfl rfl),
   sat (((ok (pk 2 0 (2 ^ 32) 2 [1, 2]) (pk 2 0 (2 ^ 32) 2 [1, 2]) 5 0 _ rfl).2.1 (by decide +kernel) (by decide +kernel)).2.1 rfl rfl rfl),
   sat (((ok (pk 3 1 (2 ^ 32) 8 (leBytes 16 1)) (pk 3 1 (2 ^ 32) 8 (leBytes 16 1)) 5 0 _ rfl).2.1 (by decide +kernel) (by decide +kernel)).2.2.1 rfl rfl (by decide +kernel)),
   sat (((ok (pk 3 2 (2 ^ 32) 8 (leBytes 16 0)) (pk 3 2 (2 ^ 32) 8 (leBytes 16 0)) 5 0 _ rfl).2.1 (by decide +kernel) (by decide +kernel)).2.2.2.1 rfl rfl (by decide +kernel)),
   sat (((ok (pk 3 3 (2 ^ 30 + 8) 8 (leBytes 8 9)) (pk 3 3 (2 ^ 30 + 8) 8 (leBytes 8 9)) 5 0 _ rfl).2.1 (by decide +kernel) (by decide +kernel)).2.2.2.2 rfl rfl (by decide +kernel) (.inl (by decide +kernel)) (by decide +kernel) (by decide +kernel)),
   sat ((ok { pk 1 0 (2 ^ 32) 16 [] with ctx := 8 } { pk 1 0 (2 ^ 32) 16 [] with ctx := 8 } 5 0 _ rfl).2.2 1 (by decide) (by decide +kernel) (by unfold Half.hasRoom; decide +kernel) (.inl ⟨rfl, rfl⟩)),
   (b ((serving id).sys.half .A) (pk 1 0 (2 ^ 32) 16 []) 5 0 (by decide +kernel)).elim (fun g k => ⟨g, k.1, k.2.elim (fun _ k => k.2.2.2.2.1)⟩),
   sat (c (serving lost) .A (pk 4 0 0 0 []) 0 (by decide +kernel) (answer_port _ _ _ _ _ (by decide +kernel) (by decide +kernel))),
   ran ((d (serving id) .A 0 { pk 1 0 0 16 [] with dst := 3 }).1 0 (by decide) (by decide +kernel) (.inl ⟨(by decide +kernel), ask_port _ _ _ _ _ (by decide +kernel) (by decide +kernel)⟩)),
   ran ((d (serving id) .A 0 { pk 0x11 0 0 16 [] with dst := 3 }).1 0 (by decide) (by decide +kernel) (.inr ⟨(by decide +kernel), answer_port _ _ _ _ _ (by decide +kernel) (by decide +kernel)⟩)),
   ran ((d (serving id) .A 0 { pk 1 0 0 16 [] with dst := 6 }).2.1 0 (by decide) (by decide +kernel) (.inr (no_port _ _ _ _ (by decide +kernel))) (back _ rfl)),
   ran ((d (serving id) .A 0 { pk 1 0 0 16 [] with dst := 3, hop := 7 }).2.2.1 0 rfl (by decide +kernel) (back _ rfl) (by unfold Half.hasRoom; decide +kernel)),
   ran ((d (serving id) .A 0 { pk 0x1F 0 0 16 [] with hop := 7 }).2.2.2.1 rfl (by decide +kernel)), ran ((d (serving id) .A 15 (pk 5 0 0 0 [])).2.2.2.2 (by decide +kernel) (by decide +kernel))⟩

/-- Half A with request 9 outstanding. -/
def asksFor (r : FabReq) (f : Half → Half) : State := onFab (fun x => f { x with fab := { x.fab with reqs := [(9, r)] } })
def writeReq : FabReq := { op := 0x20, dst := 3, ctx := 5, what := .write 0 4 1, pre := 16, va := 0x1000, addr := lineAddr }
def viaAlt (x : Half) : Half := objs (fun o => { o with routes := [(3, { primary := 1, alternate := 2 })] }) x
def cut : State := onFab (fun x => objs (fun o => { o with unreach := [3] }) x)
def draining (l : List (Nat × FabReq)) : State :=
  onFab (fun x => { x with fab := { x.fab with drains := [3], waiting := [{ writeReq with dst := 3 }], reqs := l } })
theorem meets_FabricAnswersAct (o : Obligations.FabricAnswersAct) :
    Runs (.rdData .A 9 [1, 2] false) (asksFor { op := 0x10, what := .chip 2 } id) ∧ Runs (.wrAck .A 9) (asksFor writeReq (chans [(8, { copies 6 [] with acks := 1 })])) ∧
    Runs (.nack .A 9 3) (asksFor writeReq (chans [(8, { copies 6 [] with acks := 1 })])) ∧ Runs (.atRsp .A 9 5 1 false) (asksFor { what := .fence { q := 1, slot := 3 } } id) ∧
    Runs (.pong .A 9) (asksFor { what := .ping, dst := 3 } id) ∧ Runs (.nack .A 9 4) (asksFor { what := .loss, dst := 3 } viaAlt) ∧
    Runs (.nack .A 9 4) (asksFor { what := .loss, dst := 3 } id) ∧ Runs (.wrAck .A 7) (asksFor writeReq id) ∧ Runs (.fabricReqTimeout .A 9) (asksFor writeReq id) ∧
    Runs (.unreachPing .A 3) cut ∧ Runs (.pathDrainEnd .A 3) (draining []) ∧ Runs (.pathDrainEnd .A 3) (draining [(9, writeReq)]) :=
  let ⟨a, b, c, d⟩ := o
  ⟨sat ((a (asksFor { op := 0x10, what := .chip 2 } id) .A 9 _ rfl (by decide +kernel)).1 2 _ false rfl (by decide)),
   sat ((((a (asksFor writeReq (chans [(8, { copies 6 [] with acks := 1 })])) .A 9 writeReq rfl (by decide +kernel)).2.1 0 4 1 8 rfl (by decide +kernel))).1),
   sat ((((a (asksFor writeReq (chans [(8, { copies 6 [] with acks := 1 })])) .A 9 writeReq rfl (by decide +kernel)).2.1 0 4 1 8 rfl (by decide +kernel))).2 3 (by decide +kernel) (by decide +kernel) (by decide +kernel)),
   sat ((a (asksFor { what := .fence { q := 1, slot := 3 } } id) .A 9 _ rfl (by decide +kernel)).2.2.1 { q := 1, slot := 3 } 5 rfl rfl (by decide +kernel) (by decide +kernel) 1 (.inr rfl)),
   sat ((a (asksFor { what := .ping, dst := 3 } id) .A 9 _ rfl (by decide +kernel)).2.2.2.1 rfl (by decide +kernel)),
   sat (((a (asksFor { what := .loss, dst := 3 } viaAlt) .A 9 _ rfl (by decide +kernel)).2.2.2.2 rfl).1 (by decide +kernel) (by decide +kernel)),
   sat (((a (asksFor { what := .loss, dst := 3 } id) .A 9 _ rfl (by decide +kernel)).2.2.2.2 rfl).2 (by decide +kernel) (by decide +kernel) (by decide +kernel) (by unfold Half.hasRoom; decide +kernel) (by decide +kernel)),
   sat (b (asksFor writeReq id) .A 7 [] false 0 0 _ (by decide +kernel) (by decide +kernel) (by unfold Half.hasRoom; decide +kernel) (.inr (.inl rfl))), sat (c (asksFor writeReq id) .A 9 writeReq rfl (by unfold Half.hasRoom; decide +kernel) (by decide +kernel)),
   sat ((d cut .A 3 0 0 { pkg := 1, domain := 1 } rfl (by decide +kernel)).1 (by decide +kernel) (pick_one _ _ _ _ _ _ _ (by decide +kernel) (by decide +kernel)) (by simp [Blk.pickPort, show cut.sys.blk.portSlots .A (Tab.dflt (cut.sys.half .A).obj.routes 3 {}).alternate = [] from (by decide +kernel)])),
   sat ((d (draining []) .A 3 0 0 { pkg := 1, domain := 1 } rfl (by decide +kernel)).2.1 { writeReq with dst := 3 } (by decide +kernel) (by decide +kernel) (by decide +kernel) rfl (by decide) (by decide +kernel) (ask_port _ _ _ _ _ (by decide +kernel) (by decide +kernel))),
   sat ((d (draining [(9, writeReq)]) .A 3 0 0 { pkg := 1, domain := 1 } rfl (by decide +kernel)).2.2 (by decide +kernel) (by decide +kernel))⟩

/-- Half A in the fabric with port 0 as given and an expected neighbour behind it. -/
def port0 (q : FabPort) (f : Half → Half) : State :=
  onFab (fun x => f (objs (fun o => { o with neigh := [(0, 3)] }) { x with fab := { x.fab with ports := [(0, q)] } }))
def bad0 : Lane := { recs := [(10, 10, 0, 0)] }
def joinsNow : Half → Half := objs (fun o => { o with join := none, joinCmd := some { ref := { q := 0, slot := 1 }, pkg := 1, domain := 1 } })
def judged (q : FabPort) : FabPort :=
  { q with lanes := (List.range 18).map (fun l => (l, { Tab.dflt q.lanes l {} with st := judgeLane (Tab.dflt q.lanes l {}) 0 0x2EE0FC1800000405 })) }
def up : FabPort := { st := 2, neighbour := 3 }
def sick : FabPort := { up with lanes := [(0, bad0)] }
def worn : FabPort := { sick with mask := 2 ^ 18 - 1 }

theorem meets_LinksAndLanesAct (o : Obligations.LinksAndLanesAct) :
    Runs (.linkHelloSend .A 0) (port0 {} id) ∧ Runs (.linkHello .A 0 3 1 false) (port0 {} id) ∧ Runs (.linkHello .A 0 3 2 false) (port0 {} id) ∧
    Runs (.fabricJoinLimitExpiry .A) (port0 up joinsNow) ∧ Runs (.fabricJoinLimitExpiry .A) (port0 {} joinsNow) ∧ Runs (.credit .A 15 1 7 3) base ∧
    Runs (.flitCrcFail .A 0 true) (port0 up id) ∧ Runs (.idleFlit .A 0) (port0 up id) ∧ Runs (.portDown .A 0 []) (port0 up (objs (fun o => { o with routes := [] }))) ∧
    Runs (.flitCrcFail .A 0 true) (port0 { up with fails := 7 } (objs (fun o => { o with routes := [] }))) ∧
    Runs (.linkHello .A 0 0 0 true) (port0 up (objs (fun o => { o with routes := [] }))) ∧ Runs (.laneHealthRecord .A 0 17 5) base ∧
    Runs (.laneHealthEval .A) (port0 up id) ∧ Runs (.laneHealthEval .A) (port0 sick id) ∧ Runs (.laneHealthEval .A) (port0 worn id) ∧
    Runs (.lswap .A 0 0 16) (port0 up id) ∧ Runs (.lswapAck .A 0) (port0 { up with swap := some (0, 16, false, 0x30) } id) ∧
    Runs (.laneMapConfirm .A 0) (port0 { up with swap := some (18, 18, true, 0x32) } id) ∧
    Runs (.fabGrantWrite (.fn 0 0 0) .A grant) (onA id) ∧ Runs (.fabGrantWrite (.fn 0 0 0) .A (grant + 1)) (onA id) ∧
    Runs (.fabGrantWrite (.fn 0 0 0) .A 0) (onA (objs (fun o => { o with grants := [(0, grant)] }))) :=
  have at_ (s : State) (p : Nat) (h : p < 16) := o s .A p h
  ⟨ran (((at_ (port0 {} id) 0 (by decide)).1 1 1 (.inr ⟨rfl, _, rfl, rfl, rfl⟩)).1 (by decide +kernel) (by decide +kernel)),
   sat ((((at_ (port0 {} id) 0 (by decide)).1 1 1 (.inr ⟨rfl, _, rfl, rfl, rfl⟩)).2 3 rfl (by decide +kernel) (by decide +kernel) rfl).1),
   sat ((((at_ (port0 {} id) 0 (by decide)).1 1 1 (.inr ⟨rfl, _, rfl, rfl, rfl⟩)).2 3 rfl (by decide +kernel) (by decide +kernel) rfl).2 3 2 (.inr (by decide)) (by unfold Half.hasRoom; decide +kernel)),
   sat (((at_ (port0 up joinsNow) 0 (by decide)).2.1 _ rfl rfl (by decide +kernel) (by decide +kernel) (by decide +kernel)).1 (by decide +kernel)), sat (((at_ (port0 {} joinsNow) 0 (by decide)).2.1 _ rfl rfl (by decide +kernel) (by decide +kernel) (by decide +kernel)).2 (by decide +kernel)),
   ran ((at_ base 15 (by decide)).2.2.1 1 7 3 (by decide) (by decide)),
   sat ((at_ (port0 up id) 0 (by decide)).2.2.2.1 true (.inr (by decide +kernel))), ran ((at_ (port0 up id) 0 (by decide)).2.2.2.2.1 (by decide +kernel)),
   sat (((at_ (port0 up (objs (fun o => { o with routes := [] }))) 0 (by decide)).2.2.2.2.2.1 [] (by decide +kernel) (by unfold Half.hasRoom; decide +kernel) (by decide +kernel) (by decide +kernel) (none_in rfl)).1),
   sat (((at_ (port0 { up with fails := 7 } (objs (fun o => { o with routes := [] }))) 0 (by decide)).2.2.2.2.2.1 [] (by decide +kernel) (by unfold Half.hasRoom; decide +kernel) (by decide +kernel) (by decide +kernel) (none_in rfl)).2.1 (by decide +kernel)),
   sat (((at_ (port0 up (objs (fun o => { o with routes := [] }))) 0 (by decide)).2.2.2.2.2.1 [] (by decide +kernel) (by unfold Half.hasRoom; decide +kernel) (by decide +kernel) (by decide +kernel) (none_in rfl)).2.2 0 0),
   ran ((at_ base 0 (by decide)).2.2.2.2.2.2.1 17 5),
   ran (((at_ (port0 up id) 0 (by decide)).2.2.2.2.2.2.2.1 (judged up) (by decide +kernel) (by decide +kernel)).1 (.inr (.inr (by decide +kernel)))),
   ran (((at_ (port0 sick id) 0 (by decide)).2.2.2.2.2.2.2.1 (judged sick) (by decide +kernel) (by decide +kernel)).2.1 (by decide +kernel) (by decide +kernel) 0 16 0x31 (by decide +kernel)),
   ran (((at_ (port0 worn id) 0 (by decide)).2.2.2.2.2.2.2.1 (judged worn) (by decide +kernel) (by decide +kernel)).2.2 (by decide +kernel) (by decide +kernel) (by decide +kernel)),
   ran ((at_ (port0 up id) 0 (by decide)).2.2.2.2.2.2.2.2.1 0 16 (by decide +kernel) (by decide +kernel)),
   ran (((at_ (port0 { up with swap := some (0, 16, false, 0x30) } id) 0 (by decide)).2.2.2.2.2.2.2.2.2.1 0 16 0x30).1 rfl),
   ran (((at_ (port0 { up with swap := some (18, 18, true, 0x32) } id) 0 (by decide)).2.2.2.2.2.2.2.2.2.1 18 18 0x32).2 rfl (by unfold Half.hasRoom; decide +kernel)),
   ran (((at_ (onA id) 0 (by decide)).2.2.2.2.2.2.2.2.2.2 (.fn 0 0 0) grant (admits_fn _ _ rfl rfl) (by decide +kernel) (by decide +kernel)).1 (by decide +kernel)
     ⟨⟨cx, (by decide +kernel), .inr rfl⟩, none_in (by decide +kernel)⟩ (by decide +kernel)),
   ran (((at_ (onA id) 0 (by decide)).2.2.2.2.2.2.2.2.2.2 (.fn 0 0 0) (grant + 1) (admits_fn _ _ rfl rfl) (by decide +kernel) (by decide +kernel)).2.1 (by decide +kernel)
     (fun h => h.1.elim (fun c k => absurd (Option.isSome_iff_exists.mpr ⟨c, k.1⟩) (by decide +kernel))) (by decide +kernel)),
   ran (((at_ (onA (objs (fun o => { o with grants := [(0, grant)] }))) 0 (by decide)).2.2.2.2.2.2.2.2.2.2 (.fn 0 0 0) 0 (admits_fn _ _ rfl rfl) (by decide +kernel) (by decide +kernel)).2.2 (by decide +kernel) (by decide +kernel))⟩

/-- Context 5 with a device window of 2 MiB at 4 GiB, granted to the chiplets of die ports 0 and 1. -/
def cohWin : Window := { kind := 1, owner := 5, base := 2 ^ 32, size := 2 ^ 21, enabled := true }
def cohCtx : Ctx := { cx with st := .active, dieAllow := 3 }
def cohOf (u : CohUnit) (w : Window) (f : Half → Half) : State :=
  onA (fun x => f (objs (fun o => { o with ctxs := [(5, cohCtx)], windows := [(0, w)] }) { x with coh := u }))
def credits : CohUnit := { cred := [(0, (9, 9, 9)), (1, (9, 9, 9))] }
def line0 : Nat := 2 ^ 32 / 64
def req : CohReq := { way := 3, tid := 17, ctx := 5, line := line0 }
def heldBy (p st : Nat) : CohUnit := { credits with tags := [(tagKey p line0 3, (line0, st))] }
def openAt : CohTxn := { id := 40, op := 0x41, line := line0, who := .chip 1 { req with tid := 5 }, opened := true, evict := [1] }
theorem passes (s : State) (p op : Nat) (r : CohReq) (w : Nat × Window) (h : (s.sys.half .A).ctx? r.ctx = some cohCtx ∧ bitAt cohCtx.dieAllow p ∧
    (s.sys.half .A).lineWindow (some 0) r.line = some w ∧ w.2.disabling = false ∧ w.2.kind ≠ 2) (h2 : (s.sys.half .A).fenced p = false ∧ (s.sys.half .A).breaches p op r = false) :
    s.sys.PassesReq .A p op r :=
  ⟨⟨cohCtx, h.1, rfl, by simpa [HalfId.num] using h.2.1, w, h.2.2.1, h.2.2.2.1, fun k => absurd k h.2.2.2.2⟩, h2⟩
def wrOnceTxn : CohTxn := { id := 2, op := 0x44, line := line0, who := .chip 0 req, opened := true, needData := true }

theorem meets_ChipletRequestsAct (o : Obligations.ChipletRequestsAct) :
    Runs (.rdShared .A 0 req) (cohOf { credits with txns := [openAt], next := 41 } cohWin id) ∧ Runs (.rdShared .A 0 req) (cohOf credits cohWin id) ∧
    Runs (.upgrade .A 0 req) (cohOf (heldBy 0 1) cohWin id) ∧ Runs (.rdOnce .A 0 req) (cohOf credits cohWin id) ∧ Runs (.wrOnce .A 0 req) (cohOf credits cohWin id) ∧
    Runs (.rdOwn .A 0 req) (cohOf (heldBy 1 4) cohWin id) ∧
    Runs (.rdShared .A 0 { req with rcid := some 6 }) (cohOf { credits with txns := [openAt], resv := [{ port := 0, tid := 17, rcid := some 6 }] } cohWin id) ∧
    Runs (.rdShared .A 0 req) (cohOf { credits with txns := List.replicate 896 { line := 1 } } cohWin id) ∧
    Runs (.rdShared .A 0 { req with ctx := 6 }) (cohOf credits cohWin id) ∧
    Runs (.rdShared .A 0 req) (cohOf credits cohWin (fun x => { x with dies := [(0, { st := 3 })] })) ∧
    Runs (.rdShared .A 0 { req with line := 2 ^ 34 / 64 }) (cohOf credits cohWin id) ∧
    Runs (.rdShared .A 0 req) (cohOf credits { cohWin with disabling := true } id) ∧ Runs (.rdShared .A 0 req) (cohOf (heldBy 0 1) cohWin id) ∧
    Runs (.datWr .A 0 17 (2 ^ 64 - 1) (List.replicate 64 7) false) (cohOf { credits with txns := [wrOnceTxn] } cohWin id) ∧
    Runs (.crd .A 0 1 1 1) (cohOf credits cohWin id) ∧ Runs (.crd .A 0 1 1 1) (cohOf { outq := [(0, [{ ty := 0x6D }])] } cohWin id) ∧
    Runs (.reservationGrant .A) (cohOf { credits with resv := [{ tid := 17 }] } cohWin id) ∧
    Runs (.reservationGrant .A) (cohOf { credits with resv := [{ tid := 3 }, { tid := 17, rtry := 8 }] } cohWin id) ∧
    Runs (.reservationExpiry .A 6) (cohOf { credits with resv := [{ tid := 17, rcid := some 6 }] } cohWin id) :=
  let ⟨a, b, c, d⟩ := o
  have shared (s : State) (r : CohReq) := a s .A 0 0x40 r _ (.inl ⟨rfl, rfl⟩) 9 8 8 (by decide)
  ⟨sat (((shared (cohOf { credits with txns := [openAt], next := 41 } cohWin id) req (by decide +kernel)).1 (passes _ _ _ _ (0, cohWin) (by decide +kernel) (by decide +kernel)) rfl (by decide) (by decide +kernel)).1 (by decide +kernel)),
   sat ((((shared (cohOf credits cohWin id) req (by decide +kernel)).1 (passes _ _ _ _ (0, cohWin) (by decide +kernel) (by decide +kernel)) rfl (by decide) (by decide +kernel)).2 (by decide +kernel) (by decide +kernel) (by decide +kernel) (by decide +kernel) (by decide +kernel)).1 (by decide +kernel) (.inl rfl)),
   sat ((((a (cohOf (heldBy 0 1) cohWin id) .A 0 0x42 req _ (.inr (.inr (.inl ⟨rfl, rfl⟩))) 9 8 8 (by decide) (by decide +kernel)).1 (passes _ _ _ _ (0, cohWin) (by decide +kernel) (by decide +kernel)) rfl (by decide) (by decide +kernel)).2
     (by decide +kernel) (by decide +kernel) (by decide +kernel) (by decide +kernel) (by decide +kernel)).2.1 (tagKey 0 line0 3) 1 (by decide +kernel) (by decide +kernel) (by decide) rfl),
   sat ((((a (cohOf credits cohWin id) .A 0 0x43 req _ (.inr (.inr (.inr (.inl ⟨rfl, rfl⟩)))) 9 8 8 (by decide) (by decide +kernel)).1 (passes _ _ _ _ (0, cohWin) (by decide +kernel) (by decide +kernel)) rfl (by decide) (by decide +kernel)).2
     (by decide +kernel) (by decide +kernel) (by decide +kernel) (by decide +kernel) (by decide +kernel)).2.2.1 (by decide +kernel) rfl),
   sat ((((a (cohOf credits cohWin id) .A 0 0x44 req _ (.inr (.inr (.inr (.inr ⟨rfl, rfl⟩)))) 9 8 8 (by decide) (by decide +kernel)).1 (passes _ _ _ _ (0, cohWin) (by decide +kernel) (by decide +kernel)) rfl (by decide) (by decide +kernel)).2
     (by decide +kernel) (by decide +kernel) (by decide +kernel) (by decide +kernel) (by decide +kernel)).2.2.2.1 (by decide +kernel) rfl),
   sat ((((a (cohOf (heldBy 1 4) cohWin id) .A 0 0x41 req _ (.inr (.inl ⟨rfl, rfl⟩)) 9 8 8 (by decide) (by decide +kernel)).1 (passes _ _ _ _ (0, cohWin) (by decide +kernel) (by decide +kernel)) rfl (by decide) (by decide +kernel)).2
     (by decide +kernel) (by decide +kernel) (by decide +kernel) (by decide +kernel) (by decide +kernel)).2.2.2.2 (tagKey 1 line0 3) 4 8 (9, 9) (by decide +kernel) (by decide +kernel) (by decide) (by decide) (by decide +kernel) 0x53 (.inr (.inl ⟨.inl rfl, rfl⟩))),
   sat ((shared (cohOf { credits with txns := [openAt], resv := [{ port := 0, tid := 17, rcid := some 6 }] } cohWin id) { req with rcid := some 6 } (by decide +kernel)).2.1
     (passes _ _ _ _ (0, cohWin) (by decide +kernel) (by decide +kernel)) (by decide) { port := 0, tid := 17, rcid := some 6 } (by decide +kernel) (by decide +kernel)),
   sat ((shared (cohOf { credits with txns := List.replicate 896 { line := 1 } } cohWin id) req (by decide +kernel)).2.2.1 (passes _ _ _ _ (0, cohWin) (by decide +kernel) (by decide +kernel)) rfl (by decide) (by decide +kernel)),
   sat ((shared (cohOf credits cohWin id) { req with ctx := 6 } (by decide +kernel)).2.2.2.1
     (fun k h => absurd (Option.isSome_iff_exists.mpr ⟨k, h.1⟩) (by decide +kernel)) (by unfold Half.hasRoom; decide +kernel)),
   sat (((shared (cohOf credits cohWin (fun x => { x with dies := [(0, { st := 3 })] })) req (by decide +kernel)).2.2.2.2 cohCtx ⟨(by decide +kernel), rfl, (by decide +kernel)⟩).1 (by decide +kernel)),
   sat (((shared (cohOf credits cohWin id) { req with line := 2 ^ 34 / 64 } (by decide +kernel)).2.2.2.2 cohCtx ⟨(by decide +kernel), rfl, (by decide +kernel)⟩).2.1 (by decide +kernel) (by decide +kernel) (by unfold Half.hasRoom; decide +kernel)),
   sat ((((shared (cohOf credits { cohWin with disabling := true } id) req (by decide +kernel)).2.2.2.2 cohCtx ⟨(by decide +kernel), rfl, (by decide +kernel)⟩).2.2 (0, { cohWin with disabling := true }) (by decide +kernel) (by decide +kernel)).1 (.inl rfl)),
   sat ((((shared (cohOf (heldBy 0 1) cohWin id) req (by decide +kernel)).2.2.2.2 cohCtx ⟨(by decide +kernel), rfl, (by decide +kernel)⟩).2.2 (0, cohWin) (by decide +kernel) (by decide +kernel)).2 rfl rfl (by decide +kernel) (by decide +kernel) (by unfold Half.hasRoom; decide +kernel)),
   sat (b (cohOf { credits with txns := [wrOnceTxn] } cohWin id) .A 0 17 (2 ^ 64 - 1) (List.replicate 64 7) wrOnceTxn req 9 8 9 (by decide +kernel) (by decide +kernel)
     ⟨rfl, rfl, rfl, rfl, rfl, rfl, rfl, rfl⟩ rfl rfl rfl rfl rfl rfl rfl (by decide +kernel) (by decide +kernel) (by decide +kernel) (by decide) (by decide +kernel)),
   ran ((c (cohOf credits cohWin id) .A 0 1 1 1 9 9 9 (by decide +kernel)).1 (by decide +kernel)), ran ((c (cohOf { outq := [(0, [{ ty := 0x6D }])] } cohWin id) .A 0 1 1 1 0 0 0 (by decide +kernel)).2 { ty := 0x6D } (by decide +kernel) (by decide +kernel) (by decide)),
   ran (((d (cohOf { credits with resv := [{ tid := 17 }] } cohWin id) .A { tid := 17 }).1 9 8 9 rfl (by decide +kernel) (by decide +kernel)).1 (by decide +kernel)),
   ran (((d (cohOf { credits with resv := [{ tid := 3 }, { tid := 17, rtry := 8 }] } cohWin id) .A { tid := 17, rtry := 8 }).1 9 8 9 rfl (by decide +kernel) (by decide +kernel)).2 { tid := 3 } (by decide +kernel) rfl (by decide) (by decide)),
   ran ((d (cohOf { credits with resv := [{ tid := 17, rcid := some 6 }] } cohWin id) .A { tid := 17, rcid := some 6 }).2 6 (by decide +kernel) rfl (by unfold Half.hasRoom; decide +kernel))⟩

/-- A request of die port 0 that waits for die port 1, which holds the line. -/
def snooping (op : Nat) : CohTxn := { id := 40, op := op, line := line0, who := .chip 0 req, opened := true, snoops := [(1, 0x53, 0)] }
def snooped (op st : Nat) : State := cohOf { heldBy 1 st with txns := [snooping op] } cohWin id
def evicting : CohTxn := { snooping 0x41 with snoops := [], evict := [1] }
def closing0 : CohTxn := { snooping 0x41 with snoops := [], closing := true }
def nextOne : CohTxn := { id := 41, op := 0x44, line := line0, who := .chip 1 req, needData := true }
theorem meets_SnoopAnswersAndEvictionsAct (o : Obligations.SnoopAnswersAndEvictionsAct) :
    Runs (.rspI .A 1 40) (snooped 0x41 3) ∧ Runs (.rspS .A 1 40) (snooped 0x40 3) ∧ Runs (.datSnp .A 1 40 0 true false (List.replicate 64 7)) (snooped 0x41 4) ∧
    Runs (.datSnp .A 1 40 1 false false (List.replicate 64 7)) (snooped 0x40 3) ∧ Runs (.datSnp .A 1 40 1 true false (List.replicate 64 7)) (snooped 0x40 4) ∧
    Runs (.rspIEvicting .A 1 40) (snooped 0x41 4) ∧ Runs (.snoopTimeout .A 1 40) (snooped 0x41 4) ∧
    Runs (.evc .A 1 33 line0) (cohOf (heldBy 1 3) cohWin id) ∧ Runs (.evd .A 1 33 line0 false (List.replicate 64 7)) (cohOf (heldBy 1 4) cohWin id) ∧
    Runs (.evc .A 1 33 line0) (cohOf credits cohWin id) ∧ Runs (.evd .A 1 33 line0 true []) (cohOf credits cohWin id) ∧
    Runs (.evd .A 1 33 line0 false (List.replicate 64 7)) (cohOf { heldBy 1 4 with txns := [evicting] } cohWin id) ∧
    Runs (.cohTransactionClose .A 40) (cohOf { credits with txns := [closing0] } cohWin id) ∧
    Runs (.cohTransactionClose .A 40) (cohOf { credits with txns := [closing0, nextOne] } cohWin id) :=
  let ⟨a, b, c⟩ := o
  have ready (k : CohTxn) (h : k.opened = true ∧ k.closing = false ∧ k.snoops = [] ∧ k.evict = [] ∧ k.bis = [] ∧ k.needData = false ∧ k.go = false ∧ k.way = none) : k.Ready := h
  have at41 (st : Nat) := a (snooped 0x41 st) .A 0 1 40 (tagKey 1 line0 3) st 0x53 0 9 9 8 req (snooping 0x41) (by decide)
  have at40 (st : Nat) := a (snooped 0x40 st) .A 0 1 40 (tagKey 1 line0 3) st 0x53 0 9 9 8 req (snooping 0x40) (by decide)
  have all41 := at41 4 (by decide +kernel) rfl (by decide +kernel) rfl (ready _ ⟨rfl, rfl, rfl, rfl, rfl, rfl, rfl, rfl⟩) rfl (.inr rfl) rfl rfl rfl rfl (by decide +kernel) (by decide +kernel) (by decide +kernel) (by decide +kernel) (by decide) (by decide +kernel) (by decide +kernel)
  have all40 := at40 4 (by decide +kernel) rfl (by decide +kernel) rfl (ready _ ⟨rfl, rfl, rfl, rfl, rfl, rfl, rfl, rfl⟩) rfl (.inl rfl) rfl rfl rfl rfl (by decide +kernel) (by decide +kernel) (by decide +kernel) (by decide +kernel) (by decide) (by decide +kernel) (by decide +kernel)
  have e40 := at40 3 (by decide +kernel) rfl (by decide +kernel) rfl (ready _ ⟨rfl, rfl, rfl, rfl, rfl, rfl, rfl, rfl⟩) rfl (.inl rfl) rfl rfl rfl rfl (by decide +kernel) (by decide +kernel) (by decide +kernel) (by decide +kernel) (by decide) (by decide +kernel) (by decide +kernel)
  have e41 := at41 3 (by decide +kernel) rfl (by decide +kernel) rfl (ready _ ⟨rfl, rfl, rfl, rfl, rfl, rfl, rfl, rfl⟩) rfl (.inr rfl) rfl rfl rfl rfl (by decide +kernel) (by decide +kernel) (by decide +kernel) (by decide +kernel) (by decide) (by decide +kernel) (by decide +kernel)
  have ev (s : State) (bs : List Byte) := b s .A 0 1 33 line0 9 8 9 bs
  ⟨sat e41.1, sat (e40.2.1 rfl), sat (all41.2.2.1 _ true rfl), sat (e40.2.2.2.1 _ rfl), sat (all40.2.2.2.2.1 _ rfl (by decide +kernel)), sat all41.2.2.2.2.2.1,
   sat (all41.2.2.2.2.2.2 rfl (by decide +kernel) (by decide) (by decide +kernel) (by decide +kernel) (by decide)),
   sat ((ev (cohOf (heldBy 1 3) cohWin id) [] (by decide +kernel) (by decide +kernel) (by decide +kernel)).1 (by decide +kernel) (by decide +kernel)).1, sat (((ev (cohOf (heldBy 1 4) cohWin id) (List.replicate 64 7) (by decide +kernel) (by decide +kernel) (by decide +kernel)).1 (by decide +kernel) (by decide +kernel)).2 (by decide +kernel)),
   sat ((ev (cohOf credits cohWin id) [] (by decide +kernel) (by decide +kernel) (by decide +kernel)).2.1 (by decide +kernel)).1, sat (((ev (cohOf credits cohWin id) [] (by decide +kernel) (by decide +kernel) (by decide +kernel)).2.1 (by decide +kernel)).2 true),
   sat ((ev (cohOf { heldBy 1 4 with txns := [evicting] } cohWin id) (List.replicate 64 7) (by decide +kernel) (by decide +kernel) (by decide +kernel)).2.2 evicting req 9 9 8 rfl rfl
     (ready _ ⟨rfl, rfl, rfl, rfl, rfl, rfl, rfl, rfl⟩) rfl rfl rfl (by decide) rfl (by decide +kernel) (by decide +kernel) (by decide +kernel)),
   sat ((c (cohOf { credits with txns := [closing0] } cohWin id) .A closing0 {} rfl).1 rfl),
   sat ((c (cohOf { credits with txns := [closing0, nextOne] } cohWin id) .A closing0 nextOne rfl).2 rfl (by decide) rfl (ready _ ⟨rfl, rfl, rfl, rfl, rfl, rfl, rfl, rfl⟩)
     rfl rfl rfl (by decide +kernel) (by decide +kernel))⟩

def winOf (u : CohUnit) (w : Window) (f : Half → Half) : State :=
  onA (fun x => f (bare (fun o => { o with ctxs := [(5, cohCtx)], windows := [(0, w)] }) { x with coh := u }))
def off0 : Window := { cohWin with enabled := false }
def shared0 : Window := { cohWin with hostShare := true }
/-- The line in the directory, held by ports of the host. -/
def held0 (l : List Nat) : CohUnit := { credits with hrd := [(hrdSet line0 * 16, { line := line0, st := 2, ports := l })] }
def biTxn : CohTxn := { id := 40, op := 0x41, line := line0, who := .chip 0 req, opened := true, bis := [1] }
def goTxn : CohTxn := { id := 40, op := 0x40, line := 2 ^ 40, who := .chip 0 { req with line := 2 ^ 40 }, opened := true, alone := true, go := true }
def sealed0 (x : Half) : Half := objs (fun o => { o with parts := [(0, { sealed := true })] }) x
theorem meets_WindowsAndHostLinesAct (o : Obligations.WindowsAndHostLinesAct) :
    (Runs (.windowEnable (.fn 0 0 0)) (winOf {} { cohWin with busy := true } id) ∧ Runs (.windowDisable (.fn 0 0 0)) (winOf {} { cohWin with busy := true } id) ∧
     Runs (.windowEnable (.fn 0 0 0)) (winOf {} { off0 with size := 4096 } id) ∧ Runs (.windowEnable (.fn 0 0 0)) (winOf {} off0 id) ∧
     Runs (.windowDisable (.fn 0 0 0)) (winOf {} cohWin id) ∧ Runs (.windowDisable (.fn 0 0 0)) (winOf (heldBy 1 4) cohWin id)) ∧
    (Runs (.ioRequest .A 5 true line0 [] 0) (winOf {} { cohWin with disabling := true } id) ∧ Runs (.ioRequest .A 5 false line0 [] 0) (winOf {} cohWin id) ∧
     Runs (.ioRequest .A 5 true line0 (List.replicate 64 7) 0xFF) (winOf {} cohWin id)) ∧
    (Runs (.hostMemRequest .A 1 2 line0 []) (winOf {} cohWin id) ∧ Runs (.hostMemRequest .A 1 1 line0 []) (winOf {} shared0 id) ∧
     Runs (.hostMemRequest .A 1 3 line0 (List.replicate 64 7)) (winOf (held0 [1]) shared0 id) ∧ Runs (.hostMemRequest .A 1 0 line0 []) (winOf {} cohWin sealed0) ∧
     Runs (.hostMemRequest .A 1 3 line0 []) (winOf {} cohWin sealed0)) ∧
    (Runs (.birsp .A 1 line0 none) (winOf (held0 [1]) shared0 id) ∧ Runs (.birsp .A 1 line0 (some (List.replicate 64 7))) (winOf (held0 [1]) shared0 id) ∧
     Runs (.biTimeout .A 1 line0) (winOf (held0 [1]) shared0 id) ∧
     Runs (.birsp .A 1 line0 (some (List.replicate 64 7))) (winOf { held0 [1] with txns := [biTxn] } shared0 id)) ∧
    (Runs (.hostSnoop .A 1 0 line0) (winOf {} cohWin id) ∧ Runs (.hostSnoop .A 1 1 line0) (winOf (heldBy 1 1) cohWin id) ∧
     Runs (.hostSnoop .A 1 0 line0) (winOf (heldBy 1 1) cohWin id) ∧ Runs (.hostSnoop .A 1 1 line0) (winOf (heldBy 1 4) cohWin id)) ∧
    Runs (.cxlCacheGo .A (2 ^ 40) 1 (some (List.replicate 64 7))) (winOf { credits with txns := [goTxn] } cohWin id) :=
  let ⟨a, b, c, d, e, f⟩ := o
  ⟨⟨sat ((a (winOf {} { cohWin with busy := true } id) (.fn 0 0 0) (admits_fn _ _ rfl rfl) (by decide +kernel)).1 (by decide +kernel)).1, sat ((a (winOf {} { cohWin with busy := true } id) (.fn 0 0 0) (admits_fn _ _ rfl rfl) (by decide +kernel)).1 (by decide +kernel)).2,
    sat (((a (winOf {} { off0 with size := 4096 } id) (.fn 0 0 0) (admits_fn _ _ rfl rfl) (by decide +kernel)).2 (by decide +kernel) (by decide +kernel) (by decide +kernel) (by decide +kernel) (by decide +kernel) (by decide +kernel) (by decide +kernel)).1 2 (by decide +kernel)), sat (((a (winOf {} off0 id) (.fn 0 0 0) (admits_fn _ _ rfl rfl) (by decide +kernel)).2 (by decide +kernel) (by decide +kernel) (by decide +kernel) (by decide +kernel) (by decide +kernel) (by decide +kernel) (by decide +kernel)).2.1 (by decide +kernel) (by decide +kernel)),
    sat ((((a (winOf {} cohWin id) (.fn 0 0 0) (admits_fn _ _ rfl rfl) (by decide +kernel)).2 (by decide +kernel) (by decide +kernel) (by decide +kernel) (by decide +kernel) (by decide +kernel) (by decide +kernel) (by decide +kernel)).2.2 (by decide +kernel) (by decide +kernel) (by decide +kernel) (by decide +kernel)).1 (by decide +kernel) (by decide +kernel)),
    sat ((((a (winOf (heldBy 1 4) cohWin id) (.fn 0 0 0) (admits_fn _ _ rfl rfl) (by decide +kernel)).2 (by decide +kernel) (by decide +kernel) (by decide +kernel) (by decide +kernel) (by decide +kernel) (by decide +kernel) (by decide +kernel)).2.2 (by decide +kernel) (by decide +kernel) (by decide +kernel) (by decide +kernel)).2 (tagKey 1 line0 3) line0 4 8 (9, 9) (by decide +kernel) (by decide +kernel) (by decide +kernel) (by decide +kernel))⟩,
   ⟨sat ((b (winOf {} { cohWin with disabling := true } id) .A 5 line0 0 []).1 true (by decide +kernel)), sat ((b (winOf {} cohWin id) .A 5 line0 0 []).2 (by decide +kernel) (by decide +kernel) (by decide +kernel) (by decide +kernel) (by decide +kernel) (by decide +kernel) (by decide +kernel)).1,
    sat (((b (winOf {} cohWin id) .A 5 line0 0xFF (List.replicate 64 7)).2 (by decide +kernel) (by decide +kernel) (by decide +kernel) (by decide +kernel) (by decide +kernel) (by decide +kernel) (by decide +kernel)).2 (by decide +kernel) (by decide))⟩,
   ⟨sat (((c (winOf {} cohWin id) .A 1 2 line0 [] (by decide) (by decide +kernel)).1 (by decide +kernel) (by decide +kernel) (by decide +kernel) (by decide +kernel) (by decide +kernel) (by decide +kernel)).1 (.inl rfl)),
    sat (((c (winOf {} shared0 id) .A 1 1 line0 [] (by decide) (by decide +kernel)).1 (by decide +kernel) (by decide +kernel) (by decide +kernel) (by decide +kernel) (by decide +kernel) (by decide +kernel)).2 (0, shared0) (by decide) (by decide +kernel) rfl rfl (by decide +kernel) (by decide +kernel) (by decide +kernel)),
    sat ((c (winOf (held0 [1]) shared0 id) .A 1 3 line0 (List.replicate 64 7) (by decide) (by decide +kernel)).2.1 _ _ (by decide +kernel) (by decide +kernel) rfl),
    (((c (winOf {} cohWin sealed0) .A 1 0 line0 [] (by decide) (by decide +kernel)).2.2 (by decide +kernel) (by unfold Half.hasRoom; decide +kernel)).1 (by decide)).elim (fun _ k => sat k.2),
    sat ((c (winOf {} cohWin sealed0) .A 1 3 line0 [] (by decide) (by decide +kernel)).2.2 (by decide +kernel) (by unfold Half.hasRoom; decide +kernel)).2⟩,
   ⟨sat ((d (winOf (held0 [1]) shared0 id) .A 1 line0 _ _ [] rfl rfl rfl (by decide +kernel)).1 (by decide +kernel)).1,
    sat (((d (winOf (held0 [1]) shared0 id) .A 1 line0 _ _ (List.replicate 64 7) rfl rfl rfl (by decide +kernel)).1 (by decide +kernel)).2.1 (by decide +kernel)),
    sat (((d (winOf (held0 [1]) shared0 id) .A 1 line0 _ _ [] rfl rfl rfl (by decide +kernel)).1 (by decide +kernel)).2.2 (by unfold Half.hasRoom; decide +kernel)),
    sat ((d (winOf { held0 [1] with txns := [biTxn] } shared0 id) .A 1 line0 _ _ (List.replicate 64 7) rfl rfl rfl (by decide +kernel)).2 biTxn 0 req 9 9 8 rfl rfl rfl
      ⟨rfl, rfl, rfl, rfl, rfl, rfl, rfl, rfl⟩ rfl rfl rfl rfl rfl (by decide +kernel) (by decide +kernel) (by decide +kernel))⟩,
   ⟨sat ((e (winOf {} cohWin id) .A 1 0 line0 0 0).1 (by decide +kernel)), sat (((e (winOf (heldBy 1 1) cohWin id) .A 1 1 line0 (tagKey 1 line0 3) 1).2 (by decide +kernel)).1 (by decide) (by decide)),
    sat ((((e (winOf (heldBy 1 1) cohWin id) .A 1 0 line0 (tagKey 1 line0 3) 1).2 (by decide +kernel)).2 8 (9, 9) (by decide +kernel) (by decide +kernel)).1 (by decide) rfl),
    sat ((((e (winOf (heldBy 1 4) cohWin id) .A 1 1 line0 (tagKey 1 line0 3) 4).2 (by decide +kernel)).2 8 (9, 9) (by decide +kernel) (by decide +kernel)).2 (by decide))⟩,
   sat (f (winOf { credits with txns := [goTxn] } cohWin id) .A 0 (2 ^ 40) 1 9 9 8 (List.replicate 64 7) goTxn { req with line := 2 ^ 40 } rfl rfl rfl
     ⟨rfl, rfl, rfl, rfl, rfl, rfl, rfl, rfl⟩ rfl (.inl rfl) rfl rfl rfl rfl (by decide +kernel) (by decide +kernel))⟩

/-- One ill-formed command for every check of WellFormed that looks at an operand. -/
theorem test_ill_formed_commands_are_refused : ((
  [.lockSet (.fn 4 0 0) .A, .lockSet (.fn 0 64 0) .A, .registerWrite (.fn 0 0 0) (2 ^ 26) 0 true, .registerWrite (.fn 0 0 0) 0 (2 ^ 64) true,
   .mirrorAck .A (2 ^ 32), .laneHealthRecord .A 0 0 (2 ^ 96), .laneHealthRecord .A 16 0 0, .laneHealthRecord .A 0 18 0, .islandRetentionEntry .A 14, .sprintEntry .A 4,
   .issueRampStep .A 5, .hlUp 4, .birsp .A 2 0 none, .ucieLaneRepair .A 8, .meshWriteError .A 128, .engineIssue .A 16, .spokeFail .A 32, .ctxDrainComplete .A (2 ^ 20),
   .partitionResetComplete .A 64, .packetFetch (2 ^ 14), .msixSend 0 0 (2 ^ 11), .unreachPing .A (2 ^ 12), .qosLeaseGrant .A 16 0 0, .evc .A 0 0 (2 ^ 41), .evc .A 0 256 0,
   .datWr .A 0 0 0 [1] false, .loadStepAck .A (2 ^ 32), .thermalSample .A [1], .pmcBatch .A 1 33 [{ event := 1, unit := 0, n := 33 }]] ++
  [.nop 0 { flags := 256 }, .nop 0 { len := 2 ^ 16 }, .nop 0 { ctx := 2 ^ 20 }, .nop 0 { part := 64 }, .nop 0 { tag := 2 ^ 64 }, .nop 0 { payload := List.replicate 449 0 },
   .nop 0 { trailer := some (2 ^ 64, 0) }, .rdOnce .A 0 { way := 16 }, .rdOnce .A 0 { rcid := some 128 }, .ping .A { dst := 2 ^ 12 }, .ping .A { hop := 8 }, .ping .A { len := 257 },
   .ping .A { addr := 2 ^ 64 }] ++
  [.copy 0 {} { src := 2 ^ 64 }, .fill 0 {} { pattern := 2 ^ 128 }, .writeInline 0 {} { n := 2 ^ 16 }, .copyTiled 0 {} { yCount := 2 ^ 32 }, .gather 0 {} { stride := 2 ^ 64 },
   .fenceSignal 0 {} { value := 2 ^ 64 }, .fenceWait 0 {} { limit := 2 ^ 64 }, .eventRaise 0 {} { event := 2 ^ 64 }, .transform 0 {} { op := 256 }, .reduce 0 {} { rop := 256 },
   .routeReturn 0 {} { k := 256 }, .draftOpen 0 {} { slotLog2 := 256 }, .draftSend 0 {} { op := 256 }, .draftClose 0 {} { limit := 2 ^ 32 }, .map 0 {} { entry := 2 ^ 64 },
   .pin 0 {} { count := 2 ^ 64 }, .alloc 0 {} { align := 2 ^ 64 }, .free 0 {} { va := 2 ^ 64 }, .prefetchStream 0 {} { depth := 2 ^ 32 }, .queryContext 0 {} { max := 2 ^ 32 }] ++
  [.ctxCreate 0 {} { part := 256 }, .ctxDestroy 0 {} { ctx := 2 ^ 32 }, .queueCreate 0 {} { queue := 2 ^ 16 }, .queueDestroy 0 {} { queue := 2 ^ 16 },
   .partConfig 0 {} { maxCtx := 2 ^ 32 }, .keyInstall 0 {} { slot := 256 }, .keyRetire 0 {} { slot := 256 }, .regionRegister 0 {} { rid := 2 ^ 16 },
   .regionRelease 0 {} { handle := 2 ^ 16 }, .fwStage 0 {} { offset := 2 ^ 32 }, .halfOffline 0 {} { half := 256 }, .journalRead 0 {} { count := 2 ^ 32 },
   .chipletAdmit 0 {} { chip := 256 }, .fabricJoin 0 {} { limit := 2 ^ 32 }, .diagRead 0 {} { array := 256 }] : List Instr)).all (fun c => !WellFormed c) = true := by decide +kernel
/-- The same operands at the last value the checks admit. -/
theorem test_well_formed_commands_pass : ((
  [.lockSet (.fn 3 63 0xFFFF) .A, .registerWrite (.fn 0 0 0) (2 ^ 26 - 1) (2 ^ 64 - 1) true, .laneHealthRecord .A 15 17 (2 ^ 96 - 1), .issueRampStep .A 4,
   .packetFetch (2 ^ 14 - 1), .evc .B 7 255 (2 ^ 41 - 1), .nop 0 { flags := 255, len := 2 ^ 16 - 1, ctx := 2 ^ 20 - 1, part := 63 },
   .pmcBatch .A 1 33 [{ event := 1, unit := 0, n := 32 }]] : List Instr)).all WellFormed = true := by decide +kernel

/-- The largest finite codes of Tables 09-1 and 09-2: 448, 57,344 and 65,504, and the least integers -128 and -8. -/
theorem test_formats_decode_their_largest :
    decodeRun 3 1 [0x7E] [] = [0x43E00000] ∧ decodeRun 4 1 [0x7B] [] = [0x47600000] ∧ decodeRun 2 1 [0xFF, 0x7B] [] = [0x477FE000] ∧
    decodeRun 5 1 [0x80] [] = [0xC3000000] ∧ decodeRun 6 2 [0x80] [] = [0, 0xC1000000] := by decide +kernel
/-- The eight magnitudes of E2M1 (Table 09-2) under the scale 2^0: 0, 0.5, 1, 1.5, 2, 3, 4, 6. -/
theorem test_e2m1_magnitudes :
    decodeRun 0x0C 8 [0x10, 0x32, 0x54, 0x76] [127] = [0, 0x3F000000, 0x3F800000, 0x3FC00000, 0x40000000, 0x40400000, 0x40800000, 0x40C00000] := by decide +kernel
/-- Table 09-4: NaN, and infinity with and without SAT. -/
theorem test_special_values_encode :
    (encodeRun 2 {} 0 [0x7FC00000]).1 = leBytes 2 0x7E00 ∧ (encodeRun 3 {} 0 [0x7FC00000]).1 = [0x7F] ∧ (encodeRun 4 {} 0 [0x7FC00000]).1 = [0x7F] ∧
    (encodeRun 5 {} 0 [0x7FC00000]).1 = [0] ∧ (encodeRun 3 {} 0 [0x7F800000]).1 = [0x7F] ∧ (encodeRun 3 { sat := true } 0 [0xFF800000]).1 = [0xFE] ∧
    (encodeRun 4 { sat := true } 0 [0x7F800000]).1 = [0x7B] ∧ (encodeRun 5 {} 0 [0xFF800000]).1 = [0x80] := by decide +kernel
/-- An idle machine's block time advances by 1 ns on each half with a clock (log entry 25). -/
theorem test_idle_step_is_a_nanosecond : step base = .next { base with sys := { base.sys with clk := { a := { time := 1 }, b := { time := 1 } } } } := rfl

end Sys2Proof.Tests
end

section
/-! Packets that fail their checks (R94): their queue answers them and nothing else changes. A packet that would pass with another fence value
(R112) fails by that value. -/
namespace Sys2Proof.Machine

/-! ### What differs where one queue was rewritten -/

/-- Two halves differ in queue `q` and in the mirrors sent, at most: what `Mach.OnlyQueue` says of a half, the translation unit included. -/
def Half.OnlyQueue (x y : Half) (q : Nat) : Prop :=
  (∃ qs n l, y = { x with obj := { x.obj with queues := qs }, tdm := { x.tdm with mirSeq := n, mirUnacked := l } }) ∧
  ∀ k, k ≠ q → y.queue k = x.queue k

/-- Two blocks whose halves do. -/
def Blk.OnlyQueue (b c : Blk) (q : Nat) : Prop := ∀ h, (b.half h).OnlyQueue (c.half h) q

theorem Half.OnlyQueue.refl (x : Half) (q : Nat) : x.OnlyQueue x q := ⟨⟨_, _, _, rfl⟩, fun _ _ => rfl⟩

theorem Half.OnlyQueue.trans {x y z : Half} {q : Nat} (hxy : x.OnlyQueue y q) (hyz : y.OnlyQueue z q) : x.OnlyQueue z q := by
  obtain ⟨⟨qs, n, l, rfl⟩, kxy⟩ := hxy
  obtain ⟨⟨qs', n', l', rfl⟩, kyz⟩ := hyz
  exact ⟨⟨qs', n', l', rfl⟩, fun k hk => (kyz k hk).trans (kxy k hk)⟩

theorem Blk.OnlyQueue.trans {b c d : Blk} {q : Nat} (hbc : b.OnlyQueue c q) (hcd : c.OnlyQueue d q) : b.OnlyQueue d q :=
  fun h => (hbc h).trans (hcd h)

theorem Mach.onlyQueue_of_blk {m : Mach} {b : Blk} {q : Nat} (hb : m.blk.OnlyQueue b q) : m.OnlyQueue { m with blk := b } q := by
  refine ⟨⟨rfl, rfl⟩, fun h => ?_⟩
  obtain ⟨⟨qs, n, l, e⟩, hk⟩ := hb h
  have e' : Mach.half { m with blk := b } h = _ := e
  refine ⟨?_, hk⟩
  rw [e']; rfl

theorem Half.onlyQueue_modify (x : Half) (q : Nat) (f : Queue → Queue) :
    x.OnlyQueue { x with obj := { x.obj with queues := Tab.modify x.obj.queues q f } } q :=
  ⟨⟨_, _, _, rfl⟩, fun k hk => by simp [Half.queue, Tab.dflt, Tab.look_modify, hk]⟩

theorem Blk.onlyQueue_modQ (b : Blk) (q : Nat) (f : Queue → Queue) : b.OnlyQueue (b.modQ q f) q := by
  intro g
  rcases HalfId.eq_or_other (b.queueHome q) g with rfl | rfl
  · rw [Blk.modQ, Blk.updQueue, Blk.updObj_half]
    exact Half.onlyQueue_modify _ q f
  · rw [Blk.modQ, Blk.updQueue, Blk.updObj_other]
    split
    · exact Half.onlyQueue_modify _ q f
    · exact .refl _ q

theorem Blk.onlyQueue_mirror (b : Blk) (h : HalfId) (r : MirrorRec) (q : Nat) : b.OnlyQueue (b.mirror h r) q := by
  intro g
  unfold Blk.mirror
  split
  · rcases HalfId.eq_or_other h g with rfl | rfl
    · rw [Blk.upd_half, Blk.emit_half]
      exact ⟨⟨_, _, _, rfl⟩, fun _ _ => rfl⟩
    · rw [Blk.upd_half_other, Blk.emit_half]
      exact .refl _ q
  · exact .refl _ q

/-! ### What a packet does to its queue -/

/-- The queue with another producer index. -/
def Queue.withPidx (r : Queue) (i : Nat) : Queue := { r with pidx := i }
/-- The queue with its producer index past a packet that stands at the next slot to fetch (R87). -/
def Queue.produced (r : Queue) (next : Nat) : Queue := r.withPidx (if later next r.pidx then next else r.pidx)
/-- The queue once that packet is fetched. -/
def Queue.fetchedTo (r : Queue) (next : Nat) : Queue := { r with fetchIdx := next }
/-- The queue with one more reply to write (R80). -/
def Queue.answered (r : Queue) (e : Reply) : Queue := { r with replies := r.replies ++ [e] }

section
variable (r : Queue) (i n : Nat) (e : Reply)

@[simp] theorem Queue.withPidx_st : (r.withPidx i).st = r.st := rfl
@[simp] theorem Queue.withPidx_home : (r.withPidx i).home = r.home := rfl
@[simp] theorem Queue.withPidx_fetched : (r.withPidx i).fetched = r.fetched := rfl
@[simp] theorem Queue.withPidx_inflight : (r.withPidx i).inflight = r.inflight := rfl
@[simp] theorem Queue.produced_st : (r.produced n).st = r.st := by rw [Queue.produced, Queue.withPidx_st]
@[simp] theorem Queue.produced_home : (r.produced n).home = r.home := by rw [Queue.produced, Queue.withPidx_home]
@[simp] theorem Queue.produced_fetched : (r.produced n).fetched = r.fetched := by rw [Queue.produced, Queue.withPidx_fetched]
@[simp] theorem Queue.produced_inflight : (r.produced n).inflight = r.inflight := by rw [Queue.produced, Queue.withPidx_inflight]
@[simp] theorem Queue.fetchedTo_st : (r.fetchedTo n).st = r.st := rfl
@[simp] theorem Queue.fetchedTo_home : (r.fetchedTo n).home = r.home := rfl
@[simp] theorem Queue.fetchedTo_fetched : (r.fetchedTo n).fetched = r.fetched := rfl
@[simp] theorem Queue.fetchedTo_inflight : (r.fetchedTo n).inflight = r.inflight := rfl
@[simp] theorem Queue.answered_fetched : (r.answered e).fetched = r.fetched := rfl

theorem Queue.answered_fetchedTo_withPidx :
    ((r.withPidx i).fetchedTo n).answered e = { r with pidx := i, fetchIdx := n, replies := r.replies ++ [e] } := rfl

end

/-- The reply of a packet whose Completion record nothing waits for (R80). -/
def replyOf (h : HalfId) (ref : PktRef) (st det res fa : Nat) : Reply :=
  { ref := ref, status := st, detail := det, half := h, result := res % 2 ^ 64, faultAddr := fa % 2 ^ 64 }

theorem Mach.replied_iff (m m' : Mach) (q : Nat) (p : Pkt) (st det res fa : Nat) :
    m.Replied m' q p st det res fa ↔ m'.blk.getQ q =
      (((m.blk.getQ q).produced (((m.blk.getQ q).fetchIdx + p.hdr.slots) % 2 ^ 32)).fetchedTo
        (((m.blk.getQ q).fetchIdx + p.hdr.slots) % 2 ^ 32)).answered (replyOf (m.blk.queueHome q) (m.refOf q p) st det res fa) := by
  rw [Queue.produced, Queue.answered_fetchedTo_withPidx]
  exact Iff.rfl

/-! ### A packet that ends (R80) -/

theorem Blk.onlyQueue_finish (b : Blk) (h : HalfId) (ref : PktRef) (st det res fa : Nat) (tr : Option (Nat × Nat)) (sync : Bool) :
    b.OnlyQueue (b.finish h ref st det res fa tr sync) ref.q :=
  (b.onlyQueue_mirror h _ ref.q).trans (Blk.onlyQueue_modQ _ ref.q _)

/-- A packet that ends without a trailer, on a queue with nothing fetched or in flight, leaves its reply there. -/
theorem Blk.getQ_finish_idle (b : Blk) (h : HalfId) (ref : PktRef) (st det res fa : Nat) (hp : (b.getQ ref.q).st ≠ .absent)
    (hf : (b.getQ ref.q).fetched = []) (hi : (b.getQ ref.q).inflight = []) :
    (b.finish h ref st det res fa none true).getQ ref.q = (b.getQ ref.q).answered (replyOf h ref st det res fa) := by
  have hm : ∀ r, (b.mirror h r).getQ ref.q = b.getQ ref.q := fun r => (b.sameQueues_mirror h r).getQ ref.q
  unfold Blk.finish
  rw [(Blk.getQ_modQ _ ref.q _ ?_ ?_).2, hm]
  · simp [hf, hi, Queue.answered, replyOf]
  · rwa [hm]
  · exact fun _ => ⟨rfl, Iff.rfl⟩

/-! ### A packet that fails its checks (R94) -/

theorem Half.checkPkt_onlyQueue {x y : Half} {k : Nat} (e : x.OnlyQueue y k) (q : Nat) (r : Queue) (p : Pkt) (more : List Nat) :
    y.checkPkt q r p more = x.checkPkt q r p more := by
  obtain ⟨⟨qs, n, l, rfl⟩, -⟩ := e
  rfl

theorem adminErrs_onlyQueue {x y : Half} {k : Nat} (e : x.OnlyQueue y k) (p : Pkt) : adminErrs y p = adminErrs x p := by
  obtain ⟨⟨qs, n, l, rfl⟩, -⟩ := e
  rfl

/-- The checks do not look at a queue's producer index. -/
theorem Half.checkPkt_withPidx (x : Half) (q : Nat) (r : Queue) (i : Nat) (p : Pkt) (more : List Nat) :
    x.checkPkt q (r.withPidx i) p more = x.checkPkt q r p more := rfl

/-- The status and DETAIL a queue's packet is refused with at its home (R94), none where it passes. -/
def Blk.refusal (b : Blk) (q : Nat) (p : Pkt) : Option (Nat × Nat) :=
  let x := b.half (b.queueHome q)
  x.checkPkt q (b.getQ q) p (if q = 0 then adminErrs x p else [])

/-- A packet that fails a check is answered at once. -/
theorem Blk.takePkt_refused {b : Blk} {q idx st det : Nat} {p : Pkt} {sync : Bool} (hc : b.refusal q p = some (st, det)) :
    b.takePkt q idx p sync = (b.modQ q (·.fetchedTo ((idx + p.hdr.slots) % 2 ^ 32))).finish (b.queueHome q)
      { q := q, slot := idx, nslots := p.hdr.slots, tag := p.hdr.tag, flags := p.hdr.flags } st det 0 0 none sync := by
  unfold Blk.refusal at hc
  simp only [Blk.takePkt, hc]
  rfl

/-- Taking a packet that fails a check answers it, on a queue with nothing fetched or in flight. -/
theorem Blk.takePkt_refused_idle {b : Blk} {q idx st det : Nat} {p : Pkt} (hc : b.refusal q p = some (st, det)) (hp : (b.getQ q).st ≠ .absent)
    (hf : (b.getQ q).fetched = []) (hi : (b.getQ q).inflight = []) :
    b.OnlyQueue (b.takePkt q idx p true) q ∧ (b.takePkt q idx p true).getQ q =
      ((b.getQ q).fetchedTo ((idx + p.hdr.slots) % 2 ^ 32)).answered (replyOf (b.queueHome q)
        { q := q, slot := idx, nslots := p.hdr.slots, tag := p.hdr.tag, flags := p.hdr.flags } st det 0 0) := by
  rw [Blk.takePkt_refused hc]
  generalize (idx + p.hdr.slots) % 2 ^ 32 = next
  have e1 := b.onlyQueue_modQ q (·.fetchedTo next)
  obtain ⟨-, q1⟩ := b.getQ_modQ q (·.fetchedTo next) hp fun k => ⟨k.fetchedTo_home next, by rw [k.fetchedTo_st next]⟩
  refine ⟨e1.trans (Blk.onlyQueue_finish _ _ _ _ _ _ _ _ _), ?_⟩
  rw [Blk.getQ_finish_idle, q1] <;> simpa [q1]

/-- The block once queue `q` has taken packet `p` at its next slot to fetch (R87, R94). -/
def Blk.taking (b : Blk) (q : Nat) (p : Pkt) : Blk :=
  (b.modQ q (·.produced (((b.getQ q).fetchIdx + p.hdr.slots) % 2 ^ 32))).takePkt q (b.getQ q).fetchIdx p true

/-- On a queue that runs with nothing fetched or in flight, a packet that fails a check changes its queue alone, which answers it. -/
theorem Blk.taking_refused {b : Blk} {q st det : Nat} {p : Pkt} (hr : (b.getQ q).st = .running) (hf : (b.getQ q).fetched = [])
    (hi : (b.getQ q).inflight = []) (hc : b.refusal q p = some (st, det)) :
    b.OnlyQueue (b.taking q p) q ∧ (b.taking q p).getQ q =
      (((b.getQ q).produced (((b.getQ q).fetchIdx + p.hdr.slots) % 2 ^ 32)).fetchedTo
        (((b.getQ q).fetchIdx + p.hdr.slots) % 2 ^ 32)).answered (replyOf (b.queueHome q)
        { q := q, slot := (b.getQ q).fetchIdx, nslots := p.hdr.slots, tag := p.hdr.tag, flags := p.hdr.flags } st det 0 0) := by
  rw [Blk.taking]
  generalize hnext : ((b.getQ q).fetchIdx + p.hdr.slots) % 2 ^ 32 = next
  have hp : (b.getQ q).st ≠ .absent := by simp [hr]
  have e0 := b.onlyQueue_modQ q (·.produced next)
  obtain ⟨h0, q0⟩ := b.getQ_modQ q (·.produced next) hp fun k => ⟨k.produced_home next, by rw [k.produced_st next]⟩
  generalize b.modQ q (·.produced next) = b0 at e0 h0 q0 ⊢
  have hc0 : b0.refusal q p = some (st, det) := by
    rw [← hc, Blk.refusal, h0, q0, Half.checkPkt_onlyQueue (e0 _), adminErrs_onlyQueue (e0 _), Queue.produced, Half.checkPkt_withPidx,
      Blk.refusal]
  obtain ⟨e1, q1⟩ := Blk.takePkt_refused_idle (idx := (b.getQ q).fetchIdx) hc0 (by simpa [q0]) (by simpa [q0]) (by simpa [q0])
  rw [hnext, h0, q0] at q1
  exact ⟨e0.trans e1, q1⟩

theorem Mach.dispatchQueue_zero (m : Mach) (q : Nat) (sync : Bool) : m.dispatchQueue q sync 0 = m := rfl

theorem Queue.produced_eq_ite (n : Nat) :
    (fun r : Queue => if later n r.pidx then { r with pidx := n } else r) = (·.produced n) := by
  funext r
  rw [Queue.produced]
  split <;> rfl

/-- A queue that fetches nothing else takes a packet of a good LENGTH, and that is all where nothing is left to dispatch. -/
theorem Mach.submit_eq_taking {m : Mach} {q : Nat} {p : Pkt} (hr : (m.blk.getQ q).st = .running) (hn : (m.blk.getQ q).fetching = none)
    (hs : (m.blk.half (m.blk.queueHome q)).serves) (h4 : 4 ≤ p.hdr.len) (h32 : p.hdr.len ≤ 32)
    (ht : ((m.blk.taking q p).getQ q).fetched = []) : m.submit q p = { m with blk := m.blk.taking q p } := by
  have hl : ¬ (p.hdr.len < 4 ∨ 32 < p.hdr.len) := by omega
  have idle : ¬ ((m.blk.getQ q).st != .running ∨ ¬ (m.blk.half (m.blk.queueHome q)).serves ∨ (m.blk.getQ q).fetching.isSome) := by
    simp [hr, hn, hs]
  have go : m.submit q p = Mach.dispatchQueue { m with blk := m.blk.taking q p } q true ((m.blk.taking q p).getQ q).fetched.length := by
    simp only [Mach.submit, Blk.taking, idle, hl, if_false, Queue.produced_eq_ite]
  rw [go, ht]
  exact Mach.dispatchQueue_zero _ q true

/-- A packet that fails a check does not execute: its queue answers it, and nothing else changes. -/
theorem Mach.submit_refused {m : Mach} {q st det : Nat} {p : Pkt} (hr : (m.blk.getQ q).st = .running) (hn : (m.blk.getQ q).fetching = none)
    (hf : (m.blk.getQ q).fetched = []) (hi : (m.blk.getQ q).inflight = []) (hs : (m.blk.half (m.blk.queueHome q)).serves)
    (h4 : 4 ≤ p.hdr.len) (h32 : p.hdr.len ≤ 32) (hc : m.blk.refusal q p = some (st, det)) :
    m.OnlyQueue (m.submit q p) q ∧ m.Replied (m.submit q p) q p st det 0 0 := by
  obtain ⟨e, hq⟩ := Blk.taking_refused hr hf hi hc
  have none_left : ((m.blk.taking q p).getQ q).fetched = [] := by
    rw [hq, Queue.answered_fetched, Queue.fetchedTo_fetched, Queue.produced_fetched, hf]
  rw [Mach.replied_iff, Mach.refOf, Mach.submit_eq_taking hr hn hs h4 h32 none_left]
  exact ⟨Mach.onlyQueue_of_blk e, hq⟩

/-- A packet command submits its packet on its queue. -/
theorem exec_packetOf {c : Instr} {q : Nat} {p : Pkt} (h : packetOf c = some (q, p)) (s : State) :
    exec c s = s.onTidy fun m => m.submit q p := by
  unfold packetOf at h
  split at h
  case h_56 => cases h
  all_goals cases h; rfl

/-! ### The value checks (R81, R94 step 6) -/

theorem foldl_isSome {f : Option Nat → Nat → Option Nat} (hf : ∀ k n, (f (some k) n).isSome) (l : List Nat) (k : Nat) :
    (l.foldl f (some k)).isSome := by
  induction l generalizing k with
  | nil => rfl
  | cons n l ih =>
    obtain ⟨k', e⟩ := Option.isSome_iff_exists.1 (hf k n)
    rw [List.foldl_cons, e]
    exact ih k'

theorem detailOf_eq_none {l : List Nat} : detailOf l = none ↔ l = [] := by
  cases l with
  | nil => simp [detailOf]
  | cons n l =>
    simp only [detailOf, List.foldl_cons, Option.map_eq_none_iff, reduceCtorEq, iff_false]
    exact Option.isSome_iff_ne_none.1 (foldl_isSome (fun _ _ => rfl) l n)

/-- Two packets that the checks before the values (R94 steps 2 to 6) do not tell apart. -/
structure Pkt.SameForm (p p' : Pkt) : Prop where
  op : p.op = p'.op
  flags : p.hdr.flags = p'.hdr.flags
  ctx : p.hdr.ctx = p'.hdr.ctx
  part : p.hdr.part = p'.hdr.part
  trailer : p.hdr.trailer.isSome = p'.hdr.trailer.isSome
  reserved : ∀ r, opRow p.op = some r → p.reservedErrs r = p'.reservedErrs r
  length : ∀ r, opRow p.op = some r → p.lengthOk r = p'.lengthOk r

/-- All value errors of a packet on a queue; `more` are those of the admin opcodes. -/
def Half.valueErrs (x : Half) (q : Nat) (p : Pkt) (more : List Nat) : List Nat := userErrs x (q == 0) p ++ more ++ trailerErrs (q == 0) p

/-- A check that refuses under a guard lets pass what its guard spares and the checks after it let pass. -/
theorem pass_guard_iff {c : Prop} [Decidable c] {e : Nat × Nat} {rest : Option (Nat × Nat)} :
    (if c then some e else rest) = none ↔ ¬ c ∧ rest = none := by
  by_cases h : c
  · rw [if_pos h]
    exact ⟨nofun, fun ⟨hn, _⟩ => absurd h hn⟩
  · rw [if_neg h]
    exact ⟨fun e => ⟨h, e⟩, And.right⟩

/-- A packet that would pass with other values has no value error with those, and with its own fails by the first of its value errors. -/
theorem Half.checkPkt_of_sameForm {x : Half} {q : Nat} {r : Queue} {p p' : Pkt} {more more' : List Nat} (same : p.SameForm p')
    (pass : x.checkPkt q r p' more' = none) :
    x.valueErrs q p' more' = [] ∧ ∀ d, detailOf (x.valueErrs q p more) = some d → x.checkPkt q r p more = some (0x11, d) := by
  obtain ⟨hop, hfl, hctx, hpart, htr, hres, hlen⟩ := same
  unfold Half.checkPkt at pass ⊢
  simp only [hop, hfl, hctx, hpart, htr]
  cases hrow : opRow p'.op with
  | none => simp [hrow] at pass
  | some row =>
    rw [hop] at hres hlen
    simp only [hrow, hres row hrow, hlen row hrow] at pass ⊢
    simp only [pass_guard_iff] at pass
    obtain ⟨g1, g2, g3, g4, g5, g6, pass⟩ := pass
    simp only [g1, g2, g3, g4, g5, g6, if_false]
    cases hr : detailOf (p'.reservedErrs row) with
    | some d => simp [hr] at pass
    | none =>
      have fold : ∀ p more, userErrs x (q == 0) p ++ more ++ trailerErrs (q == 0) p = x.valueErrs q p more := fun _ _ => rfl
      simp only [hr, fold, pass_guard_iff] at pass
      obtain ⟨g7, g8, pass⟩ := pass
      simp only [fold, g7, g8, if_false]
      cases he : detailOf (x.valueErrs q p' more') with
      | some d => simp [he] at pass
      | none => exact ⟨detailOf_eq_none.1 he, fun d hd => by simp [hd]⟩

theorem findUp_eq_none {f : Nat → Bool} {lo n : Nat} (h : ∀ i, lo ≤ i → i < lo + n → f i = false) : findUp f lo n = none := by
  induction n generalizing lo with
  | zero => rfl
  | succ n ih =>
    rw [findUp, h lo (Nat.le_refl _) (by omega)]
    exact ih fun i _ _ => h i (by omega) (by omega)

/-- A word of a body has no reserved bit. -/
theorem Fd.bad_word (lo v : Nat) : (fd lo).bad v = none := by
  have full : ∀ i < 8, bits (2 ^ 64 - 1) (8 * i + 7) (8 * i) = 255 := by decide
  have none_bad : findUp (fun i => decide (Nat.land (bits v (8 * i + 7) (8 * i)) (255 - bits (2 ^ 64 - 1) (8 * i + 7) (8 * i)) ≠ 0)) 0 8 = none :=
    findUp_eq_none fun i _ hi => by
      rw [full i (by omega)]
      exact decide_eq_false (not_not_intro (Nat.and_zero _))
  exact congrArg (Option.map (lo + ·)) none_bad

/-! ### Fence values (R112) -/

@[simp] theorem named_nil : named [] = [] := rfl
theorem named_cons (c : Bool) (n : Nat) (l : List (Bool × Nat)) : named ((c, n) :: l) = if c then n :: named l else named l := by
  cases c <;> rfl

/-- A packet with another signal trailer. -/
def Pkt.withTrailer (p : Pkt) (t : Option (Nat × Nat)) : Pkt := { p with hdr := { p.hdr with trailer := t } }

/-- The value checks of the opcodes do not look at the trailer. -/
theorem userErrs_withTrailer (x : Half) (admin : Bool) (p : Pkt) (t : Option (Nat × Nat)) :
    userErrs x admin (p.withTrailer t) = userErrs x admin p := rfl
theorem adminErrs_withTrailer (x : Half) (p : Pkt) (t : Option (Nat × Nat)) : adminErrs x (p.withTrailer t) = adminErrs x p := rfl

theorem Pkt.sameForm_withTrailer (p : Pkt) (t : Option (Nat × Nat)) (ht : p.hdr.trailer.isSome = t.isSome) : p.SameForm (p.withTrailer t) where
  op := rfl
  flags := rfl
  ctx := rfl
  part := rfl
  trailer := ht
  reserved _ _ := rfl
  length _ _ := rfl

/-- A packet with other arguments. -/
def Pkt.withArgs (p : Pkt) (args : List Nat) : Pkt := { p with args := args }

theorem opRow_fence {op : Nat} (h : op = 0x10 ∨ op = 0x11) :
    ∃ fds, (opRow op).map (·.fds) = some (fd 16 :: fd 24 :: fds) := by
  rcases h with rfl | rfl
  · exact ⟨[], rfl⟩
  · exact ⟨[fd 32], rfl⟩

theorem userReserved_fence {p : Pkt} (h : p.op = 0x10 ∨ p.op = 0x11) : userReserved p = [] := by
  rcases h with h | h <;> simp [userReserved, h]

theorem inlineBytes_fence {p : Pkt} (h : p.op = 0x10 ∨ p.op = 0x11) : p.inlineBytes = 0 := by
  rcases h with h | h <;> simp [Pkt.inlineBytes, h]

theorem adminErrs_fence {x : Half} {p : Pkt} (h : p.op = 0x10 ∨ p.op = 0x11) : adminErrs x p = [] := by
  rcases h with h | h <;> simp [adminErrs, h]

theorem userErrs_fence {x : Half} {admin : Bool} {p : Pkt} (h : p.op = 0x10 ∨ p.op = 0x11) : userErrs x admin p =
    named [(badAddr admin (p.arg 0) || p.arg 0 % 8 != 0, 16), (decide (2 ^ 63 ≤ p.arg 1), 24)] := by
  rcases h with h | h <;> simp only [userErrs, h]

/-- FENCE_SIGNAL and FENCE_WAIT have no reserved bit in their VALUE. -/
theorem Pkt.sameForm_withValue {p : Pkt} {f v w : Nat} {rest : List Nat} (h : p.op = 0x10 ∨ p.op = 0x11) (ha : p.args = f :: v :: rest) :
    p.SameForm (p.withArgs (f :: w :: rest)) where
  op := rfl
  flags := rfl
  ctx := rfl
  part := rfl
  trailer := rfl
  reserved r hr := by
    obtain ⟨fds, e⟩ := opRow_fence h
    have hf : r.fds = fd 16 :: fd 24 :: fds := by simpa [hr] using e
    have h' : (p.withArgs (f :: w :: rest)).op = 0x10 ∨ (p.withArgs (f :: w :: rest)).op = 0x11 := h
    rw [Pkt.reservedErrs, Pkt.reservedErrs, userReserved_fence h, userReserved_fence h', inlineBytes_fence h, inlineBytes_fence h', ha, hf]
    simp only [Pkt.withArgs, List.zip_cons_cons, List.filterMap_cons, Fd.bad_word]
    rfl
  length r _ := by
    have h' : (p.withArgs (f :: w :: rest)).op = 0x10 ∨ (p.withArgs (f :: w :: rest)).op = 0x11 := h
    rw [Pkt.lengthOk, Pkt.lengthOk, inlineBytes_fence h, inlineBytes_fence h']
    rfl

/-- A trailer's value errors: those of its fence address and of its value (R111, R112). -/
theorem trailerErrs_some {admin : Bool} {p : Pkt} {f v : Nat} (ht : p.hdr.trailer = some (f, v)) : trailerErrs admin p =
    named [(badAddr admin f || f % 8 != 0, p.hdr.len * 16 - 16), (decide (2 ^ 63 ≤ v), p.hdr.len * 16 - 8)] := by
  simp only [trailerErrs, ht]

/-- A FENCE_SIGNAL or FENCE_WAIT that would pass with VALUE 0 fails by its own at or above 2^63, which names byte 24 of the packet. -/
theorem Half.checkPkt_value {x : Half} {q : Nat} {r : Queue} {p : Pkt} {f v : Nat} {rest more' : List Nat} (h : p.op = 0x10 ∨ p.op = 0x11)
    (ha : p.args = f :: v :: rest) (hv : 2 ^ 63 ≤ v) (pass : x.checkPkt q r (p.withArgs (f :: 0 :: rest)) more' = none) :
    x.checkPkt q r p [] = some (0x11, 12) := by
  obtain ⟨clean, refused⟩ := Half.checkPkt_of_sameForm (Pkt.sameForm_withValue h ha) pass
  have h' : (p.withArgs (f :: 0 :: rest)).op = 0x10 ∨ (p.withArgs (f :: 0 :: rest)).op = 0x11 := h
  rw [Half.valueErrs, userErrs_fence h', List.append_eq_nil_iff, List.append_eq_nil_iff] at clean
  obtain ⟨⟨goodFence, -⟩, goodTrailer⟩ := clean
  have goodTrailer : trailerErrs (q == 0) p = [] := goodTrailer
  apply refused
  have hf : (badAddr (q == 0) f || f % 8 != 0) = false := by
    simpa [named_cons, Pkt.withArgs, Pkt.arg] using goodFence
  rw [Half.valueErrs, userErrs_fence h, goodTrailer, Pkt.arg, Pkt.arg, ha, List.getD_cons_zero, List.getD_cons_succ, List.getD_cons_zero, hf,
    decide_eq_true hv]
  rfl

/-- A packet that would pass with trailer value 0 fails by its own at or above 2^63, which names the last half of the trailer. -/
theorem Half.checkPkt_trailer {x : Half} {q : Nat} {r : Queue} {p : Pkt} {f v : Nat} {more : List Nat} (ht : p.hdr.trailer = some (f, v))
    (hv : 2 ^ 63 ≤ v) (pass : x.checkPkt q r (p.withTrailer (some (f, 0))) more = none) :
    x.checkPkt q r p more = some (0x11, p.hdr.len * 8 - 4) := by
  obtain ⟨clean, refused⟩ := Half.checkPkt_of_sameForm (p.sameForm_withTrailer (some (f, 0)) (by rw [ht]; rfl)) pass
  rw [Half.valueErrs, userErrs_withTrailer, trailerErrs_some (f := f) (v := 0) rfl, List.append_eq_nil_iff] at clean
  obtain ⟨goodValues, goodFence⟩ := clean
  apply refused
  have hf : (badAddr (q == 0) f || f % 8 != 0) = false := by
    simpa [named_cons] using goodFence
  rw [Half.valueErrs, goodValues, trailerErrs_some ht, hf, decide_eq_true hv]
  exact congrArg some (by omega : (p.hdr.len * 16 - 8) / 2 = p.hdr.len * 8 - 4)

end Sys2Proof.Machine

open Sys2Proof Sys2Proof.Machine

/-- Settles O24: with the other value every check passes but the one on the value, so that check alone refuses the packet (R112), and a refused packet
is answered by its queue. -/
theorem fenceValuesKeepBit63Clear : Obligations.FenceValuesKeepBit63Clear := by
  intro c s q p hc r x passes hr hn hf hi hs h4 h32
  have refuse : ∀ d, x.checkPkt q r p (if q = 0 then adminErrs x p else []) = some (0x11, d) →
      Settles c s (fun m => s.sys.OnlyQueue m q ∧ s.sys.Replied m q p 0x11 d 0 0) :=
    fun d hd => ⟨_, exec_packetOf hc s, Mach.submit_refused hr hn hf hi hs h4 h32 hd⟩
  refine ⟨fun f v rest hop ha hv pass => refuse 12 ?_, fun f v ht hv pass => refuse _ ?_⟩
  · rw [adminErrs_fence hop, ite_self]
    exact Half.checkPkt_value hop ha hv pass
  · have pass : x.checkPkt q r (p.withTrailer (some (f, 0))) (if q = 0 then adminErrs x (p.withTrailer (some (f, 0))) else []) = none := pass
    rw [adminErrs_withTrailer] at pass
    exact Half.checkPkt_trailer ht hv pass

end

section
/-! What the collector records of a message it accepts (R430 to R433): the log ring and the first-error registers change as the message says, and
the reactions that follow (alerts, interrupts, AER, the fatal steps) leave both as they are. -/
namespace Sys2Proof.Machine

/-! ### Halves with one record of errors -/

/-- Two halves agree in the four registers WQ_ERR_FIRST_*. -/
def Half.SameFirst (x y : Half) : Prop := ∀ p, 0x0900008 ≤ p → p ≤ 0x0900020 → y.reg p = x.reg p

/-- Two halves agree in the messages that wait for the collector, the log, and the four registers WQ_ERR_FIRST_*. -/
structure Half.SameRecord (x y : Half) : Prop where
  arrived : y.err.arrived = x.err.arrived
  log : y.err.log = x.err.log
  logNext : y.err.logNext = x.err.logNext
  first : x.SameFirst y

/-- Two blocks whose halves do. -/
def Blk.SameRecord (b c : Blk) : Prop := ∀ g, (b.half g).SameRecord (c.half g)

theorem Half.SameRecord.of_regs {x y : Half} (arrived : y.err.arrived = x.err.arrived) (log : y.err.log = x.err.log)
    (logNext : y.err.logNext = x.err.logNext) (regs : y.regs = x.regs) : x.SameRecord y :=
  ⟨arrived, log, logNext, fun p _ _ => by rw [Half.reg, Half.reg, regs]⟩

theorem Half.SameRecord.refl (x : Half) : x.SameRecord x := .of_regs rfl rfl rfl rfl

theorem Half.SameRecord.trans {x y z : Half} (hxy : x.SameRecord y) (hyz : y.SameRecord z) : x.SameRecord z where
  arrived := hyz.arrived.trans hxy.arrived
  log := hyz.log.trans hxy.log
  logNext := hyz.logNext.trans hxy.logNext
  first p lo hi := (hyz.first p lo hi).trans (hxy.first p lo hi)

theorem Blk.SameRecord.refl (b : Blk) : b.SameRecord b := fun g => .refl (b.half g)

theorem Blk.SameRecord.trans {b c d : Blk} (hbc : b.SameRecord c) (hcd : c.SameRecord d) : b.SameRecord d :=
  fun g => (hbc g).trans (hcd g)

theorem Half.sameRecord_setReg (x : Half) {off : Nat} (v : W64) (apart : off < 0x0900008 ∨ 0x0900020 < off) :
    x.SameRecord (x.setReg off v) :=
  ⟨rfl, rfl, rfl, fun p lo hi => x.reg_setReg_ne v (by omega)⟩

theorem Blk.sameRecord_upd (b : Blk) (h : HalfId) {f : Half → Half} (hf : (b.half h).SameRecord (f (b.half h))) :
    b.SameRecord (b.upd h f) := by
  intro g
  rcases HalfId.eq_or_other h g with rfl | rfl
  · rwa [Blk.upd_half]
  · rw [Blk.upd_half_other]
    exact .refl _

theorem Blk.sameRecord_emit (b : Blk) (o : Output) : b.SameRecord (b.emit o) := fun g => by
  rw [Blk.emit_half]
  exact .refl _

theorem Blk.sameRecord_foldl {α : Type} {f : Blk → α → Blk} (hf : ∀ (b : Blk) a, b.SameRecord (f b a)) (l : List α) (b : Blk) :
    b.SameRecord (l.foldl f b) := by
  induction l generalizing b with
  | nil => exact .refl b
  | cons a l ih => exact (hf b a).trans (ih (f b a))

/-! ### The reactions keep the record -/

theorem Blk.sameRecord_alertUpdate (b : Blk) (h : HalfId) : b.SameRecord (b.alertUpdate h) := by
  unfold Blk.alertUpdate
  dsimp only
  split
  · exact ((b.sameRecord_upd h (.of_regs rfl rfl rfl rfl)).trans (Blk.sameRecord_emit _ _)).trans (Blk.sameRecord_emit _ _)
  · split
    · exact (b.sameRecord_upd h (.of_regs rfl rfl rfl rfl)).trans (Blk.sameRecord_emit _ _)
    · exact .refl b

theorem Blk.sameRecord_alertCause (b : Blk) (h : HalfId) (i : Nat) : b.SameRecord (b.alertCause h i) :=
  (b.sameRecord_upd h (Half.sameRecord_setReg _ _ (by decide))).trans (Blk.sameRecord_alertUpdate _ h)

theorem Blk.sameRecord_cause (b : Blk) (t : Clk) (pp part vec : Nat) : b.SameRecord (b.cause t pp part vec) := by
  unfold Blk.cause
  dsimp only
  split
  · exact .refl b
  · split
    · exact (b.sameRecord_upd _ (.of_regs rfl rfl rfl rfl)).trans (Blk.sameRecord_emit _ _)
    · exact b.sameRecord_upd _ (.of_regs rfl rfl rfl rfl)

theorem Blk.sameRecord_sendXreq (b : Blk) (h : HalfId) (r : XReq) : b.SameRecord (b.sendXreq h r) := by
  unfold Blk.sendXreq
  split
  · exact (b.sameRecord_emit _).trans (Blk.sameRecord_upd _ h (.of_regs rfl rfl rfl rfl))
  · exact .refl b

theorem Blk.sameRecord_errInterrupt (b : Blk) (t : Clk) (h : HalfId) (sev : Nat) : b.SameRecord (b.errInterrupt t h sev) := by
  unfold Blk.errInterrupt
  dsimp only
  split
  · split
    · exact (b.sameRecord_upd h (.of_regs rfl rfl rfl rfl)).trans (Blk.sameRecord_cause _ t _ 0 _)
    · exact (b.sameRecord_upd h (.of_regs rfl rfl rfl rfl)).trans (Blk.sameRecord_sendXreq _ h _)
  · exact .refl b

theorem Blk.sameRecord_partError (b : Blk) (t : Clk) (h : HalfId) (m : ErrMsg) (kind sev : Nat) :
    b.SameRecord (b.partError t h m kind sev) := by
  unfold Blk.partError
  split
  · exact .refl b
  · extract_lets b1
    have noted : b.SameRecord b1 := by
      unfold b1
      split
      · exact .refl b
      · exact b.sameRecord_upd h (.of_regs rfl rfl rfl rfl)
    split
    · exact noted.trans (Blk.sameRecord_cause _ t 0 _ _)
    · exact noted

theorem Blk.sameRecord_aerReport (b : Blk) (h : HalfId) (m : ErrMsg) (kind sev : Nat) : b.SameRecord (b.aerReport h m kind sev) := by
  unfold Blk.aerReport
  split
  · exact .refl b
  · split
    · exact .refl b
    · extract_lets pp
      split
      · exact b.sameRecord_emit _
      · exact .refl b

theorem Half.sameRecord_fatalCapture (x : Half) (t : Nat) (m : ErrMsg) (kind sev : Nat) : x.SameRecord (x.fatalCapture t m kind sev) := by
  unfold Half.fatalCapture
  split
  · exact .refl x
  · exact ((x.sameRecord_setReg _ (by decide)).trans (Half.sameRecord_setReg _ _ (by decide))).trans (Half.sameRecord_setReg _ _ (by decide))

theorem Blk.sameRecord_fatalSteps (b : Blk) (h : HalfId) (bit : Nat) : b.SameRecord (b.fatalSteps h bit) := by
  unfold Blk.fatalSteps
  extract_lets b1
  have fenced : b.SameRecord b1 := b.sameRecord_upd h (.of_regs rfl rfl rfl rfl)
  refine fenced.trans (Blk.sameRecord_foldl (fun c p => ?_) _ b1)
  extract_lets pp
  split
  · exact c.sameRecord_emit _
  · exact .refl c

theorem Blk.sameRecord_fatalReact (b : Blk) (t : Clk) (h : HalfId) (m : ErrMsg) (kind sev : Nat) :
    b.SameRecord (b.fatalReact t h m kind sev) := by
  unfold Blk.fatalReact
  split
  · exact .refl b
  · extract_lets b1 pair b2
    refine Blk.SameRecord.trans ?_ (b2.sameRecord_fatalSteps h _)
    have captured : b.SameRecord b1 := b.sameRecord_upd h (Half.sameRecord_fatalCapture _ (t.now h) m kind sev)
    unfold b2
    split
    · exact captured.trans (Blk.sameRecord_sendXreq _ h _)
    · exact captured

/-! ### What an accepted message does to the record -/

theorem Half.sameRecord_countSource (x : Half) (t source range : Nat) : x.SameRecord (x.countSource t source range).1 := by
  unfold Half.countSource
  dsimp only
  split
  · exact .of_regs rfl rfl rfl rfl
  · split <;> exact .of_regs rfl rfl rfl rfl

/-- SEVERITY as the collector handles it (R428), raised one step where the source is SEVERE (R433). -/
def Half.raisedSev (x : Half) (m : ErrMsg) : Nat :=
  if x.srcSevere m.source (min 10 ((handled m).1 / 16)) ∧ ((handled m).2 = 1 ∨ (handled m).2 = 2) then (handled m).2 + 1 else (handled m).2

/-- A message of DEFERRED or above enters the log, then the first-error record; nothing else that the collector does about it touches either. -/
theorem Blk.collect_record (b : Blk) (t : Clk) (h : HalfId) (m : ErrMsg) (debug : Bool) (deferred : 2 ≤ (b.half h).raisedSev m) :
    ∃ x, (b.half h).SameRecord x ∧
      ((x.logAdd (t.now h) m debug).1.firstError (t.now h) m (handled m).1 ((b.half h).raisedSev m)).SameRecord
        ((b.collect t h m debug).half h) := by
  unfold Blk.collect
  extract_lets x ks kind range raised sev counted c x1 doLog lg x2 b1 bits b2 b3
  have hsev : sev = x.raisedSev m := by simp [sev, raised, ks, kind, range, Half.raisedSev]
  rw [← hsev] at deferred ⊢
  have counting : x.SameRecord x1 := by
    refine Half.SameRecord.trans ?_ (Half.sameRecord_setReg _ _ (by decide))
    unfold c
    split
    · exact x.sameRecord_countSource _ _ _
    · exact .refl x
  have recorded : b1.half h = (x1.logAdd (t.now h) m debug).1.firstError (t.now h) m kind sev := by
    simp [b1, x2, lg, doLog, deferred]
  have reacting : b1.SameRecord (b3.fatalReact t h m kind sev) := by
    refine Blk.SameRecord.trans ?_ (Blk.sameRecord_fatalReact _ t h m kind sev)
    refine Blk.SameRecord.trans ?_ (Blk.sameRecord_aerReport _ h m kind sev)
    refine Blk.SameRecord.trans ?_ (Blk.sameRecord_partError _ t h m kind sev)
    refine Blk.SameRecord.trans ?_ (Blk.sameRecord_errInterrupt _ t h sev)
    exact Blk.sameRecord_foldl (fun c i => c.sameRecord_alertCause h i) bits b1
  exact ⟨x1, counting, recorded ▸ reacting h⟩

/-! ### The log (R430) -/

theorem Half.logAdd_err (x : Half) (t : Nat) (m : ErrMsg) (debug : Bool) :
    (x.logAdd t m debug).1.err =
      { x.err with log := Tab.put x.err.log x.err.logNext ⟨m, t, false, debug⟩, logNext := (x.err.logNext + 1) % 512 } := by
  unfold Half.logAdd
  extract_lets i taken z
  dsimp only
  split
  · exact Half.bump_err _ _ _ _ _
  · rfl

theorem Half.reg_logAdd_ne (x : Half) (t : Nat) (m : ErrMsg) (debug : Bool) {p : Nat} (hp : p ≠ 0x0900080) :
    (x.logAdd t m debug).1.reg p = x.reg p := by
  unfold Half.logAdd
  extract_lets i taken z
  dsimp only
  split
  · exact Half.reg_bump_ne _ _ _ _ hp
  · rfl

/-! ### The first-error registers (R431, R432) -/

@[simp] theorem Half.firstError_err (x : Half) (t : Nat) (m : ErrMsg) (kind sev : Nat) : (x.firstError t m kind sev).err = x.err := by
  unfold Half.firstError
  split
  · simp only [Half.setReg_err]
  · exact Half.setReg_err _ _ _

/-- With VALID 0 the four registers take the message. -/
theorem Half.reg_firstError_of_clear {x : Half} {t : Nat} {m : ErrMsg} {kind sev : Nat} (hv : x.regFld 0x0900010 63 63 = 0) :
    (x.firstError t m kind sev).reg 0x0900010 = BitVec.ofNat 64 (2 ^ 63 + m.addr % 2 ^ 58) ∧
    (x.firstError t m kind sev).reg 0x0900008 = BitVec.ofNat 64 (infoBits m kind sev) ∧
    (x.firstError t m kind sev).reg 0x0900018 = BitVec.ofNat 64 t ∧
    (x.firstError t m kind sev).reg 0x0900020 = BitVec.ofNat 64 (kind * 2 ^ 40 + sev * 2 ^ 32) := by
  simp [Half.firstError, hv, Half.reg_setReg_ne]

/-- With VALID 1 the merge register takes the message, and the others stay. -/
theorem Half.reg_firstError_of_valid {x : Half} {t : Nat} {m : ErrMsg} {kind sev : Nat} (hv : x.regFld 0x0900010 63 63 = 1) :
    (x.firstError t m kind sev).reg 0x0900020 = BitVec.ofNat 64 (Nat.lor (x.regFld 0x0900020 47 40) kind * 2 ^ 40 +
      max (x.regFld 0x0900020 34 32) sev * 2 ^ 32 + min 65535 (x.regFld 0x0900020 15 0 + 1)) ∧
    ∀ p, p ≠ 0x0900020 → (x.firstError t m kind sev).reg p = x.reg p := by
  have merges : x.firstError t m kind sev = x.setReg 0x0900020 _ := if_neg (by omega)
  rw [merges]
  exact ⟨x.reg_setReg _ _, fun p hp => x.reg_setReg_ne _ hp⟩

/-! ### Their fields (Table 16-9) -/

theorem fld_ofNat (n hi lo : Nat) (h64 : hi < 64) : fld (BitVec.ofNat 64 n) hi lo = bits n hi lo := by
  apply Nat.eq_of_testBit_eq
  intro i
  rw [testBit_fld, BitVec.toNat_ofNat, Nat.testBit_mod_two_pow, bits, Nat.testBit_mod_two_pow, Nat.testBit_shiftRight, Nat.add_comm lo]
  by_cases hw : i < hi + 1 - lo
  · simp [hw, show i + lo < 64 by omega]
  · simp [hw]

theorem Half.regFld_lt (x : Half) (off hi lo : Nat) : x.regFld off hi lo < 2 ^ (hi + 1 - lo) := bits_lt _ hi lo

theorem masterOf_lt (m : ErrMsg) : masterOf m < 2 ^ 16 := by
  have : b2n m.partValid ≤ 1 := by cases m.partValid <;> decide
  unfold masterOf
  omega

theorem handled_kind_lt (m : ErrMsg) : (handled m).1 < 2 ^ 8 := by
  unfold handled
  split
  case isTrue defined =>
    obtain ⟨defined, -⟩ := defined
    simp [kindDefined] at defined
    dsimp only
    omega
  case isFalse => exact (by decide : 0x9F < 2 ^ 8)

theorem handled_sev_le (m : ErrMsg) : (handled m).2 ≤ 5 := by
  unfold handled
  split
  · dsimp only; omega
  · dsimp only; split <;> omega

theorem Half.raisedSev_lt (x : Half) (m : ErrMsg) : x.raisedSev m < 2 ^ 3 := by
  have := handled_sev_le m
  unfold Half.raisedSev
  split <;> omega

theorem fld_firstAddr (a : Nat) : fld (BitVec.ofNat 64 (2 ^ 63 + a % 2 ^ 58)) 63 63 = 1 ∧
    fld (BitVec.ofNat 64 (2 ^ 63 + a % 2 ^ 58)) 57 0 = a % 2 ^ 58 := by
  simp only [fld_ofNat, Nat.reduceLT, bits, Nat.shiftRight_eq_div_pow]
  omega

theorem fld_infoBits (m : ErrMsg) {kind sev : Nat} (hk : kind < 2 ^ 8) (hs : sev < 2 ^ 3) :
    fld (BitVec.ofNat 64 (infoBits m kind sev)) 11 0 = m.source % 2 ^ 12 ∧ fld (BitVec.ofNat 64 (infoBits m kind sev)) 22 15 = kind ∧
    fld (BitVec.ofNat 64 (infoBits m kind sev)) 25 23 = sev ∧ fld (BitVec.ofNat 64 (infoBits m kind sev)) 41 26 = masterOf m ∧
    fld (BitVec.ofNat 64 (infoBits m kind sev)) 45 42 = m.access % 2 ^ 4 := by
  have hm := masterOf_lt m
  simp only [fld_ofNat, Nat.reduceLT, bits, Nat.shiftRight_eq_div_pow, infoBits]
  omega

theorem fld_merge {kind sev count : Nat} (hk : kind < 2 ^ 8) (hs : sev < 2 ^ 3) (hc : count < 2 ^ 16) :
    fld (BitVec.ofNat 64 (kind * 2 ^ 40 + sev * 2 ^ 32 + count)) 15 0 = count ∧
    fld (BitVec.ofNat 64 (kind * 2 ^ 40 + sev * 2 ^ 32 + count)) 47 40 = kind ∧
    fld (BitVec.ofNat 64 (kind * 2 ^ 40 + sev * 2 ^ 32 + count)) 34 32 = sev := by
  simp only [fld_ofNat, Nat.reduceLT, bits, Nat.shiftRight_eq_div_pow]
  omega

section
variable {x z y : Half} {t : Nat} {m : ErrMsg} {kind sev : Nat} (before : x.SameFirst z) (after : (z.firstError t m kind sev).SameFirst y)
  (hk : kind < 2 ^ 8) (hs : sev < 2 ^ 3)
include before after hk hs

theorem Half.firstError_captures (hv : x.regFld 0x0900010 63 63 = 0) :
    y.regFld 0x0900010 63 63 = 1 ∧ y.regFld 0x0900010 57 0 = m.addr % 2 ^ 58 ∧
    y.regFld 0x0900008 11 0 = m.source % 2 ^ 12 ∧ y.regFld 0x0900008 22 15 = kind ∧ y.regFld 0x0900008 25 23 = sev ∧
    y.regFld 0x0900008 41 26 = masterOf m ∧ y.regFld 0x0900008 45 42 = m.access % 2 ^ 4 ∧ y.reg 0x0900018 = BitVec.ofNat 64 t ∧
    y.regFld 0x0900020 15 0 = 0 ∧ y.regFld 0x0900020 47 40 = kind ∧ y.regFld 0x0900020 34 32 = sev := by
  have clear : z.regFld 0x0900010 63 63 = 0 := by rw [Half.regFld, before _ (by decide) (by decide)]; exact hv
  obtain ⟨addr, info, time, merge⟩ := Half.reg_firstError_of_clear (t := t) (m := m) (kind := kind) (sev := sev) clear
  obtain ⟨valid, address⟩ := fld_firstAddr m.addr
  obtain ⟨source, kindOf, sevOf, master, access⟩ := fld_infoBits m hk hs
  have merged := fld_merge hk hs (count := 0) (by decide)
  rw [Nat.add_zero, ← merge, ← after _ (by decide) (by decide)] at merged
  rw [← addr, ← after _ (by decide) (by decide)] at valid address
  rw [← info, ← after _ (by decide) (by decide)] at source kindOf sevOf master access
  rw [← after _ (by decide) (by decide)] at time
  exact ⟨valid, address, source, kindOf, sevOf, master, access, time, merged⟩

theorem Half.firstError_merges (hv : x.regFld 0x0900010 63 63 = 1) :
    y.reg 0x0900010 = x.reg 0x0900010 ∧ y.reg 0x0900008 = x.reg 0x0900008 ∧ y.reg 0x0900018 = x.reg 0x0900018 ∧
    y.regFld 0x0900020 15 0 = min 65535 (x.regFld 0x0900020 15 0 + 1) ∧
    y.regFld 0x0900020 47 40 = Nat.lor (x.regFld 0x0900020 47 40) kind ∧ y.regFld 0x0900020 34 32 = max (x.regFld 0x0900020 34 32) sev := by
  have valid : z.regFld 0x0900010 63 63 = 1 := by rw [Half.regFld, before _ (by decide) (by decide)]; exact hv
  have merge : ∀ hi lo, z.regFld 0x0900020 hi lo = x.regFld 0x0900020 hi lo :=
    fun hi lo => congrArg (fld · hi lo) (before _ (by decide) (by decide))
  obtain ⟨merged, stay⟩ := Half.reg_firstError_of_valid (t := t) (m := m) (kind := kind) (sev := sev) valid
  rw [merge, merge, merge] at merged
  have kept : ∀ p, 0x0900008 ≤ p → p < 0x0900020 → y.reg p = x.reg p := fun p lo hi =>
    ((after p lo (Nat.le_of_lt hi)).trans (stay p (Nat.ne_of_lt hi))).trans (before p lo (Nat.le_of_lt hi))
  refine ⟨kept _ (by decide) (by decide), kept _ (by decide) (by decide), kept _ (by decide) (by decide), ?_⟩
  have kinds : x.regFld 0x0900020 47 40 < 2 ^ 8 := x.regFld_lt _ 47 40
  have sevs : x.regFld 0x0900020 34 32 < 2 ^ 3 := x.regFld_lt _ 34 32
  have kindOr : Nat.lor (x.regFld 0x0900020 47 40) kind < 2 ^ 8 := Nat.or_lt_two_pow kinds hk
  have fields := fld_merge kindOr (Nat.max_lt.mpr ⟨sevs, hs⟩) (count := min 65535 (x.regFld 0x0900020 15 0 + 1)) (by omega)
  rwa [← merged, ← after _ (by decide) (by decide)] at fields

end

/-! ### Accepting the oldest message (R429) -/

theorem Blk.errorAccept_cons {b : Blk} {h : HalfId} {i : Nat} {e : ErrMsg} {dbg : Bool} {rest : List (Nat × ErrMsg × Bool)} (t : Clk)
    (arrived : (b.half h).err.arrived = (i, e, dbg) :: rest) :
    b.errorAccept t h = (b.upd h (fun y => { y with err := { y.err with arrived := rest } })).collect t h e dbg := by
  unfold Blk.errorAccept
  rw [arrived]

/-- The accepted message is the next entry of the log, and what becomes of the first-error registers is `Half.firstError`. -/
theorem Blk.errorAccept_record {b : Blk} {h : HalfId} {i : Nat} {e : ErrMsg} {dbg : Bool} {rest : List (Nat × ErrMsg × Bool)} (t : Clk)
    (arrived : (b.half h).err.arrived = (i, e, dbg) :: rest) (deferred : 2 ≤ (b.half h).raisedSev e) :
    let x := b.half h
    let y := (b.errorAccept t h).half h
    y.err.arrived = rest ∧ Tab.look y.err.log x.err.logNext = some ⟨e, t.now h, false, dbg⟩ ∧ y.err.logNext = (x.err.logNext + 1) % 512 ∧
    ∃ z, x.SameFirst z ∧ (z.firstError (t.now h) e (handled e).1 (x.raisedSev e)).SameFirst y := by
  intro x y
  let c := b.upd h (fun y => { y with err := { y.err with arrived := rest } })
  have accepting : c.half h = { x with err := { x.err with arrived := rest } } := Blk.upd_half b h _
  have raised : (c.half h).raisedSev e = x.raisedSev e := by rw [accepting]; rfl
  obtain ⟨w, counting, reacting⟩ := c.collect_record t h e dbg (raised.symm ▸ deferred)
  rw [raised, ← Blk.errorAccept_cons t arrived] at reacting
  have waiting : w.err.arrived = rest := by rw [counting.arrived, accepting]
  have next : w.err.logNext = x.err.logNext := by rw [counting.logNext, accepting]
  have err := w.logAdd_err (t.now h) e dbg
  refine ⟨?_, ?_, ?_, (w.logAdd (t.now h) e dbg).1, fun p lo hi => ?_, reacting.first⟩
  · rw [reacting.arrived, Half.firstError_err, err, waiting]
  · rw [reacting.log, Half.firstError_err, err, next]
    exact Tab.look_put _ _ _
  · rw [reacting.logNext, Half.firstError_err, err, next]
  · rw [w.reg_logAdd_ne _ _ _ (by omega), counting.first p lo hi, accepting]
    rfl

end Sys2Proof.Machine

open Sys2Proof Sys2Proof.Machine

/-- Settles O14: counting the source leaves log and first-error record as they were, the message then enters the log and the record (R430 to R432), and
no reaction to it touches either. -/
theorem acceptedMessageIsCaptured : Obligations.AcceptedMessageIsCaptured := by
  intro s h i e dbg rest kind sev0 sev arrived deferred
  obtain ⟨waiting, log, next, z, before, after⟩ := Blk.errorAccept_record s.sys.clk arrived deferred
  have hk := handled_kind_lt e
  have hs := (s.sys.half h).raisedSev_lt e
  exact ⟨{ s.sys with blk := s.sys.blk.errorAccept s.sys.clk h }, rfl, ⟨rfl, rfl⟩, waiting, log, next,
    Half.firstError_captures before after hk hs, Half.firstError_merges before after hk hs⟩

end
